-- ==== Sys2Proof/Word.lean ====
section
/-! DEFINITION. The word types of the FX-410: bytes of frames, and values of the 48-bit Time Base (R161). -/

namespace Sys2Proof

/-- One byte of a host link or fabric frame, or of the EEPROM image. -/
abbrev Byte := BitVec 8

/-- A value of the Time Base, a count of microseconds 48 bits wide (R161). -/
abbrev Time := BitVec 48

/-- A session number, or a host reference: 32-bit values chosen by the host (Table 1-1). -/
abbrev Word32 := BitVec 32

/-- A tag: generation × 512 + slot (R1). -/
abbrev Tag := BitVec 16

end Sys2Proof
end

