-- ==== Sys2Proof/Syntax.lean ====
section
/-! DEFINITION. The commands of the FX-410: one constructor for each row of spec/opcode_table.json, with the operands that
the row's rule gives it. A control request and a booking request are operands of no command: the command takes the frame at
the head of the ingress queue (R12, R157). -/

namespace Sys2Proof

/-- A fabric port P0 to P3. -/
abbrev PortId := Fin 4

/-- A station ID, 0 to 31. -/
abbrev StationId := Fin 32

/-- A slot of the exchange table, 0 to 511. -/
abbrev Slot := Fin 512

/-- The content of a trace reply (chapter 7, Table 12-6). -/
inductive Finding where
  | done
  | working
  | notSeen
deriving DecidableEq, Repr

/-- The states of a station (Table 11-1). -/
inductive StationState where
  | loading
  | standby
  | active
  | withdrawn
deriving DecidableEq, Repr

/-- One switch entry of a sighting (R134, Table 12-4). -/
structure SwitchEntry where
  switch : Nat
  cables : Nat
  lost : Nat
  load : Nat
deriving DecidableEq, Repr

/-- The commands. -/
inductive Instr where
  -- Resets and start-up
  /-- POWER_ON (R160): the number on the straps, and whether the RESET pin is asserted at power-on. -/
  | powerOn (straps : StationId) (pinAsserted : Bool)
  /-- RESET_PIN_ASSERTED (R160). -/
  | resetPinAsserted
  /-- RESET_PIN_RELEASED (R160): the number on the straps. -/
  | resetPinReleased (straps : StationId)
  /-- EEPROM_LOAD_COMPLETE (R162): the bytes read, or none where the EEPROM failed to acknowledge; and whether the host link's
  reset sequence stands on the link lanes at that moment (R167). -/
  | eepromLoadComplete (image : Option (List Byte)) (hostSequence : Bool)
  /-- EEPROM_READ_TIMEOUT (R162): whether the host link's reset sequence stands on the link lanes at that moment (R167). -/
  | eepromReadTimeout (hostSequence : Bool)
  -- Host link
  /-- HOST_REQUEST_ARRIVAL (R152): the bytes of the frame as delivered. -/
  | hostRequestArrival (frame : List Byte)
  /-- HOST_CREDIT_ARRIVAL (R154): the bytes of the frame as delivered. -/
  | hostCreditArrival (frame : List Byte)
  /-- HOST_LINK_RESET_SEQUENCE (R158). -/
  | hostLinkResetSequence
  /-- ADMISSION (R12): the booking request at the ingress head is taken up. -/
  | admission
  /-- SEND_CREDIT_RETURN (R153). -/
  | sendCreditReturn
  /-- SEND_CONTROL_REPLY (R155). -/
  | sendControlReply
  /-- SEND_NOTICE (R156). -/
  | sendNotice
  /-- SEND_RESULT (R9). -/
  | sendResult
  -- Control requests at the ingress head (R157)
  /-- CONFIGURE (R165). -/
  | configure
  /-- ENABLE (R166). -/
  | enable
  /-- WITHDRAW (R166). -/
  | withdraw
  /-- STATUS (R159). -/
  | status
  /-- READ_CONFIG (R159). -/
  | readConfig
  /-- READ_EXCHANGE (R159). -/
  | readExchange
  /-- READ_PORT (R75). -/
  | readPort
  /-- READ_ROUTE (R91). -/
  | readRoute
  /-- READ_PEER (R151). -/
  | readPeer
  /-- READ_VERDICT (R151). -/
  | readVerdict
  /-- LOOKUP (R39). -/
  | lookup
  /-- PIN (R40). -/
  | pin
  /-- FLUSH (R41). -/
  | flush
  /-- PORT_OFF_GRACEFUL (R71). -/
  | portOffGraceful
  /-- PORT_OFF_IMMEDIATE (R73). -/
  | portOffImmediate
  /-- PORT_ON (R74). -/
  | portOn
  /-- RESET_PORT (R70). -/
  | resetPort
  /-- END (R24). -/
  | endExchange
  /-- CANCEL (R24). -/
  | cancel
  /-- HOST_RESET (R158). -/
  | hostReset
  /-- UNKNOWN_REQUEST (R157). -/
  | unknownRequest
  -- Exchanges and traces
  /-- SEND_EXCHANGE (R15): the port whose arbiter sends. -/
  | sendExchange (p : PortId)
  /-- ANSWER_ARRIVAL (R17): the port it arrives on and the fields of the ANSWER (Table 12-3). -/
  | answerArrival (p : PortId) (tag : Tag) (attempt : Byte) (payload : List Byte)
  /-- ANSWER_WAIT_EXPIRY (R19). -/
  | answerWaitExpiry (slot : Slot)
  /-- HOLD_EXPIRY (R22). -/
  | holdExpiry (slot : Slot)
  /-- TRACE_TRANSMISSION (R113): the port whose arbiter sends. -/
  | traceTransmission (p : PortId)
  /-- TRACE_REPLY_ARRIVAL (R117): the port it arrives on and the fields of the TRACE REPLY (Table 12-3). -/
  | traceReplyArrival (p : PortId) (tag : Tag) (attempt : Byte) (finding : Finding) (payload : List Byte)
  /-- TRACE_WAIT_EXPIRY (R122). -/
  | traceWaitExpiry (slot : Slot)
  -- Fabric ports
  /-- SIGNAL_ARRIVING (R60). -/
  | signalArriving (p : PortId)
  /-- SIGNAL_LOST (R67). -/
  | signalLost (p : PortId)
  /-- TRAINING_WAIT_EXPIRY (R61). -/
  | trainingWaitExpiry (p : PortId)
  /-- LINK_OFFER (R61): switch identity, credit grant and reach list (Table 12-3). -/
  | linkOffer (p : PortId) (identity grant : Byte) (reachList : BitVec 64)
  /-- FABRIC_CREDIT_ARRIVAL (R68). -/
  | fabricCreditArrival (p : PortId) (count : Byte)
  /-- REACH (R63). -/
  | reach (p : PortId) (reachList : BitVec 64)
  /-- IDLE_TICK (R64). -/
  | idleTick (p : PortId)
  /-- DAMAGED_FRAME (R66). -/
  | damagedFrame (p : PortId)
  /-- LINK_SILENCE_EXPIRY (R65). -/
  | linkSilenceExpiry (p : PortId)
  /-- PORT_RESET_HOLD_EXPIRY (R70). -/
  | portResetHoldExpiry (p : PortId)
  -- Routes
  /-- PROBE_DUE (R81): the cell (target, port). -/
  | probeDue (target : Nat) (p : PortId)
  /-- PROBE_SEND (R82): the port whose arbiter sends. -/
  | probeSend (p : PortId)
  /-- ECHO (R82): the port it arrives on, the target and the probe number. -/
  | echo (p : PortId) (target number : Byte)
  /-- PROBE_WAIT_EXPIRY (R84): the cell (target, port). -/
  | probeWaitExpiry (target : Nat) (p : PortId)
  -- Failover
  /-- WORK_ITEM_TAKEN_UP (R96). -/
  | workItemTakenUp
  /-- WALK_STEP (R97). -/
  | walkStep
  /-- ENTRIES_STEP (R103). -/
  | entriesStep
  /-- PAIR_PHASE_STEP (R105). -/
  | pairPhaseStep
  /-- HELD_PHASE_STEP (R106). -/
  | heldPhaseStep
  -- Row bus
  /-- ROW_FRAME_START (R128): whether the start bit reads back dominant (R133). -/
  | rowFrameStart (readsDominant : Bool)
  /-- LOST_ARBITRATION (R128). -/
  | lostArbitration
  /-- BIT_ERROR (R129). -/
  | bitError
  /-- ROW_FRAME_SENT_WHOLE (R128). -/
  | rowFrameSentWhole
  /-- SIGHTING_RECEIVED (R139): the sender, the station state and the switch entries (Table 12-4). -/
  | sightingReceived (sender : StationId) (state : StationState) (entries : List SwitchEntry)
  /-- WITHDRAW_RECEIVED (R140). -/
  | withdrawReceived (sender : StationId)
  /-- FRAME_BROKEN_OFF (R130). -/
  | frameBrokenOff
  /-- LINE_HELD_LOW (R132). -/
  | lineHeldLow
  /-- CLEARED (R132). -/
  | cleared
  /-- DRIVE_RETRY_EXPIRY (R133). -/
  | driveRetryExpiry
  /-- PERIODIC_SIGHTING_DUE (R135). -/
  | periodicSightingDue
  /-- CHANGE_SIGHTING_DUE (R135). -/
  | changeSightingDue
  -- Peer views
  /-- PEER_ENTRY_STALE (R141). -/
  | peerEntryStale (station : StationId)
  /-- PEER_ENTRY_EXPIRED (R141). -/
  | peerEntryExpired (station : StationId)
  /-- CLEAR_HOLD_EXPIRY (R145): the switch. -/
  | clearHoldExpiry (switch : Nat)
  /-- STAGGER_EXPIRY (R147): the switch. -/
  | staggerExpiry (switch : Nat)
deriving DecidableEq, Repr

end Sys2Proof
end

