-- ==== Sys2Proof/Decode.lean ====
section
/-! DEFINITION. Decoding of the opcode table's words. The FX-410 fetches no instructions, and spec/opcode_table.json gives no
row any bits (98_reader.md counts no row with fixed bits and none with fields), so no word spells a command. The bytes and bits
that the part's lines do carry are decoded in Machine/Wire.lean. -/

namespace Sys2Proof

/-- The command that a word of the opcode table's bits spells: none, since no row has bits. -/
def decodeTableWord (_nbits _w : Nat) : Option Instr := none

end Sys2Proof
end

