-- ==== Sys2Proof/Machine/Clock.lean ====
section
/-! DEFINITION. Reckoning on the Time Base: every deadline, interval, age and latency is a difference of two Time Base values,
taken modulo 2^48 (R161). -/

namespace Sys2Proof.Machine

open Sys2Proof

/-- A duration of n microseconds. -/
def us (n : Nat) : Time := BitVec.ofNat 48 n

/-- A duration of n milliseconds. -/
def ms (n : Nat) : Time := us (n * 1000)

/-- The time from `past` to `now`, modulo 2^48 (R161). -/
def elapsed (now past : Time) : Time := now - past

/-- The moment `due` has been reached at `now`: the difference, modulo 2^48, lies in the lower half of the range. DEDUCED
(log 16) from R161: the longest wait of the part is far below 2^47 microseconds. -/
def reached (now due : Time) : Bool := (elapsed now due).toNat < 2 ^ 47

/-- `a` is earlier than `b` (log 16). -/
def isBefore (a b : Time) : Bool := a != b && reached b a

/-- A timer, given as its end while it runs, has come to its end. -/
def expired (now : Time) (timer : Option Time) : Bool :=
  match timer with
  | some due => reached now due
  | none => false

/-- The time left on a timer, or none where it does not run: a difference of Time Base values (12.1). DEDUCED (log 32): it is taken modulo
2^48 also where the moment has passed and its expiry has not been taken. -/
def timeLeft (now : Time) (timer : Option Time) : Option Time := timer.map (fun due => due - now)

end Sys2Proof.Machine
end

