-- ==== Sys2Proof/Config.lean ====
section
/-! DEFINITION. What the part fixes: the configuration items with their ranges and defaults (Table 11-2), and the sizes of
its queues. One value is free, where two rules of the spec differ (log 24). -/

namespace Sys2Proof.Config

/-- One row of Table 11-2. -/
structure ItemRange where
  low : Nat
  high : Nat
  default : Nat
deriving DecidableEq, Repr

/-- The configuration set: items 1 to 26, item n at index n - 1 (Table 11-2). -/
abbrev Settings := Vector Nat 26

/-- Table 11-2, in item order. -/
def itemTable : Vector ItemRange 26 := #v[
  ⟨5, 5000, 200⟩,      -- 1 RESPONSE WAIT, ms
  ⟨1, 7, 3⟩,           -- 2 ATTEMPT LIMIT
  ⟨2, 1000, 50⟩,       -- 3 TRACE WAIT, ms
  ⟨1, 4, 2⟩,           -- 4 TRACE LIMIT
  ⟨10, 10000, 1000⟩,   -- 5 HOLD LIMIT, ms
  ⟨1, 8, 4⟩,           -- 6 SESSION DEPTH
  ⟨8, 500, 80⟩,        -- 7 BASE PROBE INTERVAL, ms
  ⟨1, 100, 8⟩,         -- 8 PROBE WAIT, ms
  ⟨1, 50, 4⟩,          -- 9 SLOW LATENCY, ms
  ⟨0, 50, 1⟩,          -- 10 QUIET LATENCY, ms, and at most SLOW LATENCY
  ⟨2, 8, 3⟩,           -- 11 MISS LIMIT
  ⟨1, 8, 3⟩,           -- 12 RECOVER COUNT
  ⟨10, 1000, 50⟩,      -- 13 TRAINING WAIT, ms
  ⟨2, 100, 20⟩,        -- 14 LINK SILENCE, ms
  ⟨1, 1000, 100⟩,      -- 15 PORT RESET HOLD, ms
  ⟨20, 1000, 100⟩,     -- 16 SIGHTING PERIOD, ms
  ⟨1, 100, 10⟩,        -- 17 SIGHTING SPACING, ms
  ⟨2, 10, 3⟩,          -- 18 STALE LIMIT, periods
  ⟨10, 100, 50⟩,       -- 19 EXPIRY, periods
  ⟨1, 8, 3⟩,           -- 20 QUORUM, eighths
  ⟨1, 8, 2⟩,           -- 21 MIN WITNESS
  ⟨100, 60000, 2000⟩,  -- 22 CLEAR HOLD, ms
  ⟨0, 20, 2⟩,          -- 23 STAGGER UNIT, ms
  ⟨0, 15, 8⟩,          -- 24 PEER WEIGHT
  ⟨0, 255, 64⟩,        -- 25 SUSPECT PENALTY
  ⟨1, 8, 4⟩]           -- 26 CREDIT BATCH

/-- Every item at its default (R160). -/
def defaults : Settings := itemTable.map (·.default)

/-- The most frames the ingress queue holds, and the host's request credits after a reset (R152). -/
def ingressLimit : Nat := 32
/-- The most replies the control reply queue holds (R155). -/
def replyLimit : Nat := 8
/-- The most notices the notice queue holds (R156). -/
def noticeLimit : Nat := 16
/-- The most host-bound credits, and the most transmit credits of a port (R154, R68). -/
def creditLimit : Nat := 64
/-- A waiting notice follows at most this many results (R155). -/
def resultRunLimit : Nat := 8
/-- The attempt count saturates here (Table 1-1, R15). -/
def attemptLimitOfField : Nat := 15
/-- Damaged frames within the window that do not yet lose the link (R66). -/
def historyLimit : Nat := 7
/-- The window of the integrity history, in microseconds (R66). -/
def historyWindowUs : Nat := 10000
/-- The EEPROM read must have completed by then, in microseconds (R162). -/
def eepromLimitUs : Nat := 50000
/-- The length of the EEPROM image in bytes (R162). -/
def imageLength : Nat := 64
/-- The longest payload of a frame in bytes (Table 1-1, R12, R169). -/
def payloadLimit : Nat := 512
/-- Quiet echoes that lower the step (R83). -/
def quietRun : Nat := 8
/-- The highest probe step (R82). -/
def stepLimit : Nat := 3
/-- The penalty of a switch whose applied verdict is FAILING (R50). -/
def failingPenalty : Nat := 4096

/-- FREE VALUE (log 24): whether a SENT SINGLE-SHOT exchange that a walk meets with its pair unplaced gets a trace choice, as Table 7-1
says, or becomes HELD at once, as R102 and R100 say. Nothing settles the two, so nothing is known of this value. -/
opaque tracesUnplaced : Bool

end Sys2Proof.Config
end

