-- ==== Sys2Proof/Machine/Types.lean ====
section
/-! DEFINITION. The records, frames, notices and replies of the FX-410, each as the table or rule of spec/ named in its
docstring gives it. Plain data throughout. -/

namespace Sys2Proof.Machine

open Sys2Proof

/-! ## Exchanges (chapter 1) -/

/-- The pending action of a WAITING or HELD exchange (Table 1-1); TRACE stands in HELD alone. -/
inductive Action where
  | firstSend
  | resend
  | trace
deriving DecidableEq, Repr

/-- The reason of a REFUSED result (Table 1-3). -/
inductive Reason where
  | tooLong
  | badClass
  | badTarget
deriving DecidableEq, Repr

/-- The result statuses (Table 1-3). -/
inductive ResultStatus where
  | completed
  | timedOut
  | inDoubt
  | noPath
  | noRoute
  | cancelled
  | withdrawn
  | refused (reason : Reason)
deriving DecidableEq, Repr

/-- The state of an exchange that is not FREE, with the fields present in that state alone (Table 1-1). -/
inductive Phase where
  | waiting (action : Action)
  | sent (port : PortId) (deadline enteredAt : Time)
  | tracing (port : PortId) (deadline enteredAt : Time)
  | held (action : Action) (deadline : Time)
  | answered (status : ResultStatus)
deriving DecidableEq, Repr

/-- The fields present in every state but FREE (Table 1-1). The payload is the content of the slot's buffer (1.1); class and
target are as received, so that a refused request's record can hold them. -/
structure Exchange where
  cls : Byte
  session : Word32
  target : Nat
  hostRef : Word32
  attempt : Nat
  traces : Nat
  everSent : Bool
  payload : List Byte
  phase : Phase
deriving DecidableEq, Repr

/-- One record of the exchange table: its generation, and the exchange it holds unless it is FREE (Table 1-1, R2). -/
structure SlotRecord where
  generation : Fin 128
  live : Option Exchange
deriving DecidableEq, Repr

/-- What the Exchange Manager owns (1.3). The pair order list of a pair is its part of `order` (R4). -/
structure Exchanges where
  slots : Vector SlotRecord 512
  free : List Slot
  order : List Slot
  outstanding : Vector (List Slot) 4
  ready : Vector (List Slot) 4
  results : List Slot
deriving DecidableEq, Repr

/-! ## The Affinity Cache (chapter 2) -/

/-- A valid affinity entry (Table 2-1). -/
structure Entry where
  session : Word32
  target : Nat
  port : Option PortId
  count : Nat
  quiesceMark : Bool
  verdictMark : Option Nat
deriving DecidableEq, Repr

/-- One set: four ways and three tree pointers (R30); a pointer at 1 is `true`. -/
structure CacheSet where
  ways : Vector (Option Entry) 4
  root : Bool
  left : Bool
  right : Bool
deriving DecidableEq, Repr

/-- The place of an entry in the cache. -/
structure Place where
  set : Fin 64
  way : Fin 4
deriving DecidableEq, Repr

/-! ## Fabric frames (chapter 12) -/

/-- The frames of the fabric (Table 12-3). -/
inductive FabricFrame where
  | request (tag : Tag) (cls : Byte) (session : Word32) (target attempt : Byte) (payload : List Byte)
  | answer (tag : Tag) (attempt : Byte) (payload : List Byte)
  | trace (tag : Tag) (target attempt : Byte)
  | traceReply (tag : Tag) (attempt : Byte) (finding : Finding) (payload : List Byte)
  | probe (target number : Byte)
  | echo (target number : Byte)
  | linkOffer (identity grant : Byte) (reachList : BitVec 64)
  | linkAccept (station : Byte)
  | reach (reachList : BitVec 64)
  | credit (count : Byte)
  | idleTick
deriving DecidableEq, Repr

/-! ## Fabric ports (chapter 4) -/

/-- The states of a port (Table 4-1). -/
inductive PortState where
  | off
  | down
  | training
  | up
  | quiescing
  | reset
deriving DecidableEq, Repr

/-- The causes of a PORT CHANGE, in the order of Table 4-2. -/
inductive PortCause where
  | detected
  | trained
  | trainingExpired
  | signalLost
  | silence
  | integrity
  | switchRestart
  | resetRequested
  | holdExpired
  | quiesceRequested
  | drained
  | offRequested
  | onRequested
deriving DecidableEq, Repr

/-- The port record (Table 4-1), what the receiver reports of the incoming lanes (R60), and the frame last put on the outgoing
lanes. A timer is the Time Base value of its end while it runs. -/
structure Port where
  state : PortState
  identity : Option Nat
  reach : List Nat
  credits : Nat
  retryBar : Bool
  history : List Time
  pendingProbes : List Nat
  pendingTraces : List Slot
  trainingEnds : Option Time
  silenceEnds : Option Time
  holdEnds : Option Time
  signal : Bool
  lastSent : Option FabricFrame
deriving DecidableEq, Repr

/-! ## Routes (chapter 5) -/

/-- The states of a cell (Table 5-1). -/
inductive CellState where
  | absent
  | untested
  | good
  | lost
deriving DecidableEq, Repr

/-- The causes of a CELL CHANGE (Table 5-4). -/
inductive CellCause where
  | misses
  | recovered
  | dropped
deriving DecidableEq, Repr

/-- A probe awaiting its echo: its send time and the end of its PROBE WAIT (R82). -/
structure Flight where
  sentAt : Time
  waitEnds : Time
deriving DecidableEq, Repr

/-- One cell of the route map (Table 5-1). -/
structure Cell where
  state : CellState
  step : Nat
  misses : Nat
  quiet : Nat
  recovery : Nat
  probeNumber : Byte
  inFlight : Option Flight
  pending : Bool
  lastSend : Option Time
  testedSince : Option Time
  latency : Option Time
deriving DecidableEq, Repr

/-! ## Failover (chapter 6) -/

/-- A queued work item (6.1). -/
inductive WorkItem where
  | portLoss (p : PortId) (horizon : Time)
  | cellLoss (t : Nat) (p : PortId)
  | placement (t : Nat)
deriving DecidableEq, Repr

/-- What a loss item has lost: a whole port, or one cell. -/
inductive LossScope where
  | port (p : PortId)
  | cell (t : Nat) (p : PortId)
deriving DecidableEq, Repr

/-- An affinity entry taken at the start of a phase: its place and the pair it then held (R92). -/
structure EntryRef where
  place : Place
  session : Word32
  target : Nat
deriving DecidableEq, Repr

/-- A HELD exchange taken at the start of the held phase: its slot and generation (R106). -/
structure HeldRef where
  slot : Slot
  generation : Fin 128
deriving DecidableEq, Repr

/-- The item in progress with its phase (R92). -/
inductive InProgress where
  | walk (scope : LossScope) (horizon : Time)
  | entries (scope : LossScope) (horizon : Time) (todo : List EntryRef)
  | pairs (t : Nat) (todo : List EntryRef)
  | held (t : Nat) (todo : List HeldRef)
deriving DecidableEq, Repr

/-- What the Failover Engine owns (R92). -/
structure Failover where
  work : List WorkItem
  current : Option InProgress
deriving DecidableEq, Repr

/-! ## Row bus and row view (chapters 8 and 9) -/

/-- Cables and lost cables to one switch (R134, R142). -/
structure CableCount where
  cables : Nat
  lost : Nat
deriving DecidableEq, Repr

/-- A row bus frame (Table 12-4). -/
inductive RowFrame where
  | sighting (sender : StationId) (state : StationState) (entries : List SwitchEntry)
  | withdraw (sender : StationId)
deriving DecidableEq, Repr

/-- The transmit phase, with the frame on the line while SENDING (Table 8-1). -/
inductive RowPhase where
  | silent
  | waiting
  | sending (frame : RowFrame)
  | driveRetry
deriving DecidableEq, Repr

/-- The frame the controller will send at its next start (Table 8-1). -/
inductive PendingFrame where
  | none
  | sighting
  | withdraw
deriving DecidableEq, Repr

/-- The line-fault state (Table 8-1). -/
inductive LineFault where
  | normal
  | heldLow
deriving DecidableEq, Repr

/-- The kinds of a ROW FAULT (Table 8-2). -/
inductive RowFaultKind where
  | lineHeldLow
  | cleared
  | cannotDrive
  | idConflict
deriving DecidableEq, Repr

/-- The state of the Row Bus Controller (Table 8-1). The last three fields hold what R128 to R130, R135 and R137 imply beside the
table: a frame of another station is being received; a change was reported while a sighting was on the line; a host reset
during SENDING has made a sighting due at the end of that frame. -/
structure RowBus where
  phase : RowPhase
  pending : PendingFrame
  periodicDue : Option Time
  changeWanted : Bool
  changeEarliest : Option Time
  lastSent : Option Time
  lastCounts : Vector CableCount 15
  withdrawn : Bool
  lineFault : LineFault
  driveFaultReported : Bool
  lastConflict : Option Time
  retryAt : Option Time
  receiving : Bool
  wantedNext : Bool
  dueAtEnd : Bool
deriving DecidableEq, Repr

/-- An entry of the peer view table (Table 9-1). -/
structure PeerEntry where
  state : StationState
  time : Time
  switches : List SwitchEntry
deriving DecidableEq, Repr

/-- A judgement of a switch (R144). -/
inductive Verdict where
  | sound
  | suspect
  | failing
deriving DecidableEq, Repr

/-- A verdict record (Table 9-2); a timer is its end while it runs. -/
structure VerdictRecord where
  verdict : Verdict
  c : Nat
  d : Nat
  l : Nat
  n : Nat
  clearEnds : Option Time
  staggerEnds : Option Time
  staggerExpired : Bool
deriving DecidableEq, Repr

/-- What the Row View Unit owns: the peer view table, this station's own counts and the verdict table (chapter 9). Switch s
stands at index s - 1. -/
structure RowView where
  peers : Vector (Option PeerEntry) 32
  own : Vector CableCount 15
  verdicts : Vector VerdictRecord 15
deriving DecidableEq, Repr

/-! ## Station and configuration (chapter 11) -/

/-- The outcome of the EEPROM load (R162). -/
inductive LoadOutcome where
  | loaded
  | loadedClamped
  | eepromAbsent
  | imageBad
  | imageForeign
deriving DecidableEq, Repr

/-- The reset-kind record (R167). -/
structure ResetKind where
  power : Bool
  pin : Bool
  host : Bool
deriving DecidableEq, Repr

/-- What the part does on the I2C line, one byte or condition at a time (R162). -/
inductive I2cAction where
  | start
  | address (device : BitVec 7) (read : Bool)
  | write (b : Byte)
  | repeatedStart
  | read (acknowledged : Bool)
deriving DecidableEq, Repr

/-- A read of the I2C line as one transaction: the device, the address of the first byte, and how many bytes are read (R162). -/
structure I2cRead where
  device : BitVec 7
  first : Byte
  count : Nat
deriving DecidableEq, Repr

/-- The station's own state (R160 to R167). `loadBegan` is the moment the EEPROM read in progress began. -/
structure Station where
  state : StationState
  id : StationId
  pinAsserted : Bool
  loadBegan : Option Time
  resetKind : ResetKind
  outcome : Option LoadOutcome
  locked : Bool
deriving DecidableEq, Repr

/-! ## The host link (chapter 10) -/

/-- A booking REQUEST as received (Table 12-1). -/
structure Booking where
  target : Byte
  cls : Byte
  session : Word32
  hostRef : Word32
  payload : List Byte
deriving DecidableEq, Repr

/-- A frame of the ingress queue (R152). -/
inductive HostFrame where
  | booking (b : Booking)
  | control (code : Byte) (args : List Byte)
deriving DecidableEq, Repr

/-- What the head of the ingress queue waits for, beside the reply wait that the reply queue itself shows (R13, R32). -/
inductive HeadWait where
  | none
  | tableFull
  | setFull (set : Fin 64)
deriving DecidableEq, Repr

/-- The contents of a notice beyond kind and time (Table 10-1). -/
inductive NoticeBody where
  | started (station : StationId) (kind : ResetKind) (outcome : Option LoadOutcome)
  | portChange (port : PortId) (left entered : PortState) (identity : Option Nat) (cause : PortCause)
  | cellChange (target : Nat) (port : PortId) (left entered : CellState) (cause : CellCause) (step misses : Nat)
  | verdictChange (switch : Nat) (before after applied : Verdict) (c d marks : Nat)
  | rowFault (kind : RowFaultKind) (station : Option StationId)
  | linkOverrun (control : Bool)
deriving DecidableEq, Repr

/-- A notice with the Time Base value of its event (R156). -/
structure Notice where
  time : Time
  body : NoticeBody
deriving DecidableEq, Repr

/-- The status of a control reply (Table 12-6); `unsafeToEnd` is UNSAFE. -/
inductive ReplyStatus where
  | done
  | locked
  | wrongState
  | badIndex
  | notFound
  | unsafeToEnd
  | pinned
  | notGood
  | unknownRequest
deriving DecidableEq, Repr

/-- What STATUS reports (R159). -/
structure StatusReport where
  state : StationState
  id : StationId
  resetKind : ResetKind
  outcome : Option LoadOutcome
  locked : Bool
  time : Time
  free : Nat
  waiting : Nat
  sent : Nat
  tracing : Nat
  held : Nat
  answered : Nat
  ports : List PortState
  workLength : Nat
  dropped : Bool
  ingressLength : Nat
  credits : Nat
deriving DecidableEq, Repr

/-- What READ EXCHANGE reports of a record that is not FREE (R159, Table 1-1). -/
structure LiveReport where
  cls : Byte
  session : Word32
  target : Nat
  hostRef : Word32
  port : Option PortId
  attempt : Nat
  traces : Nat
  everSent : Bool
  action : Option Action
  remaining : Option Time
  enteredAt : Option Time
  status : Option ResultStatus
  payloadLength : Nat
deriving DecidableEq, Repr

/-- What READ EXCHANGE reports (R159): the state's code is 0 for FREE (Table 12-6). -/
structure ExchangeReport where
  slot : Slot
  generation : Fin 128
  tag : Tag
  stateCode : Nat
  live : Option LiveReport
deriving DecidableEq, Repr

/-- What READ PORT reports (R75). -/
structure PortReport where
  state : PortState
  identity : Option Nat
  credits : Nat
  retryBar : Bool
  reach : List Nat
  pendingProbes : Nat
  pendingTraces : Nat
  outstanding : Nat
  ready : Nat
  trainingLeft : Option Time
  silenceLeft : Option Time
  holdLeft : Option Time
deriving DecidableEq, Repr

/-- What READ ROUTE reports (R91). -/
structure RouteReport where
  state : CellState
  step : Nat
  misses : Nat
  quiet : Nat
  recovery : Nat
  inFlight : Bool
  pending : Bool
  sinceSend : Option Time
  latency : Option Time
  untilDue : Option Time
deriving DecidableEq, Repr

/-- What READ PEER reports (R151): an absent entry, this station itself, or a peer. An own count names its switch. -/
inductive PeerReport where
  | absent
  | own (state : StationState) (counts : List (Nat × CableCount))
  | peer (entry : PeerEntry) (age : Time) (fresh : Bool)
deriving DecidableEq, Repr

/-- What READ VERDICT reports (R151). -/
structure VerdictReport where
  verdict : Verdict
  applied : Verdict
  c : Nat
  d : Nat
  l : Nat
  n : Nat
  cables : Nat
  lost : Nat
  clearLeft : Option Time
  staggerLeft : Option Time
deriving DecidableEq, Repr

/-- What LOOKUP reports of an entry it hits (R39). -/
structure HitReport where
  way : Fin 4
  port : Option PortId
  count : Nat
  quiesceMark : Bool
  verdictMark : Option Nat
deriving DecidableEq, Repr

/-- What LOOKUP reports (R39). -/
structure LookupReport where
  set : Fin 64
  root : Bool
  left : Bool
  right : Bool
  hit : Option HitReport
deriving DecidableEq, Repr

/-- The contents of a control reply (Table 10-2). -/
inductive ReplyBody where
  | none
  | clamped (items : List (Nat × Nat))
  | status (r : StatusReport)
  | config (items : List Nat) (outcome : Option LoadOutcome) (locked : Bool)
  | exchange (r : ExchangeReport)
  | port (r : PortReport)
  | route (r : RouteReport)
  | peer (r : PeerReport)
  | verdict (r : VerdictReport)
  | lookup (r : LookupReport)
  | pinned (way : Fin 4) (port : PortId)
  | flushed (remaining : Nat)
deriving DecidableEq, Repr

/-- A CONTROL REPLY: request, status and contents (R157). -/
structure Reply where
  code : Byte
  status : ReplyStatus
  body : ReplyBody
deriving DecidableEq, Repr

/-- A RESULT frame (R9). -/
structure ResultFrame where
  hostRef : Word32
  session : Word32
  target : Nat
  status : ResultStatus
  attempt : Nat
  payload : List Byte
deriving DecidableEq, Repr

/-- A frame from the part to the host (Table 12-1). -/
inductive HostBound where
  | result (r : ResultFrame)
  | reply (r : Reply)
  | notice (n : Notice) (earlierDropped : Bool)
  | credit (count : Nat)
deriving DecidableEq, Repr

/-- What the Host Link Port owns (chapter 10), and the frame last put on the link. -/
structure HostLink where
  ingress : List HostFrame
  headWait : HeadWait
  freed : Nat
  returnDue : Bool
  credits : Nat
  replies : List Reply
  resultRun : Nat
  notices : List Notice
  dropped : Bool
  lastSent : Option HostBound
deriving DecidableEq, Repr

end Sys2Proof.Machine
end

