-- ==== Sys2Proof/Machine/Settings.lean ====
section
/-! DEFINITION. The configuration items by name (Table 11-2), and clamping (R163). -/

namespace Sys2Proof.Machine

open Sys2Proof Config

/-- Item n of the set, 1 to 26; 0 for any other number, which R165 refuses. -/
def item (v : Settings) (n : Nat) : Nat := if h : 1 ≤ n ∧ n ≤ 26 then v[n - 1] else 0

/-- The set with item n given the value x. -/
def setItem (v : Settings) (n x : Nat) : Settings := if h : 1 ≤ n ∧ n ≤ 26 then v.set (n - 1) x else v

def responseWait (v : Settings) : Nat := v[0]
def attemptLimit (v : Settings) : Nat := v[1]
def traceWait (v : Settings) : Nat := v[2]
def traceLimit (v : Settings) : Nat := v[3]
def holdLimit (v : Settings) : Nat := v[4]
def sessionDepth (v : Settings) : Nat := v[5]
def baseProbeInterval (v : Settings) : Nat := v[6]
def probeWait (v : Settings) : Nat := v[7]
def slowLatency (v : Settings) : Nat := v[8]
def quietLatency (v : Settings) : Nat := v[9]
def missLimit (v : Settings) : Nat := v[10]
def recoverCount (v : Settings) : Nat := v[11]
def trainingWait (v : Settings) : Nat := v[12]
def linkSilence (v : Settings) : Nat := v[13]
def portResetHold (v : Settings) : Nat := v[14]
def sightingPeriod (v : Settings) : Nat := v[15]
def sightingSpacing (v : Settings) : Nat := v[16]
def staleLimit (v : Settings) : Nat := v[17]
def expiryLimit (v : Settings) : Nat := v[18]
def quorum (v : Settings) : Nat := v[19]
def minWitness (v : Settings) : Nat := v[20]
def clearHold (v : Settings) : Nat := v[21]
def staggerUnit (v : Settings) : Nat := v[22]
def peerWeight (v : Settings) : Nat := v[23]
def suspectPenalty (v : Settings) : Nat := v[24]
def creditBatch (v : Settings) : Nat := v[25]

/-- The nearer bound of an item's range, or the value itself within it (R163). -/
def clampTo (r : ItemRange) (v : Nat) : Nat := if v < r.low then r.low else if r.high < v then r.high else v

/-- The first step of R163: every item clamped to its range. -/
def clampRanges (v : Settings) : Settings := Vector.zipWith clampTo itemTable v

/-- Both steps of R163: the ranges, then QUIET LATENCY at most SLOW LATENCY. -/
def clampAll (v : Settings) : Settings :=
  let d := clampRanges v
  if slowLatency d < quietLatency d then d.set 9 (slowLatency d) else d

/-- The items that R163 clamped, in item order, each with the value it was given (R165). DEDUCED (log 10): that value is the one the
request gave, or the one standing for an unnamed item, and not the value that clamping left. -/
def clampedItems (given : Settings) : List (Nat × Nat) :=
  ((List.range' 1 26).filter (fun n => item (clampAll given) n != item given n)).map (fun n => (n, item given n))

end Sys2Proof.Machine
end

