-- ==== Sys2Proof/Machine/State.lean ====
section
/-! DEFINITION. The state of one FX-410, block by block as Table 0-1 owns it, the reasons a step can stop, and the state right
after reset. -/

namespace Sys2Proof.Machine

open Sys2Proof

/-- The reasons a step stops with a fault. There is none: the spec names no event that stops the part. Bad frames are discarded
(R152, R168 to R170), bad requests are answered (R157), and lost links and a line held low are states of the part. -/
inductive Fault where
deriving DecidableEq, Repr

/-- The reasons a step is refused. -/
inductive Refusal where
  /-- Raised by exec's arm of a command that has no meaning yet (safe: the model stops where the part goes on). No arm raises it. -/
  | notModelled (mnemonic : String)
deriving DecidableEq, Repr

/-- The state. Cell (t, p) of the route map stands at index (t - 1) × 4 + p (R77). `raised` is the model's own: notices raised
within a step, before R156 puts them in the notice queue; it is empty between steps. `i2c` is the transaction last put on the I2C line
(R162, log 4). `pending` is the queue of commands. -/
structure State where
  timeBase : Time
  station : Station
  config : Config.Settings
  link : HostLink
  ex : Exchanges
  cache : Vector CacheSet 64
  ports : Vector Port 4
  routes : Vector Cell 252
  failover : Failover
  row : RowBus
  view : RowView
  i2c : Option I2cRead
  raised : List Notice
  pending : List Instr
deriving DecidableEq, Repr

/-! ## The values after a full reset, block by block -/

/-- R25. -/
def Exchanges.empty : Exchanges where
  slots := Vector.replicate 512 ⟨0, none⟩
  free := List.finRange 512
  order := []
  outstanding := Vector.replicate 4 []
  ready := Vector.replicate 4 []
  results := []

/-- R42. -/
def CacheSet.empty : CacheSet := ⟨Vector.replicate 4 none, false, false, false⟩

/-- R59: DOWN with nothing held; `signal` is the level of the incoming lanes, which a reset does not change. -/
def Port.afterReset (signal : Bool) : Port where
  state := .down
  identity := none
  reach := []
  credits := 0
  retryBar := false
  history := []
  pendingProbes := []
  pendingTraces := []
  trainingEnds := none
  silenceEnds := none
  holdEnds := none
  signal := signal
  lastSent := none

/-- R77. DESIGN CHOICE (log 23): R77 leaves out the last latency, which is none here. -/
def Cell.afterReset : Cell where
  state := .absent
  step := 0
  misses := 0
  quiet := 0
  recovery := 0
  probeNumber := 0
  inFlight := none
  pending := false
  lastSend := none
  testedSince := none
  latency := none

/-- R92. -/
def Failover.empty : Failover := ⟨[], none⟩

/-- R127. -/
def RowBus.afterReset : RowBus where
  phase := .silent
  pending := .none
  periodicDue := none
  changeWanted := false
  changeEarliest := none
  lastSent := none
  lastCounts := Vector.replicate 15 ⟨0, 0⟩
  withdrawn := false
  lineFault := .normal
  driveFaultReported := false
  lastConflict := none
  retryAt := none
  receiving := false
  wantedNext := false
  dueAtEnd := false

/-- R143. -/
def VerdictRecord.afterReset : VerdictRecord := ⟨.sound, 0, 0, 0, 0, none, none, false⟩

/-- R139, R142, R143. -/
def RowView.afterReset : RowView where
  peers := Vector.replicate 32 none
  own := Vector.replicate 15 ⟨0, 0⟩
  verdicts := Vector.replicate 15 VerdictRecord.afterReset

/-- R152 to R156. -/
def HostLink.afterReset : HostLink where
  ingress := []
  headWait := .none
  freed := 0
  returnDue := false
  credits := 0
  replies := []
  resultRun := 0
  notices := []
  dropped := false
  lastSent := none

/-- The one transaction of the load: 64 bytes from byte 0 of the EEPROM at device address 80 (R162). -/
def eepromRead : I2cRead := ⟨80, 0, Config.imageLength⟩

/-- The state a full reset leaves, with what it takes from outside: the station's record and the levels of the incoming lanes.
The Time Base is at 0 and the configuration at its defaults, and where the load begins its transaction is put on the I2C line (R160,
R162). -/
def State.afterFullReset (station : Station) (signals : Vector Bool 4) (pending : List Instr) : State where
  timeBase := 0
  station := station
  config := Config.defaults
  link := HostLink.afterReset
  ex := Exchanges.empty
  cache := Vector.replicate 64 CacheSet.empty
  ports := signals.map Port.afterReset
  routes := Vector.replicate 252 Cell.afterReset
  failover := Failover.empty
  row := RowBus.afterReset
  view := RowView.afterReset
  i2c := station.loadBegan.map (fun _ => eepromRead)
  raised := []
  pending := pending

/-- The machine right after reset: a full reset by power-on with the RESET pin released, so that the straps have been sampled, the
Time Base starts and the EEPROM load begins (R160, R167). DESIGN CHOICE (log 3): the straps give 0 and no port receives
signal. -/
def State.reset : State :=
  State.afterFullReset
    { state := .loading, id := 0, pinAsserted := false, loadBegan := some 0, resetKind := ⟨true, false, false⟩,
      outcome := none, locked := false }
    (Vector.replicate 4 false) []

end Sys2Proof.Machine
end

