-- ==== Sys2Proof/Machine/Ops.lean ====
section
/-! DEFINITION. The named reads and writes of the state, block by block, and the raising of notices. Every later operation goes
through these. -/

namespace Sys2Proof.Machine

open Sys2Proof

/-! ## The exchange table and its lists -/

/-- The record of a slot. -/
def State.record (s : State) (i : Slot) : SlotRecord := s.ex.slots[i]

/-- The exchange a slot holds, or none where it is FREE. -/
def State.live (s : State) (i : Slot) : Option Exchange := (s.record i).live

/-- The phase of the exchange in a slot, or none where it is FREE. -/
def State.phase (s : State) (i : Slot) : Option Phase := (s.live i).map (·.phase)

def State.setRec (s : State) (i : Slot) (r : SlotRecord) : State :=
  { s with ex := { s.ex with slots := s.ex.slots.set i r } }

/-- The exchange in a slot changed by f; a FREE slot is left as it is. -/
def State.modLive (s : State) (i : Slot) (f : Exchange → Exchange) : State :=
  s.setRec i { s.record i with live := (s.live i).map f }

def State.setPhase (s : State) (i : Slot) (ph : Phase) : State := s.modLive i (fun e => { e with phase := ph })

/-- The outstanding list of a port (R5). -/
def State.outstanding (s : State) (p : PortId) : List Slot := s.ex.outstanding[p]

def State.setOutstanding (s : State) (p : PortId) (l : List Slot) : State :=
  { s with ex := { s.ex with outstanding := s.ex.outstanding.set p l } }

/-- The ready list of a port (R6). -/
def State.ready (s : State) (p : PortId) : List Slot := s.ex.ready[p]

def State.setFree (s : State) (l : List Slot) : State := { s with ex := { s.ex with free := l } }
def State.setOrder (s : State) (l : List Slot) : State := { s with ex := { s.ex with order := l } }
def State.setResults (s : State) (l : List Slot) : State := { s with ex := { s.ex with results := l } }

/-- The exchange is one of the pair (R4). -/
def Exchange.ofPair (e : Exchange) (session : Word32) (target : Nat) : Bool := e.session == session && e.target == target

/-- The class REPEATABLE (Table 12-3: class byte 1). -/
def Exchange.repeatable (e : Exchange) : Bool := e.cls == 1#8

/-- The pair order list of a pair, oldest first (R4). -/
def State.pairOrder (s : State) (session : Word32) (target : Nat) : List Slot :=
  s.ex.order.filter (fun i => (s.live i).any (·.ofPair session target))

/-- The tag of a slot's exchange (R1). -/
def tagOf (i : Slot) (generation : Fin 128) : Tag := BitVec.ofNat 16 (generation.val * 512 + i.val)

/-- The slot a tag names (R1). -/
def tagSlot (tag : Tag) : Slot := ⟨tag.toNat % 512, Nat.mod_lt _ (by decide)⟩

/-- The generation a tag names (R1). -/
def tagGeneration (tag : Tag) : Nat := tag.toNat / 512

/-! ## Ports -/

def State.port (s : State) (p : PortId) : Port := s.ports[p]

def State.setPort (s : State) (p : PortId) (x : Port) : State := { s with ports := s.ports.set p x }

def State.modPort (s : State) (p : PortId) (f : Port → Port) : State := s.setPort p (f (s.port p))

/-- The four ports in order. -/
def allPorts : List PortId := [0, 1, 2, 3]

/-- UP or QUIESCING: the states with a working link (R64, R67). -/
def PortState.linked (st : PortState) : Bool := st == .up || st == .quiescing

/-- The port drives its outgoing lanes (R70, R72, R73, R74). -/
def PortState.drives (st : PortState) : Bool := st != .off && st != .reset

/-! ## The route map -/

/-- The targets 1 to 63 in order. -/
def allTargets : List Nat := List.range' 1 63

theorem cellIndex_lt {t : Nat} (h : 1 ≤ t ∧ t ≤ 63) (p : PortId) : (t - 1) * 4 + p.val < 252 := by omega

/-- The cell (t, p) (R77). A number that is no target has no cell and reads as ABSENT. -/
def State.cell (s : State) (t : Nat) (p : PortId) : Cell :=
  if h : 1 ≤ t ∧ t ≤ 63 then s.routes[(t - 1) * 4 + p.val]'(cellIndex_lt h p) else Cell.afterReset

def State.setCell (s : State) (t : Nat) (p : PortId) (x : Cell) : State :=
  if h : 1 ≤ t ∧ t ≤ 63 then { s with routes := s.routes.set ((t - 1) * 4 + p.val) x (cellIndex_lt h p) } else s

def State.modCell (s : State) (t : Nat) (p : PortId) (f : Cell → Cell) : State := s.setCell t p (f (s.cell t p))

/-! ## Tables by switch -/

/-- The element for switch sw, at index sw - 1; `dflt` for a number that is no switch. -/
def bySwitch {α : Type} (v : Vector α 15) (dflt : α) (sw : Nat) : α :=
  if h : 1 ≤ sw ∧ sw ≤ 15 then v[sw - 1] else dflt

def setBySwitch {α : Type} (v : Vector α 15) (sw : Nat) (x : α) : Vector α 15 :=
  if h : 1 ≤ sw ∧ sw ≤ 15 then v.set (sw - 1) x else v

/-- The switches 1 to 15 in order. -/
def allSwitches : List Nat := List.range' 1 15

/-- The verdict record of a switch (Table 9-2). -/
def State.verdict (s : State) (sw : Nat) : VerdictRecord := bySwitch s.view.verdicts VerdictRecord.afterReset sw

def State.setVerdict (s : State) (sw : Nat) (v : VerdictRecord) : State :=
  { s with view := { s.view with verdicts := setBySwitch s.view.verdicts sw v } }

/-- This station's own counts for a switch (R142). -/
def State.ownCount (s : State) (sw : Nat) : CableCount := bySwitch s.view.own ⟨0, 0⟩ sw

/-- The entry of the peer view table for a station (R139). -/
def State.peer (s : State) (i : StationId) : Option PeerEntry := s.view.peers[i]

def State.setPeer (s : State) (i : StationId) (e : Option PeerEntry) : State :=
  { s with view := { s.view with peers := s.view.peers.set i e } }

/-! ## The cache -/

def State.cacheSet (s : State) (i : Fin 64) : CacheSet := s.cache[i]

def State.setCacheSet (s : State) (i : Fin 64) (x : CacheSet) : State := { s with cache := s.cache.set i x }

/-- The entry at a place, or none where the way is invalid. -/
def State.entryAt (s : State) (pl : Place) : Option Entry := (s.cacheSet pl.set).ways[pl.way]

def State.setEntryAt (s : State) (pl : Place) (e : Option Entry) : State :=
  s.setCacheSet pl.set { s.cacheSet pl.set with ways := (s.cacheSet pl.set).ways.set pl.way e }

/-- The ways of a set in order. -/
def allWays : List (Fin 4) := [0, 1, 2, 3]

/-- Every place of the cache, in order of set index and then of way (R103). -/
def allPlaces : List Place := (List.finRange 64).flatMap (fun i => allWays.map (fun w => ⟨i, w⟩))

/-! ## The host link -/

def State.setLink (s : State) (l : HostLink) : State := { s with link := l }
def State.setRow (s : State) (r : RowBus) : State := { s with row := r }
def State.setStation (s : State) (x : Station) : State := { s with station := x }
def State.setFailover (s : State) (x : Failover) : State := { s with failover := x }

/-- One request credit is freed for return, and a return falls due if the count has reached CREDIT BATCH or the ingress queue is
empty (R153). The count stays within 0 to 32: a host that keeps to its credits cannot exceed it (log 17). -/
def freeCredit (batch : Nat) (l : HostLink) : HostLink :=
  let n := min (l.freed + 1) Config.ingressLimit
  { l with freed := n, returnDue := l.returnDue || decide (batch ≤ n) || l.ingress.isEmpty }

/-- The frame at the ingress head leaves the queue and its credit is freed (R152, R153). -/
def State.popIngress (s : State) : State :=
  s.setLink (freeCredit (creditBatch s.config) { s.link with ingress := s.link.ingress.tail, headWait := .none })

/-- A reply joins the tail of the control reply queue (R157). -/
def State.pushReply (s : State) (r : Reply) : State := s.setLink { s.link with replies := s.link.replies ++ [r] }

/-! ## Notices (R156) -/

/-- The place of a kind among the notices one event queues: PORT CHANGE, CELL CHANGE, VERDICT CHANGE, ROW FAULT, then the kinds
R156 gives no place (log 18). -/
def NoticeBody.rank : NoticeBody → Nat
  | .portChange _ _ _ _ _ => 0
  | .cellChange _ _ _ _ _ _ _ => 1
  | .verdictChange _ _ _ _ _ _ _ => 2
  | .rowFault _ _ => 3
  | .started _ _ _ => 4
  | .linkOverrun _ => 5

/-- A notice of the event in hand, stamped with the Time Base. -/
def State.raise (s : State) (b : NoticeBody) : State := { s with raised := s.raised ++ [⟨s.timeBase, b⟩] }

/-- The raised notices in the order of their kinds, each kind in the order raised. -/
def orderNotices (l : List Notice) : List Notice :=
  (List.range 6).flatMap (fun k => l.filter (fun n => n.body.rank == k))

/-- A notice joins the tail of the queue, or is dropped and marked so where 16 stand there. -/
def queueNotice (l : HostLink) (n : Notice) : HostLink :=
  if l.notices.length < Config.noticeLimit then { l with notices := l.notices ++ [n] } else { l with dropped := true }

/-- The notices of the event in hand join the notice queue. -/
def State.flush (s : State) : State :=
  { s with link := (orderNotices s.raised).foldl queueNotice s.link, raised := [] }

end Sys2Proof.Machine
end

