-- ==== Sys2Proof/Machine/Cache.lean ====
section
/-! DEFINITION. The Affinity Cache (chapter 2): finding a pair, the replacement rule, the tree pointers, outstanding counts, drain
marks, and the entries the other blocks ask for. -/

namespace Sys2Proof.Machine

open Sys2Proof

/-- The set a pair belongs to: (session + 37 × target) modulo 64 on whole numbers (R28). -/
def setIndex (session : Word32) (target : Nat) : Fin 64 := ⟨(session.toNat + 37 * target) % 64, Nat.mod_lt _ (by decide)⟩

/-- The entry holds the pair. -/
def Entry.holds (e : Entry) (session : Word32) (target : Nat) : Bool := e.session == session && e.target == target

/-- A valid entry whose outstanding count is above zero (R27). -/
def Entry.isPinned (e : Entry) : Bool := 0 < e.count

/-- A valid entry whose outstanding count is zero (R27). -/
def Entry.isIdle (e : Entry) : Bool := e.count == 0

/-- Either part of the drain mark is present (R27). -/
def Entry.marked (e : Entry) : Bool := e.quiesceMark || e.verdictMark.isSome

/-- The way of a set that holds the pair: a hit, or none at a miss (R28). -/
def CacheSet.findWay (x : CacheSet) (session : Word32) (target : Nat) : Option (Fin 4) :=
  allWays.find? (fun w => x.ways[w].any (·.holds session target))

/-- The place of a pair's entry, or none at a miss. -/
def State.findPlace (s : State) (session : Word32) (target : Nat) : Option Place :=
  ((s.cacheSet (setIndex session target)).findWay session target).map (⟨setIndex session target, ·⟩)

/-- The entry of a pair. -/
def State.entryOf (s : State) (session : Word32) (target : Nat) : Option Entry :=
  (s.findPlace session target).bind s.entryAt

/-- The port the pair's entry names; none where the pair is unplaced or has no entry. -/
def State.pairPort (s : State) (session : Word32) (target : Nat) : Option PortId :=
  (s.entryOf session target).bind (·.port)

/-- The entry of a pair changed by f; nothing where the pair has no entry. -/
def State.modEntryOf (s : State) (session : Word32) (target : Nat) (f : Entry → Entry) : State :=
  match s.findPlace session target with
  | some pl => s.setEntryAt pl ((s.entryAt pl).map f)
  | none => s

/-- Every valid entry changed by f. -/
def State.mapEntries (s : State) (f : Entry → Entry) : State :=
  { s with cache := s.cache.map (fun x => { x with ways := x.ways.map (fun e => e.map f) }) }

/-- The places of the valid entries that pass a test, in order of set index and way (R38, R103). -/
def State.placesWith (s : State) (test : Entry → Bool) : List Place :=
  allPlaces.filter (fun pl => (s.entryAt pl).any test)

/-! ## Tree pointers and replacement (R30, R31) -/

/-- The way reached by following the root and the pointer of the half it names (R30). -/
def CacheSet.treeVictim (x : CacheSet) : Fin 4 :=
  if x.root then (if x.right then 3 else 2) else (if x.left then 1 else 0)

/-- The pointers after a use of way w (Table 2-2). -/
def CacheSet.use (x : CacheSet) (w : Fin 4) : CacheSet :=
  if w = 0 then { x with root := true, left := true }
  else if w = 1 then { x with root := true, left := false }
  else if w = 2 then { x with root := false, right := true }
  else { x with root := false, right := false }

/-- The way holds an idle entry. -/
def CacheSet.idleAt (x : CacheSet) (w : Fin 4) : Bool := x.ways[w].any (·.isIdle)

/-- The way holds a pinned entry. -/
def CacheSet.pinnedAt (x : CacheSet) (w : Fin 4) : Bool := x.ways[w].any (·.isPinned)

/-- The way a miss chooses: the lowest invalid way, else the tree victim if idle, else the lowest idle way (R31). -/
def CacheSet.chooseWay (x : CacheSet) : Option (Fin 4) :=
  match allWays.find? (fun w => x.ways[w].isNone) with
  | some w => some w
  | none => if x.idleAt x.treeVictim then some x.treeVictim else allWays.find? x.idleAt

/-- A use of the way of a place turns its set's pointers (R30). -/
def State.useWay (s : State) (pl : Place) : State := s.setCacheSet pl.set ((s.cacheSet pl.set).use pl.way)

/-! ## Outstanding counts (R33) -/

/-- The outstanding count of the pair rises by one. -/
def State.raiseCount (s : State) (session : Word32) (target : Nat) : State :=
  s.modEntryOf session target (fun e => { e with count := e.count + 1 })

/-- The set-full wait of a set ends (R32). -/
def State.endSetWait (s : State) (i : Fin 64) : State :=
  if s.link.headWait = .setFull i then s.setLink { s.link with headWait := .none } else s

/-- The outstanding count of the pair falls by one; a fall to zero ends a set-full wait in the pair's set (R32, R33). -/
def State.lowerCount (s : State) (session : Word32) (target : Nat) : State :=
  let s1 := s.modEntryOf session target (fun e => { e with count := e.count - 1 })
  if (s1.entryOf session target).any (·.isIdle) then s1.endSetWait (setIndex session target) else s1

/-! ## Drain marks (R35, R36) -/

/-- The quiesce mark is set on every valid entry whose port is p (R35). -/
def State.setQuiesceMarks (s : State) (p : PortId) : State :=
  s.mapEntries (fun e => if e.port = some p then { e with quiesceMark := true } else e)

/-- The quiesce mark is removed from every valid entry whose port is p (R35). -/
def State.clearQuiesceMarks (s : State) (p : PortId) : State :=
  s.mapEntries (fun e => if e.port = some p then { e with quiesceMark := false } else e)

/-- The entry's port has switch identity sw, in whatever state the port stands (R147). -/
def State.entryCabledTo (s : State) (sw : Nat) (e : Entry) : Bool :=
  e.port.any (fun p => (s.port p).identity == some sw)

/-- The verdict mark for sw is set on every valid entry whose port is cabled to sw (R36). -/
def State.setVerdictMarks (s : State) (sw : Nat) : State :=
  s.mapEntries (fun e => if s.entryCabledTo sw e then { e with verdictMark := some sw } else e)

/-- The verdict mark for sw is removed from every valid entry that carries one (R36). -/
def State.clearVerdictMarks (s : State) (sw : Nat) : State :=
  s.mapEntries (fun e => if e.verdictMark = some sw then { e with verdictMark := none } else e)

/-- The pair is given a port, or none, and both parts of its drain mark are removed (R29, R34). -/
def State.placePair (s : State) (session : Word32) (target : Nat) (port : Option PortId) : State :=
  s.modEntryOf session target (fun e => { e with port := port, quiesceMark := false, verdictMark := none })

end Sys2Proof.Machine
end

