-- ==== Sys2Proof/Machine/View.lean ====
section
/-! DEFINITION. The Row View Unit's counting and verdicts (R141 to R148), the wanting of sightings (R134, R135), and the report
by which a changed cable reaches both (R75, R90). -/

namespace Sys2Proof.Machine

open Sys2Proof

/-! ## Cables (R134, R142) -/

/-- At least one cell of the port is not ABSENT, and every such cell is LOST (R90). -/
def State.allCellsLost (s : State) (p : PortId) : Bool :=
  allTargets.any (fun t => (s.cell t p).state != .absent)
    && allTargets.all (fun t => (s.cell t p).state == .absent || (s.cell t p).state == .lost)

/-- The port is a cable of switch sw (R134). -/
def State.isCable (s : State) (sw : Nat) (p : PortId) : Bool :=
  (s.port p).identity == some sw
    && ((s.port p).state == .down || (s.port p).state == .training || (s.port p).state == .up)

/-- A cable is lost (R134). -/
def State.cableLost (s : State) (p : PortId) : Bool :=
  (s.port p).state == .down || (s.port p).state == .training || ((s.port p).state == .up && s.allCellsLost p)

/-- This station's cables and lost cables to a switch, counted afresh (R142). -/
def State.countCables (s : State) (sw : Nat) : CableCount where
  cables := (allPorts.filter (s.isCable sw)).length
  lost := (allPorts.filter (fun p => s.isCable sw p && s.cableLost p)).length

/-- The own counts of all switches, counted afresh. -/
def State.countAllCables (s : State) : Vector CableCount 15 := Vector.ofFn (fun i => s.countCables (i.val + 1))

/-! ## The view of a switch (R141, R143) -/

/-- The stale threshold in microseconds (R141). -/
def staleUs (cfg : Config.Settings) : Nat := staleLimit cfg * sightingPeriod cfg * 1000

/-- The expiry threshold in microseconds (R141). -/
def expiryUs (cfg : Config.Settings) : Nat := expiryLimit cfg * sightingPeriod cfg * 1000

/-- The age of an entry (R141). -/
def State.age (s : State) (e : PeerEntry) : Time := elapsed s.timeBase e.time

/-- The entry is fresh (R141). -/
def State.fresh (s : State) (e : PeerEntry) : Bool := (s.age e).toNat ≤ staleUs s.config

/-- The entry is past the expiry threshold (R141). -/
def State.pastExpiry (s : State) (e : PeerEntry) : Bool := expiryUs s.config < (s.age e).toNat

/-- An entry of a switch list for switch sw. -/
def entryFor (sw : Nat) (l : List SwitchEntry) : Option SwitchEntry := l.find? (fun x => x.switch == sw)

/-- What the fresh peers list for a switch. -/
def State.freshEntries (s : State) (sw : Nat) : List SwitchEntry :=
  s.view.peers.toList.filterMap (fun e => e.bind (fun x => if s.fresh x then entryFor sw x.switches else none))

/-- The record of a switch with C, D, L and N formed from the fresh view (R143). -/
def State.withCounts (s : State) (sw : Nat) (v : VerdictRecord) : VerdictRecord :=
  let own := s.ownCount sw
  let peers := s.freshEntries sw
  { v with
    c := (if 1 ≤ own.cables then 1 else 0) + peers.length
    d := (if 1 ≤ own.cables ∧ 1 ≤ own.lost then 1 else 0) + (peers.filter (fun x => 1 ≤ x.lost)).length
    l := (peers.map (·.load)).sum
    n := peers.length }

/-- The verdict arithmetic from SOUND or SUSPECT (R144). -/
def judge (cfg : Config.Settings) (c d : Nat) : Verdict :=
  if minWitness cfg ≤ d ∧ quorum cfg * c ≤ 8 * d then .failing else if 1 ≤ d then .suspect else .sound

/-! ## Verdict changes (R145 to R148, R150) -/

/-- The stagger of switch sw expires: the applied verdict becomes FAILING, the verdict marks are set and a notice is raised (R147). -/
def State.expireStagger (s : State) (sw : Nat) : State :=
  let v := s.verdict sw
  let marks := (s.placesWith (s.entryCabledTo sw)).length
  ((s.setVerdict sw { v with staggerEnds := none, staggerExpired := true }).setVerdictMarks sw).raise
    (.verdictChange sw .failing .failing .failing v.c v.d marks)

/-- The verdict of switch sw becomes FAILING, with the counts of v: the stagger starts, and expires at once where it is 0 ms long
(R147). -/
def State.becomeFailing (s : State) (sw : Nat) (before : Verdict) (v : VerdictRecord) : State :=
  let stagger := s.station.id.val * staggerUnit s.config
  let s1 := (s.setVerdict sw
      { v with verdict := .failing, clearEnds := none, staggerEnds := some (s.timeBase + ms stagger), staggerExpired := false }).raise
    (.verdictChange sw before .failing .suspect v.c v.d 0)
  if stagger = 0 then s1.expireStagger sw else s1

/-- C, D, L, N and then the verdict of switch sw are recomputed (R144 to R146). -/
def State.recompute (s : State) (sw : Nat) : State :=
  let v := s.withCounts sw (s.verdict sw)
  match v.verdict with
  | .failing =>
    if 1 ≤ v.d then s.setVerdict sw { v with clearEnds := none }
    else if v.clearEnds.isSome then s.setVerdict sw v
    else s.setVerdict sw { v with clearEnds := some (s.timeBase + ms (clearHold s.config)) }
  | before =>
    match judge s.config v.c v.d with
    | .failing => s.becomeFailing sw before v
    | after =>
      if after = before then s.setVerdict sw v
      else (s.setVerdict sw { v with verdict := after }).raise (.verdictChange sw before after after v.c v.d 0)

/-- The switches of a list are recomputed in order of switch identity (R146). -/
def State.recomputeThose (s : State) (which : Nat → Bool) : State :=
  (allSwitches.filter which).foldl State.recompute s

/-- The clear timer of switch sw has expired: the verdict becomes SOUND, the stagger is cancelled and the verdict marks for sw are
removed (R145, R148). -/
def State.clearVerdict (s : State) (sw : Nat) : State :=
  let v := s.verdict sw
  let marks := (s.placesWith (fun e => e.verdictMark == some sw)).length
  ((s.setVerdict sw { v with verdict := .sound, clearEnds := none, staggerEnds := none, staggerExpired := false }).clearVerdictMarks sw).raise
    (.verdictChange sw .failing .sound .sound v.c v.d marks)

/-! ## Sightings wanted (R135) -/

/-- The counts a sighting carries, for every switch (R134). -/
def sightingCounts (entries : List SwitchEntry) : Vector CableCount 15 :=
  Vector.ofFn (fun i => match entryFor (i.val + 1) entries with
    | some e => ⟨e.cables, e.lost⟩
    | none => ⟨0, 0⟩)

/-- The counts a report is compared with: those of the sighting on the line while one is, else last counts (R135). -/
def RowBus.reference (r : RowBus) : Vector CableCount 15 :=
  match r.phase with
  | .sending (.sighting _ _ entries) => sightingCounts entries
  | _ => r.lastCounts

/-- A sighting is on the line. -/
def RowBus.sendingSighting (r : RowBus) : Bool :=
  match r.phase with
  | .sending (.sighting _ _ _) => true
  | _ => false

/-- A sighting becomes pending where one may: withdrawn is clear, no frame is pending, and the phase is not SILENT (R135). -/
def RowBus.pendSighting (r : RowBus) : RowBus :=
  if r.pending = .none ∧ !r.withdrawn ∧ r.phase ≠ .silent then { r with pending := .sighting } else r

/-- A change is wanted and change earliest is reached, or no sighting has been sent whole (R135). -/
def RowBus.changeDue (now : Time) (r : RowBus) : Bool :=
  r.changeWanted && (match r.changeEarliest with
    | some due => reached now due
    | none => true)

/-- A report after which the own counts differ from the counts last sent wants a sighting (R135), and while withdrawn is set wants
none (R136). A change reported while a sighting is on the line is kept for the time after it (log 14). -/
def RowBus.noteReport (now : Time) (own : Vector CableCount 15) (r : RowBus) : RowBus :=
  if r.withdrawn then r
  else if own = r.reference then r
  else if r.sendingSighting then { r with wantedNext := true }
  else
    let r1 := { r with changeWanted := true }
    if r1.changeDue now then r1.pendSighting else r1

/-- The report of a port or of the Route Monitor that a cable may have changed: the own counts are counted afresh, the verdicts of
the switches whose counts changed are recomputed, and a sighting is wanted if the counts differ from those last sent (R75, R90,
R135, R142). -/
def State.reportCables (s : State) : State :=
  let now := s.countAllCables
  let changed := fun sw => s.ownCount sw != bySwitch now ⟨0, 0⟩ sw
  let s1 := { s with view := { s.view with own := now } }
  let s2 := s1.recomputeThose changed
  s2.setRow (s2.row.noteReport s2.timeBase now)

end Sys2Proof.Machine
end

