-- ==== Sys2Proof/Machine/WorkList.lean ====
section
/-! DEFINITION. Offers to the migration work list (R93 to R95). -/

namespace Sys2Proof.Machine

open Sys2Proof

def State.setWork (s : State) (l : List WorkItem) : State := s.setFailover { s.failover with work := l }

/-- The item is a port-loss item for p. -/
def WorkItem.isPortLoss (p : PortId) : WorkItem → Bool
  | .portLoss q _ => q == p
  | _ => false

/-- The item is a cell-loss item for a cell on p. -/
def WorkItem.isCellLossOn (p : PortId) : WorkItem → Bool
  | .cellLoss _ q => q == p
  | _ => false

/-- The item in progress is a port-loss item for p. -/
def InProgress.isPortLoss (p : PortId) : InProgress → Bool
  | .walk (.port q) _ => q == p
  | .entries (.port q) _ _ => q == p
  | _ => false

/-- A port-loss item for p is offered at the present moment (R93). -/
def State.offerPortLoss (s : State) (p : PortId) : State :=
  if s.failover.work.any (·.isPortLoss p) then
    s.setWork (s.failover.work.map (fun w => if w.isPortLoss p then .portLoss p s.timeBase else w))
  else
    s.setWork (s.failover.work.filter (fun w => !w.isCellLossOn p) ++ [.portLoss p s.timeBase])

/-- A port-loss item for p is on the list or in progress (R94). -/
def State.portLossStands (s : State) (p : PortId) : Bool :=
  s.failover.work.any (·.isPortLoss p) || s.failover.current.any (·.isPortLoss p)

/-- A cell-loss item for (t, p) is offered (R94). -/
def State.offerCellLoss (s : State) (t : Nat) (p : PortId) : State :=
  if s.portLossStands p || s.failover.work.contains (.cellLoss t p) then s
  else s.setWork (s.failover.work ++ [.cellLoss t p])

/-- A placement item for t is offered (R95). -/
def State.offerPlacement (s : State) (t : Nat) : State :=
  if s.failover.work.contains (.placement t) then s else s.setWork (s.failover.work ++ [.placement t])

end Sys2Proof.Machine
end

