-- ==== Sys2Proof/Machine/Routes.lean ====
section
/-! DEFINITION. The Route Monitor's operations (chapter 5): entry into UNTESTED, ABSENT and LOST, probes falling due, misses,
echoes, and the reports they make. -/

namespace Sys2Proof.Machine

open Sys2Proof

/-- A cell is monitored while it is not ABSENT and its port is UP or QUIESCING (5.1). -/
def State.monitored (s : State) (t : Nat) (p : PortId) : Bool :=
  (s.cell t p).state != .absent && (s.port p).state.linked

/-- A target is known when at least one of its cells is not ABSENT (R80). -/
def State.known (s : State) (t : Nat) : Bool := allPorts.any (fun p => (s.cell t p).state != .absent)

/-- The port's outstanding list holds an exchange of the target. -/
def State.carries (s : State) (t : Nat) (p : PortId) : Bool :=
  (s.outstanding p).any (fun i => (s.live i).any (fun e => e.target == t))

/-- The exchange is HELD. -/
def Exchange.isHeld (e : Exchange) : Bool :=
  match e.phase with
  | .held _ _ => true
  | _ => false

/-- Some exchange of the target is HELD (R88). -/
def State.someHeld (s : State) (t : Nat) : Bool :=
  s.ex.order.any (fun i => (s.live i).any (fun e => e.target == t && e.isHeld))

/-- The probe interval of a cell in microseconds: floor(BASE PROBE INTERVAL / 2^step) milliseconds, 1 ms where that is 0; a LOST
cell's is that of step 0 (R81). -/
def probeIntervalUs (cfg : Config.Settings) (x : Cell) : Nat :=
  let k := if x.state = .lost then 0 else x.step
  max 1 (baseProbeInterval cfg / 2 ^ k) * 1000

/-- When a cell's next probe falls due by its interval: none where it has a probe in flight or pending, or has sent none (R81). -/
def dueAt (cfg : Config.Settings) (x : Cell) : Option Time :=
  if x.inFlight.isSome || x.pending then none else x.lastSend.map (· + us (probeIntervalUs cfg x))

/-- The cell joins the tail of its port's pending probes, once, and is marked pending (R81). -/
def State.joinProbe (s : State) (t : Nat) (p : PortId) : State :=
  let s1 := s.modCell t p (fun x => { x with pending := true })
  s1.modPort p (fun x => if x.pendingProbes.contains t then x else { x with pendingProbes := x.pendingProbes ++ [t] })

/-- A probe falls due for a monitored cell whose due moment is reached (R81). -/
def State.fallDue (s : State) (t : Nat) (p : PortId) : State :=
  if s.monitored t p && expired s.timeBase (dueAt s.config (s.cell t p)) then s.joinProbe t p else s

/-- A change to cells of port p, reported where it alters whether every non-ABSENT cell of an UP port is LOST (R90). -/
def State.reportIfLostness (before : Bool) (p : PortId) (s : State) : State :=
  if (s.port p).state = .up ∧ s.allCellsLost p ≠ before then s.reportCables else s

/-- The CELL CHANGE notice of a cell after its change (R89). -/
def State.raiseCell (s : State) (t : Nat) (p : PortId) (left : CellState) (cause : CellCause) : State :=
  let x := s.cell t p
  s.raise (.cellChange t p left x.state cause x.step x.misses)

/-! ## Cells set by their port (R78, R79) -/

/-- The cell enters UNTESTED: it is reset but for its probe number, and a probe falls due at once (R78, R81). -/
def State.enterUntested (s : State) (t : Nat) (p : PortId) : State :=
  (s.modCell t p (fun x => { Cell.afterReset with
    state := .untested, probeNumber := x.probeNumber, testedSince := some s.timeBase })).joinProbe t p

/-- The cell enters ABSENT: its fields return to those of a full reset but for its probe number, and it leaves its port's pending
probes (R78). -/
def State.enterAbsent (s : State) (t : Nat) (p : PortId) : State :=
  (s.modCell t p (fun x => { Cell.afterReset with probeNumber := x.probeNumber })).modPort p
    (fun x => { x with pendingProbes := x.pendingProbes.filter (· != t) })

/-- The cells of a port at training: listed targets UNTESTED, the others ABSENT, in target order (R63, R78). -/
def State.trainCells (s : State) (p : PortId) (listed : List Nat) : State :=
  allTargets.foldl (fun u t => if listed.contains t then u.enterUntested t p else u.enterAbsent t p) s

/-- The cells of a port at the loss of its link: those of listed targets LOST, with the probe in flight dropped, no probe pending,
recovery count and quiet streak 0 (R79). -/
def State.loseCells (s : State) (p : PortId) : State :=
  ((s.port p).reach).foldl (fun u t => u.modCell t p (fun x =>
    { x with state := .lost, inFlight := none, pending := false, recovery := 0, quiet := 0 })) s

/-! ## Misses (R84, R86, R87) -/

/-- The fields of a cell after a miss, before any change of state (R84). -/
def Cell.missed (limit : Nat) (x : Cell) : Cell :=
  { x with step := min (x.step + 1) Config.stepLimit, quiet := 0, misses := min (x.misses + 1) limit, recovery := 0 }

/-- A miss on a monitored cell: its counts, its loss at MISS LIMIT with the cell-loss item and notice, the report of a lost
cable, and a probe that the new step brings due (R81, R84, R86, R87, R90). -/
def State.miss (s : State) (t : Nat) (p : PortId) : State :=
  if !s.monitored t p then s else
  let lostBefore := s.allCellsLost p
  let left := (s.cell t p).state
  let s1 := s.modCell t p (Cell.missed (missLimit s.config))
  let s2 :=
    if missLimit s.config ≤ (s1.cell t p).misses ∧ left ≠ .lost then
      let s3 := (s1.modCell t p (fun x => { x with state := .lost })).raiseCell t p left .misses
      let s4 := if left = .good ∨ s3.carries t p then s3.offerCellLoss t p else s3
      s4.reportIfLostness lostBefore p
    else s1
  s2.fallDue t p

/-- A miss reported by the Exchange Manager counts only on a monitored cell, and only if the exchange entered the port no earlier
than the cell was last tested (R84). -/
def State.exchangeMiss (s : State) (t : Nat) (p : PortId) (enteredAt : Time) : State :=
  if (s.cell t p).testedSince.any (fun since => isBefore enteredAt since) then s else s.miss t p

/-! ## Echoes and answers (R83, R85, R86, R88) -/

/-- The step arithmetic of an echo with the given latency (R83). -/
def Cell.echoed (cfg : Config.Settings) (latency : Time) (x : Cell) : Cell :=
  let y := { x with misses := 0, latency := some latency, inFlight := none }
  if slowLatency cfg * 1000 < latency.toNat then { y with step := min (x.step + 1) Config.stepLimit, quiet := 0 }
  else if latency.toNat ≤ quietLatency cfg * 1000 then
    if Config.quietRun ≤ x.quiet + 1 then { y with step := x.step - 1, quiet := 0 } else { y with quiet := x.quiet + 1 }
  else { y with quiet := 0 }

/-- A placement item is offered where an exchange of the target is HELD (R88). -/
def State.offerIfHeld (s : State) (t : Nat) : State := if s.someHeld t then s.offerPlacement t else s

/-- The state changes an echo causes: UNTESTED to GOOD (R86), or an advance of recovery and LOST to GOOD (R88). -/
def State.echoState (s : State) (t : Nat) (p : PortId) : State :=
  let lostBefore := s.allCellsLost p
  match (s.cell t p).state with
  | .untested => ((s.modCell t p (fun x => { x with state := .good })).reportIfLostness lostBefore p).offerIfHeld t
  | .lost =>
    if recoverCount s.config ≤ (s.cell t p).recovery + 1 then
      (((s.modCell t p (fun x => { x with state := .good, recovery := 0 })).raiseCell t p .lost .recovered).reportIfLostness
        lostBefore p).offerIfHeld t
    else s.modCell t p (fun x => { x with recovery := x.recovery + 1 })
  | _ => s

/-- The probe in flight of a cell is resolved by an ECHO (R82, R83). -/
def State.resolveEcho (s : State) (t : Nat) (p : PortId) (flight : Flight) : State :=
  let latency := elapsed s.timeBase flight.sentAt
  ((s.modCell t p (Cell.echoed s.config latency)).echoState t p).fallDue t p

/-- The cell is alive: a monitored cell's miss count becomes 0 (R85). -/
def State.alive (s : State) (t : Nat) (p : PortId) : State :=
  if s.monitored t p then s.modCell t p (fun x => { x with misses := 0 }) else s

end Sys2Proof.Machine
end

