-- ==== Sys2Proof/Machine/Selector.lean ====
section
/-! DEFINITION. The Path Selector (chapter 3): eligibility, candidates, the cost and the choice. It holds no state (R57). -/

namespace Sys2Proof.Machine

open Sys2Proof

/-- A port is eligible for a target when it is UP and its cell is GOOD (R45). -/
def State.eligible (s : State) (t : Nat) (p : PortId) : Bool :=
  (s.port p).state == .up && (s.cell t p).state == .good

/-- The applied verdict of a switch (R46). -/
def VerdictRecord.applied (v : VerdictRecord) : Verdict :=
  match v.verdict with
  | .failing => if v.staggerExpired then .failing else .suspect
  | other => other

/-- The verdict record of the switch a port is cabled to; a port with no identity, which R44 excludes among UP ports, reads as one
to a SOUND switch. -/
def State.portVerdict (s : State) (p : PortId) : VerdictRecord :=
  match (s.port p).identity with
  | some sw => s.verdict sw
  | none => VerdictRecord.afterReset

/-- The eligible ports among `among` whose applied verdict is not FAILING, or where there is none, all of them (R47). -/
def State.candidates (s : State) (t : Nat) (among : List PortId) : List PortId :=
  let eligible := among.filter (s.eligible t)
  let sound := eligible.filter (fun p => (s.portVerdict p).applied != .failing)
  if sound.isEmpty then eligible else sound

/-- The bound-pairs input c: the valid entries whose port is p, less the entry of the pair being placed (R48). -/
def State.boundPairs (s : State) (p : PortId) (placing : Option (Word32 × Nat)) : Nat :=
  (s.placesWith (fun e => e.port == some p && !placing.any (fun pr => e.holds pr.1 pr.2))).length

/-- The peer-load term (R48, R49). -/
def peerLoad (weight l n : Nat) : Nat := weight * l / (16 * (n + 1))

/-- The switch penalty (R50). -/
def penalty (suspect : Nat) : Verdict → Nat
  | .sound => 0
  | .suspect => suspect
  | .failing => Config.failingPenalty

/-- The cost of a candidate (R48). -/
def State.cost (s : State) (t : Nat) (placing : Option (Word32 × Nat)) (p : PortId) : Nat :=
  4 * (s.outstanding p).length + 2 * s.boundPairs p placing
    + peerLoad (peerWeight s.config) (s.portVerdict p).l (s.portVerdict p).n
    + 16 * (s.cell t p).step + penalty (suspectPenalty s.config) (s.portVerdict p).applied

/-- The first of the list with the lowest cost: the lowest port number among equals, for a list in port order (R52). -/
def cheapest (cost : PortId → Nat) : List PortId → Option PortId
  | [] => none
  | p :: rest =>
    match cheapest cost rest with
    | none => some p
    | some q => if cost q < cost p then some q else some p

/-- The port named for a placement of a pair, or none (R47, R52). -/
def State.selectFor (s : State) (session : Word32) (target : Nat) : Option PortId :=
  cheapest (s.cost target (some (session, target))) (s.candidates target allPorts)

/-- The port named for a trace, with at most one port excluded (R53). -/
def State.traceChoice (s : State) (t : Nat) (excluded : Option PortId) : Option PortId :=
  match excluded with
  | none => cheapest (s.cost t none) (s.candidates t allPorts)
  | some x =>
    match cheapest (s.cost t none) (s.candidates t (allPorts.filter (· != x))) with
    | some q => some q
    | none => if s.eligible t x then some x else none

/-- Some port is eligible for the target. -/
def State.someEligible (s : State) (t : Nat) : Bool := allPorts.any (s.eligible t)

end Sys2Proof.Machine
end

