-- ==== Sys2Proof/Machine/ExchangeOps.lean ====
section
/-! DEFINITION. The Exchange Manager's operations (chapter 1): leaving lists, holds, deciding a result, freeing a slot, and what is
sendable. -/

namespace Sys2Proof.Machine

open Sys2Proof

/-- The exchange leaves every outstanding, ready and pending-trace list that holds it (R8, R24, R114). -/
def State.detach (s : State) (i : Slot) : State :=
  { s with
    ex := { s.ex with
      outstanding := s.ex.outstanding.map (fun l => l.filter (· != i))
      ready := s.ex.ready.map (fun l => l.filter (· != i)) }
    ports := s.ports.map (fun x => { x with pendingTraces := x.pendingTraces.filter (· != i) }) }

/-- The exchange leaves its pair order list and its pair's outstanding count falls by one (R4, R33). -/
def State.leavePair (s : State) (i : Slot) (e : Exchange) : State :=
  (s.setOrder (s.ex.order.filter (· != i))).lowerCount e.session e.target

/-- The record becomes ANSWERED with the status, and with the payload when that is COMPLETED and none otherwise; the slot joins the
tail of the result queue (R7, R8). -/
def State.answer (s : State) (i : Slot) (status : ResultStatus) (payload : List Byte) : State :=
  let s1 := s.modLive i (fun e =>
    { e with phase := .answered status, payload := if status = .completed then payload else [] })
  s1.setResults (s1.ex.results ++ [i])

/-- The result of an open exchange is decided (R8). -/
def State.decideResult (s : State) (i : Slot) (status : ResultStatus) (payload : List Byte) : State :=
  match s.live i with
  | none => s
  | some e => ((s.detach i).leavePair i e).answer i status payload

/-- The table-full wait ends (R13). -/
def State.endTableWait (s : State) : State :=
  if s.link.headWait = .tableFull then s.setLink { s.link with headWait := .none } else s

/-- A slot is freed: its generation advances modulo 128, its fields lose their values, it joins the tail of the free list, and a
table-full wait ends (R1, R2, R3, R10, R13). -/
def State.freeSlot (s : State) (i : Slot) : State :=
  ((s.setRec i ⟨(s.record i).generation + 1, none⟩).setFree (s.ex.free ++ [i])).endTableWait

/-- The exchange becomes HELD with the action and a full HOLD LIMIT, and a placement item is offered where some port is eligible for
its target (R21). -/
def State.hold (s : State) (i : Slot) (action : Action) : State :=
  let s1 := s.setPhase i (.held action (s.timeBase + ms (holdLimit s.config)))
  match s.live i with
  | some e => if s1.someEligible e.target then s1.offerPlacement e.target else s1
  | none => s1

/-- The exchange becomes SENT on p with a new answer wait and joins the tail of p's outstanding list (R5, R15, R119). -/
def State.becomeSent (s : State) (i : Slot) (p : PortId) : State :=
  (s.setPhase i (.sent p (s.timeBase + ms (responseWait s.config)) s.timeBase)).setOutstanding p (s.outstanding p ++ [i])

/-! ## Sendability (R6) -/

/-- The exchange in the slot is SENT. -/
def State.isSent (s : State) (i : Slot) : Bool :=
  match s.phase i with
  | some (.sent _ _ _) => true
  | _ => false

/-- The exchange in the slot is SENT or TRACING. -/
def State.inFlight (s : State) (i : Slot) : Bool :=
  match s.phase i with
  | some (.sent _ _ _) => true
  | some (.tracing _ _ _) => true
  | _ => false

/-- The exchange in the slot is WAITING. -/
def State.isWaiting (s : State) (i : Slot) : Bool :=
  match s.phase i with
  | some (.waiting _) => true
  | _ => false

/-- The port on which the exchange in the slot is sendable: it is WAITING, its pair's entry names the port and the port is UP, it is
the oldest of its pair order list that is not SENT, and its pair has fewer than SESSION DEPTH exchanges SENT or TRACING (R6). -/
def State.sendable (s : State) (i : Slot) : Option PortId :=
  match s.live i with
  | none => none
  | some e =>
    match s.pairPort e.session e.target with
    | none => none
    | some p =>
      let pair := s.pairOrder e.session e.target
      if s.isWaiting i && (s.port p).state == .up && pair.find? (fun j => !s.isSent j) == some i
          && decide ((pair.filter s.inFlight).length < sessionDepth s.config)
      then some p else none

/-- Each ready list holds exactly the exchanges now sendable on its port: those that stay sendable keep their places, and those that
have become so join the tail in order of admission (R6). -/
def State.settleReady (s : State) : State :=
  { s with ex := { s.ex with ready := Vector.ofFn (fun p =>
      (s.ready p).filter (fun i => s.sendable i == some p)
        ++ s.ex.order.filter (fun i => s.sendable i == some p && !(s.ready p).contains i)) } }

end Sys2Proof.Machine
end

