-- ==== Sys2Proof/Machine/TraceOps.lean ====
section
/-! DEFINITION. The Trace Unit (chapter 7): placing a trace, choosing its port, and the unanswered trace. -/

namespace Sys2Proof.Machine

open Sys2Proof

/-- A trace for the exchange is placed on port q (R113). -/
def State.placeTrace (s : State) (i : Slot) (q : PortId) : State :=
  let s1 := s.modLive i (fun e =>
    { e with traces := e.traces + 1, phase := .tracing q (s.timeBase + ms (traceWait s.config)) s.timeBase })
  let s2 := s1.setOutstanding q (s1.outstanding q ++ [i])
  s2.modPort q (fun x => { x with pendingTraces := x.pendingTraces ++ [i] })

/-- A trace choice is made and the trace placed, or the exchange becomes HELD with TRACE (R115, R116). -/
def State.traceOrHold (s : State) (i : Slot) (target : Nat) (excluded : Option PortId) : State :=
  match s.traceChoice target excluded with
  | some q => s.placeTrace i q
  | none => s.hold i .trace

/-- An exchange whose fate must be learned: IN DOUBT where its episode is at TRACE LIMIT, else traced or held (R115, R122). -/
def State.seekFate (s : State) (i : Slot) (excluded : Option PortId) : State :=
  match s.live i with
  | none => s
  | some e =>
    if traceLimit s.config ≤ e.traces then s.decideResult i .inDoubt [] else s.traceOrHold i e.target excluded

/-- The trace of an exchange on port p is taken as unanswered (R122). -/
def State.unanswered (s : State) (p : PortId) (i : Slot) : State := (s.detach i).seekFate i (some p)

/-- A pending trace is handed back untransmitted at the loss of p's link: the count is lowered by one and the trace is taken as
unanswered (R67, R122). -/
def State.handBack (p : PortId) (s : State) (i : Slot) : State :=
  (s.modLive i (fun e => { e with traces := e.traces - 1 })).unanswered p i

end Sys2Proof.Machine
end

