-- ==== Sys2Proof/Machine/PortOps.lean ====
section
/-! DEFINITION. The operations of the fabric ports (chapter 4): detection, training, the loss of a link, the host's control of a
port, and the close of a step. -/

namespace Sys2Proof.Machine

open Sys2Proof

/-- The PORT CHANGE notice of a port that has left a state, and the report of its cable (R75). -/
def State.announce (s : State) (p : PortId) (left : PortState) (cause : PortCause) : State :=
  (s.raise (.portChange p left (s.port p).state (s.port p).identity cause)).reportCables

/-- A detection: a DOWN port with signal present and no retry bar passes into TRAINING and starts TRAINING WAIT (R60). -/
def State.detect (s : State) (p : PortId) : State :=
  if (s.port p).state = .down ∧ (s.port p).signal ∧ !(s.port p).retryBar then
    (s.modPort p (fun x =>
      { x with state := .training, trainingEnds := some (s.timeBase + ms (trainingWait s.config)) })).announce p .down .detected
  else s

/-- A frame that passes its check restarts LINK SILENCE in UP and QUIESCING (R64, R65). -/
def State.heard (s : State) (p : PortId) : State :=
  if (s.port p).state.linked then
    s.modPort p (fun x => { x with silenceEnds := some (s.timeBase + ms (linkSilence s.config)) })
  else s

/-! ## Losing the link (R67) -/

/-- The port itself at the loss of a working link: it enters the state, its credits fall to 0, its silence timer is cancelled, its
pending probes and traces leave it, and its cells are lost. -/
def State.cutLink (s : State) (p : PortId) (entered : PortState) : State :=
  (s.modPort p (fun x =>
    { x with state := entered, credits := 0, silenceEnds := none, pendingProbes := [], pendingTraces := [] })).loseCells p

/-- What the loss of a working link does before it is reported: the port is cut off, its pending traces are handed back one at a
time, and a port-loss item is offered. -/
def State.dropLink (s : State) (p : PortId) (entered : PortState) : State :=
  ((s.port p).pendingTraces.foldl (State.handBack p) (s.cutLink p entered)).offerPortLoss p

/-- A port leaves UP or QUIESCING for DOWN, and passes into TRAINING where that is a detection (R60, R67). -/
def State.loseLink (s : State) (p : PortId) (cause : PortCause) : State :=
  ((s.dropLink p .down).announce p (s.port p).state cause).detect p

/-- A port-loss item is offered if the port's outstanding list holds an exchange or a valid entry names the port (R70, R73). -/
def State.offerIfWork (s : State) (p : PortId) : State :=
  if !(s.outstanding p).isEmpty || !(s.placesWith (fun e => e.port == some p)).isEmpty then s.offerPortLoss p else s

/-- A damaged frame (R66): in UP and QUIESCING, times more than 10 ms older leave the history, and the eighth within 10 ms loses the
link with cause INTEGRITY; otherwise the arrival joins the history. -/
def State.takeDamaged (s : State) (p : PortId) : State :=
  if (s.port p).state.linked then
    let kept := (s.port p).history.filter (fun at_ => (elapsed s.timeBase at_).toNat ≤ Config.historyWindowUs)
    let s1 := s.modPort p (fun x => { x with history := kept })
    if Config.historyLimit ≤ kept.length then s1.loseLink p .integrity
    else s1.modPort p (fun x => { x with history := kept ++ [s.timeBase] })
  else s

/-! ## Training (R61 to R63) -/

/-- The targets of a reach list: bit t for target t, bit 0 not read (Table 12-3). -/
def reachTargets (reachList : BitVec 64) : List Nat := allTargets.filter reachList.getLsbD

/-- A LINK OFFER is valid: switch identity 1 to 15 and credit grant 1 to 64 (R61). -/
def offerValid (identity grant : Byte) : Bool :=
  1 ≤ identity.toNat && identity.toNat ≤ 15 && 1 ≤ grant.toNat && grant.toNat ≤ 64

/-- A valid offer ends training: the port comes UP with the identity, list and credits of the offer, and LINK ACCEPT, its first
frame, takes one of the credits (R61, R62, R63). -/
def State.comeUp (s : State) (p : PortId) (identity grant : Byte) (reachList : BitVec 64) : State :=
  let listed := reachTargets reachList
  let s1 := s.modPort p (fun x =>
    { x with
      state := .up, identity := some identity.toNat, reach := listed, credits := grant.toNat - 1, history := []
      trainingEnds := none, silenceEnds := some (s.timeBase + ms (linkSilence s.config))
      lastSent := some (.linkAccept (BitVec.ofNat 8 s.station.id.val)) })
  (s1.trainCells p listed).announce p .training .trained

/-- One target's part of a REACH that replaces `old` by `new` (R63, R78). -/
def State.reachTarget (p : PortId) (old new : List Nat) (s : State) (t : Nat) : State :=
  if new.contains t && !old.contains t then s.enterUntested t p
  else if old.contains t && !new.contains t then
    let left := (s.cell t p).state
    let carried := s.carries t p
    let s1 := s.enterAbsent t p
    let s2 := if left = .absent then s1 else s1.raiseCell t p left .dropped
    if left = .good ∨ carried then s2.offerCellLoss t p else s2
  else s

/-- A REACH replaces the list (R63, R90). -/
def State.takeReach (s : State) (p : PortId) (new : List Nat) : State :=
  let lostBefore := s.allCellsLost p
  let old := (s.port p).reach
  (allTargets.foldl (State.reachTarget p old new) (s.modPort p (fun x => { x with reach := new }))).reportIfLostness lostBefore p

/-! ## The host's control of a port (R70 to R74) -/

/-- RESET PORT (R70). -/
def State.resetPort (s : State) (p : PortId) : State :=
  let left := (s.port p).state
  let enter := fun (x : Port) => { x with
    state := .reset, retryBar := false, trainingEnds := none, holdEnds := some (s.timeBase + ms (portResetHold s.config)) }
  match left with
  | .up | .quiescing => ((s.dropLink p .reset).modPort p enter).announce p left .resetRequested
  | .training | .off | .down => ((s.modPort p enter).offerIfWork p).announce p left .resetRequested
  | .reset => s.modPort p enter

/-- PORT OFF immediate in any state but OFF (R73). -/
def State.portOff (s : State) (p : PortId) : State :=
  let left := (s.port p).state
  let enter := fun (x : Port) => { x with state := .off, retryBar := false, trainingEnds := none, holdEnds := none }
  match left with
  | .up | .quiescing => ((s.dropLink p .off).modPort p enter).announce p left .offRequested
  | .down | .training | .reset => ((s.modPort p enter).offerIfWork p).announce p left .offRequested
  | .off => s

/-- A QUIESCING port whose outstanding list is empty enters OFF and loses its link (R72). -/
def State.drain (s : State) (p : PortId) : State :=
  ((s.dropLink p .off).modPort p (fun x => { x with retryBar := false })).announce p .quiescing .drained

/-- PORT OFF graceful in UP: the port enters QUIESCING and its entries take the quiesce mark, and with nothing outstanding it passes
on into OFF (R35, R71). -/
def State.quiesce (s : State) (p : PortId) : State :=
  let s1 := ((s.modPort p (fun x => { x with state := .quiescing })).setQuiesceMarks p).announce p .up .quiesceRequested
  if (s1.outstanding p).isEmpty then s1.drain p else s1

/-- PORT ON in QUIESCING: the port is UP again without its quiesce marks, and a placement item is offered for each target whose cell
is GOOD and that has an exchange HELD (R35, R74). DESIGN CHOICE (log 21): the integrity history and LINK SILENCE stand as they were,
since R74 starts neither afresh; R65 and R66 speak of entering UP. -/
def State.resume (s : State) (p : PortId) : State :=
  let s1 := ((s.modPort p (fun x => { x with state := .up })).clearQuiesceMarks p).announce p .quiescing .onRequested
  (allTargets.filter (fun t => (s1.cell t p).state == .good && s1.someHeld t)).foldl State.offerPlacement s1

/-- PORT ON in OFF: the port enters DOWN and, with signal present, TRAINING (R74). -/
def State.switchOn (s : State) (p : PortId) : State :=
  ((s.modPort p (fun x => { x with state := .down })).announce p .off .onRequested).detect p

/-! ## Spending a credit (R68) -/

/-- The port sends a frame and spends one credit. -/
def State.transmit (s : State) (p : PortId) (f : FabricFrame) : State :=
  s.modPort p (fun x => { x with credits := x.credits - 1, lastSent := some f })

/-- The transmit arbiter may take a frame: the port is UP or QUIESCING and holds a credit (R68, R69). -/
def Port.maySend (x : Port) : Bool := x.state.linked && 0 < x.credits

/-! ## The close of a step -/

/-- The step has emptied the outstanding list of a QUIESCING port (R72). -/
def State.emptiedSince (before s : State) (p : PortId) : Bool :=
  (s.port p).state == .quiescing && (s.outstanding p).isEmpty && !(before.outstanding p).isEmpty

/-- Each QUIESCING port whose outstanding list the step has emptied enters OFF within the step (R72). -/
def State.drainEmptied (before s : State) : State :=
  allPorts.foldl (fun u p => if before.emptiedSince u p then u.drain p else u) s

/-- The close of a step that may change what is sendable: ready lists (R6) and notices (R156). -/
def State.close (s : State) : State := s.settleReady.flush

/-- The close of a step that may also empty an outstanding list (R72). DESIGN CHOICE (log 22): a port that the step has emptied enters
OFF after all else that the step does, so that a miss or an alive cell that it reports (R84, R85) still counts on the port. -/
def State.closeFrom (before s : State) : State := (before.drainEmptied s).close

end Sys2Proof.Machine
end

