-- ==== Sys2Proof/Machine/Wire.lean ====
section
/-! DEFINITION. The bytes and bits of the lines (chapter 12, R130, R168 to R170): the check sequence, host link frames in both
directions, fabric frames, row bus frames, and which command a frame arriving on a fabric port or on the row bus is. -/

namespace Sys2Proof.Machine

open Sys2Proof

/-! ## The check sequence (R130) -/

/-- The register takes the bits of a string one at a time; the generator is x^16 + x^12 + x^5 + 1 (R130). -/
def crcFrom : BitVec 16 → List Bool → BitVec 16
  | r, [] => r
  | r, b :: l => if (r.getLsbD 15 != b) then crcFrom ((r <<< 1) ^^^ 0x1021#16) l else crcFrom (r <<< 1) l

/-- The register after a string of bits, from all ones (R130). -/
def crcBits (l : List Bool) : BitVec 16 := crcFrom 0xFFFF#16 l

/-- The low n bits of a number, most significant first. -/
def bitsOf : Nat → Nat → List Bool
  | 0, _ => []
  | n + 1, x => x.testBit n :: bitsOf n x

/-- The number a string of bits gives, most significant first. -/
def bitsVal (l : List Bool) : Nat := l.foldl (fun a b => 2 * a + b.toNat) 0

/-- The check sequence over a string of bytes, each taken most significant bit first (R168). -/
def crcBytes (l : List Byte) : BitVec 16 := crcBits (l.flatMap (fun b => bitsOf 8 b.toNat))

/-- A number as n bytes, most significant first (chapter 12). -/
def bytesOf : Nat → Nat → List Byte
  | 0, _ => []
  | n + 1, x => BitVec.ofNat 8 (x / 256 ^ n) :: bytesOf n x

/-- The number a string of bytes gives, most significant first. -/
def bytesVal (l : List Byte) : Nat := l.foldl (fun a b => 256 * a + b.toNat) 0

/-- A frame closed by its check sequence (R168). -/
def sealFrame (body : List Byte) : List Byte := body ++ bytesOf 2 (crcBytes body).toNat

/-- The frame before its check sequence, where that is good (R168). -/
def openFrame (frame : List Byte) : Option (List Byte) :=
  let body := frame.take (frame.length - 2)
  if 2 ≤ frame.length ∧ frame.drop (frame.length - 2) = bytesOf 2 (crcBytes body).toNat then some body else none

/-! ## Host link frames arriving (Table 12-1, R168) -/

/-- What the part makes of a frame delivered by the host link. -/
inductive HostIn where
  | frame (f : HostFrame)
  | credit (count : Byte)
  | damaged (request : Bool)
deriving DecidableEq, Repr

/-- A booking REQUEST before its check sequence: kind, target, class, session, host reference, payload length and payload. -/
def Booking.bytes (b : Booking) : List Byte :=
  1#8 :: b.target :: b.cls :: (bytesOf 4 b.session.toNat ++ bytesOf 4 b.hostRef.toNat ++ bytesOf 2 b.payload.length ++ b.payload)

/-- A host frame before its check sequence (Table 12-1). -/
def HostFrame.bytes : HostFrame → List Byte
  | .booking b => b.bytes
  | .control code args => 1#8 :: 0#8 :: code :: BitVec.ofNat 8 args.length :: args

/-- A booking REQUEST read from what follows its kind, target and class. -/
def readBooking (target cls : Byte) (rest : List Byte) : Option Booking :=
  let payload := rest.drop 10
  if 10 ≤ rest.length ∧ payload.length = bytesVal ((rest.drop 8).take 2) then
    some ⟨target, cls, BitVec.ofNat 32 (bytesVal (rest.take 4)), BitVec.ofNat 32 (bytesVal ((rest.drop 4).take 4)), payload⟩
  else none

/-- A frame's body read by its kind, where its length agrees with the kind (R168). -/
def readHostBody : List Byte → Option HostIn
  | kind :: target :: rest =>
    if kind = 2#8 then (if rest.isEmpty then some (.credit target) else none)
    else if kind = 1#8 then
      match rest with
      | first :: more =>
        if target = 0#8 then
          match more with
          | len :: args => if args.length = len.toNat then some (.frame (.control first args)) else none
          | [] => none
        else (readBooking target first more).map (fun b => .frame (.booking b))
      | [] => none
    else none
  | _ => none

/-- A frame delivered by the host link: its contents where it passes its checks; a damaged frame whose first byte reads 1 counts as a
request, and any other as a lost CREDIT (R168). DESIGN CHOICE (log 30): a frame of no bytes has no first byte, and frees no credit. -/
def readHostFrame (frame : List Byte) : HostIn :=
  match (openFrame frame).bind readHostBody with
  | some x => x
  | none => .damaged (frame.head? == some 1#8)

/-! ## Fabric frames (Table 12-3, R169) -/

/-- The code of a finding (Table 12-6). -/
def findingCode : Finding → Byte
  | .done => 1#8
  | .working => 2#8
  | .notSeen => 3#8

/-- The finding of a code, 1 to 3. -/
def findingOf (b : Byte) : Option Finding :=
  if b = 1#8 then some .done else if b = 2#8 then some .working else if b = 3#8 then some .notSeen else none

/-- A fabric frame before its check sequence (Table 12-3). -/
def FabricFrame.bytes : FabricFrame → List Byte
  | .request tag cls session target attempt payload =>
    1#8 :: (bytesOf 2 tag.toNat ++ [cls] ++ bytesOf 4 session.toNat ++ [target, attempt] ++ bytesOf 2 payload.length ++ payload)
  | .answer tag attempt payload => 2#8 :: (bytesOf 2 tag.toNat ++ [attempt] ++ bytesOf 2 payload.length ++ payload)
  | .trace tag target attempt => 3#8 :: (bytesOf 2 tag.toNat ++ [target, attempt])
  | .traceReply tag attempt finding payload =>
    4#8 :: (bytesOf 2 tag.toNat ++ [attempt, findingCode finding] ++ bytesOf 2 payload.length ++ payload)
  | .probe target number => [5#8, target, number]
  | .echo target number => [6#8, target, number]
  | .linkOffer identity grant reachList => 7#8 :: identity :: grant :: bytesOf 8 reachList.toNat
  | .linkAccept station => [8#8, station]
  | .reach reachList => 9#8 :: bytesOf 8 reachList.toNat
  | .credit count => [10#8, count]
  | .idleTick => [11#8]

/-- A fabric frame as it stands on the lane. -/
def FabricFrame.onLane (f : FabricFrame) : List Byte := sealFrame f.bytes

/-- A number that a PROBE, ECHO or TRACE may carry as its target (R169). -/
def targetByte (b : Byte) : Bool := 1 ≤ b.toNat && b.toNat ≤ 63

/-- A stated payload length and the payload that follows it, where they agree and the length is at most 512 (R169). -/
def readPayload (l : List Byte) : Option (List Byte) :=
  let payload := l.drop 2
  if 2 ≤ l.length ∧ payload.length = bytesVal (l.take 2) ∧ payload.length ≤ Config.payloadLimit then some payload else none

/-- What the part makes of a frame's bytes on a fabric port: a frame it can read, one of a kind it does not know, or a damaged
frame (R169). -/
inductive FabricIn where
  | frame (f : FabricFrame)
  | unknownKind
  | damaged
deriving DecidableEq, Repr

/-- The tag of a frame's first two body bytes. -/
def tagFrom (a b : Byte) : Tag := BitVec.ofNat 16 (bytesVal [a, b])

/-- The body of a frame of a known kind, where its length and fields pass (R169). -/
def readFabricBody : List Byte → Option FabricFrame
  | [] => none
  | kind :: body =>
    if kind = 1#8 then
      match body with
      | a :: b :: cls :: c :: d :: e :: f :: target :: attempt :: rest =>
        (readPayload rest).map (.request (tagFrom a b) cls (BitVec.ofNat 32 (bytesVal [c, d, e, f])) target attempt)
      | _ => none
    else if kind = 2#8 then
      match body with
      | a :: b :: attempt :: rest => (readPayload rest).map (.answer (tagFrom a b) attempt)
      | _ => none
    else if kind = 3#8 then
      match body with
      | [a, b, target, attempt] => if targetByte target then some (.trace (tagFrom a b) target attempt) else none
      | _ => none
    else if kind = 4#8 then
      match body with
      | a :: b :: attempt :: code :: rest =>
        (findingOf code).bind (fun finding => (readPayload rest).bind (fun payload =>
          if finding == .done || payload.isEmpty then some (.traceReply (tagFrom a b) attempt finding payload) else none))
      | _ => none
    else if kind = 5#8 then
      match body with
      | [target, number] => if targetByte target then some (.probe target number) else none
      | _ => none
    else if kind = 6#8 then
      match body with
      | [target, number] => if targetByte target then some (.echo target number) else none
      | _ => none
    else if kind = 7#8 then
      match body with
      | identity :: grant :: list =>
        if list.length = 8 then some (.linkOffer identity grant (BitVec.ofNat 64 (bytesVal list))) else none
      | _ => none
    else if kind = 8#8 then
      match body with
      | [station] => some (.linkAccept station)
      | _ => none
    else if kind = 9#8 then (if body.length = 8 then some (.reach (BitVec.ofNat 64 (bytesVal body))) else none)
    else if kind = 10#8 then
      match body with
      | [count] => some (.credit count)
      | _ => none
    else if kind = 11#8 then (if body.isEmpty then some .idleTick else none)
    else none

/-- A frame with a good check sequence and a kind outside 1 to 11 passes as a kind the part does not take (R169). -/
def kindKnown (body : List Byte) : Bool :=
  match body with
  | kind :: _ => 1 ≤ kind.toNat && kind.toNat ≤ 11
  | [] => false

/-- A frame's bytes on a fabric port (R169). DESIGN CHOICE (log 27): the two bytes FF FF, a good check sequence over no bytes at all, have
no kind byte, and R169 does not say whether they pass as a kind the part does not take. The model counts them as damaged. -/
def readFabricFrame (bytes : List Byte) : FabricIn :=
  match openFrame bytes with
  | none => .damaged
  | some body =>
    match body with
    | [] => .damaged
    | _ :: _ =>
      if kindKnown body then
        match readFabricBody body with
        | some f => .frame f
        | none => .damaged
      else .unknownKind

/-- The command that a frame arriving on port p is (R64, R169). A frame of a kind the part does not take is discarded after it has
restarted LINK SILENCE, exactly as an idle tick is. -/
def fabricCommand (p : PortId) (bytes : List Byte) : Instr :=
  match readFabricFrame bytes with
  | .damaged => .damagedFrame p
  | .unknownKind => .idleTick p
  | .frame (.answer tag attempt payload) => .answerArrival p tag attempt payload
  | .frame (.traceReply tag attempt finding payload) => .traceReplyArrival p tag attempt finding payload
  | .frame (.echo target number) => .echo p target number
  | .frame (.linkOffer identity grant reachList) => .linkOffer p identity grant reachList
  | .frame (.reach reachList) => .reach p reachList
  | .frame (.credit count) => .fabricCreditArrival p count
  | .frame .idleTick => .idleTick p
  | .frame (.request _ _ _ _ _ _) => .idleTick p
  | .frame (.trace _ _ _) => .idleTick p
  | .frame (.probe _ _) => .idleTick p
  | .frame (.linkAccept _) => .idleTick p

/-! ## Row bus frames (R126, R130, R170, Table 12-4). A bit is true for recessive (1) and false for dominant (0). -/

/-- The row bus code of a station state (Table 12-6). -/
def rowStateCode : StationState → Nat
  | .standby => 0
  | .active => 1
  | .withdrawn => 2
  | .loading => 3

/-- The station state of a row bus code. -/
def rowStateOf (n : Nat) : Option StationState :=
  if n = 0 then some .standby else if n = 1 then some .active else if n = 2 then some .withdrawn else none

/-- One switch entry: identity (4), cables (3), lost (3), load (10). -/
def entryBits (e : SwitchEntry) : List Bool := bitsOf 4 e.switch ++ bitsOf 3 e.cables ++ bitsOf 3 e.lost ++ bitsOf 10 e.load

/-- The data bits before the CRC (Table 12-4). -/
def RowFrame.content : RowFrame → List Bool
  | .sighting id state entries =>
    bitsOf 5 id.val ++ bitsOf 2 1 ++ bitsOf 2 (rowStateCode state) ++ bitsOf 3 entries.length ++ entries.flatMap entryBits
  | .withdraw id => bitsOf 5 id.val ++ bitsOf 2 2 ++ [false]

/-- All data bits: the content and the 16-bit CRC (R130). -/
def RowFrame.dataBits (f : RowFrame) : List Bool := f.content ++ bitsOf 16 (crcBits f.content).toNat

/-- After every four data bits a separator opposite to the bit before it (R126). -/
def separate : List Bool → List Bool
  | a :: b :: c :: d :: rest => a :: b :: c :: d :: (!d) :: separate rest
  | rest => rest

/-- The frame on the line: start bit, data bits with separators, end mark (R126). -/
def RowFrame.onLine (f : RowFrame) : List Bool := false :: (separate f.dataBits ++ [false])

/-- The data bits of a separated string whose separators are all good (R130). -/
def unseparate : List Bool → Option (List Bool)
  | a :: b :: c :: d :: e :: rest => if e = !d then (unseparate rest).map (fun l => a :: b :: c :: d :: l) else none
  | [] => some []
  | _ => none

/-- n switch entries read from their bits. -/
def readEntries : Nat → List Bool → List SwitchEntry
  | 0, _ => []
  | n + 1, l =>
    ⟨bitsVal (l.take 4), bitsVal ((l.drop 4).take 3), bitsVal ((l.drop 7).take 3), bitsVal ((l.drop 10).take 10)⟩ :: readEntries n (l.drop 20)

/-- The contents read from the data bits before the CRC (R170, but for the content checks of a sighting's entries). -/
def readRowContent (l : List Bool) : Option RowFrame :=
  let id : StationId := ⟨bitsVal (l.take 5) % 32, Nat.mod_lt _ (by decide)⟩
  let kind := bitsVal ((l.drop 5).take 2)
  if kind = 1 then
    (rowStateOf (bitsVal ((l.drop 7).take 2))).bind (fun state =>
      let n := bitsVal ((l.drop 9).take 3)
      if n ≤ 4 ∧ l.length = 12 + 20 * n then some (.sighting id state (readEntries n (l.drop 12))) else none)
  else if kind = 2 then (if l.length = 8 ∧ l.drop 7 = [false] then some (.withdraw id) else none)
  else none

/-- A frame's bits on the line, from its start bit to its end mark, where they pass the checks of R130; the content checks on a
sighting's entries are made when the command is taken (R170). -/
def readRowFrame (line : List Bool) : Option RowFrame :=
  match line with
  | false :: rest =>
    if rest.getLast? = some false then
      (unseparate rest.dropLast).bind (fun data =>
        let content := data.take (data.length - 16)
        if 16 ≤ data.length ∧ data.drop (data.length - 16) = bitsOf 16 (crcBits content).toNat then readRowContent content else none)
    else none
  | _ => none

/-- The command that a frame on the row bus is (R131). One that fails a check of R130 or R170 is discarded, and ends as one broken off
(DEDUCED, log 25); a sighting that fails the checks on its entries is discarded by its own command. -/
def rowCommand (line : List Bool) : Instr :=
  match readRowFrame line with
  | some (.sighting sender state entries) => .sightingReceived sender state entries
  | some (.withdraw sender) => .withdrawReceived sender
  | none => .frameBrokenOff

end Sys2Proof.Machine
end

