-- ==== Sys2Proof/Machine/HostLinkCommands.lean ====
section
/-! DEFINITION. The commands of the host link (chapter 10) and of admission at the ingress head (chapters 1 and 2): frames from the
host, the taking up of a booking request, and the frames sent to the host in the order of R155. -/

namespace Sys2Proof.Machine

open Sys2Proof

/-- The link is up: the station has left LOADING (chapter 10, R164). -/
def State.linkUp (s : State) : Bool := s.station.state != .loading

/-! ## Frames from the host (R152, R154, R168) -/

/-- The frame is a control request (Table 10-1). -/
def HostFrame.isControl : HostFrame → Bool
  | .booking _ => false
  | .control _ _ => true

/-- A REQUEST or CONTROL frame joins the tail of the ingress queue, or is an overrun where 32 stand there (R152). -/
def State.joinIngress (s : State) (f : HostFrame) : State :=
  if s.link.ingress.length < Config.ingressLimit then s.setLink { s.link with ingress := s.link.ingress ++ [f] }
  else (s.raise (.linkOverrun f.isControl)).flush

/-- The host grants credits, up to 64 in all (R154). -/
def State.grantCredits (s : State) (n : Nat) : State :=
  s.setLink { s.link with credits := min (s.link.credits + n) Config.creditLimit }

/-- A frame delivered by the host link: it joins the ingress queue, grants credits, or is discarded as damaged with its request
credit freed where its first byte reads 1 (R152, R168). -/
def State.takeHostFrame (s : State) (frame : List Byte) : State :=
  match readHostFrame frame with
  | .frame f => s.joinIngress f
  | .credit count => s.grantCredits count.toNat
  | .damaged true => s.setLink (freeCredit (creditBatch s.config) s.link)
  | .damaged false => s

/-- HOST_REQUEST_ARRIVAL (R152, R168). In LOADING the part does not receive. -/
def execHostRequestArrival (frame : List Byte) (s : State) : Host.Outcome State Fault Refusal :=
  if s.linkUp then .next (s.takeHostFrame frame) else .next s

/-- HOST_CREDIT_ARRIVAL (R154, R168). In LOADING the part does not receive. -/
def execHostCreditArrival (frame : List Byte) (s : State) : Host.Outcome State Fault Refusal :=
  if s.linkUp then .next (s.takeHostFrame frame) else .next s

/-! ## Admission (R12 to R14, R29, R31, R32) -/

/-- The class of a booking request is REPEATABLE or SINGLE-SHOT (Table 12-3). -/
def classKnown (cls : Byte) : Bool := cls == 1#8 || cls == 2#8

/-- The outcome of the tests of R12, in order: the status of a refusal, or none for admission. -/
def State.refusal (s : State) (b : Booking) : Option ResultStatus :=
  if s.station.state ≠ .active then some .withdrawn
  else if b.payload.length < 1 ∨ Config.payloadLimit < b.payload.length then some (.refused .tooLong)
  else if !classKnown b.cls then some (.refused .badClass)
  else if 63 < b.target.toNat then some (.refused .badTarget)
  else if !s.known b.target.toNat then some .noRoute
  else none

/-- The ingress head waits (R13, R32). -/
def State.setHeadWait (s : State) (w : HeadWait) : State := s.setLink { s.link with headWait := w }

/-- The fields of the record filled from a booking request (R2). -/
def Booking.exchange (b : Booking) (phase : Phase) : Exchange where
  cls := b.cls
  session := b.session
  target := b.target.toNat
  hostRef := b.hostRef
  attempt := 0
  traces := 0
  everSent := false
  payload := b.payload
  phase := phase

/-- The slot at the head of the free list is taken and its record filled (R2, R3). -/
def State.fillSlot (s : State) (i : Slot) (rest : List Slot) (e : Exchange) : State :=
  (s.setRec i { s.record i with live := some e }).setFree rest

/-- A refusal: the slot is taken and its result decided at once, without a pair order list or an affinity entry (R13). -/
def State.refuse (s : State) (i : Slot) (rest : List Slot) (b : Booking) (status : ResultStatus) : State :=
  ((s.fillSlot i rest (b.exchange (.waiting .firstSend))).answer i status []).popIngress

/-- A fresh placement is due on a hit: the entry is idle, and marked, without a port, or on a port that is not UP with the cell
GOOD (R29). -/
def State.freshDue (s : State) (e : Entry) : Bool := e.isIdle && (e.marked || !e.port.any (s.eligible e.target))

/-- An entry just filled or installed: no count and no mark (R31, R40). -/
def Entry.fresh (session : Word32) (target : Nat) (port : Option PortId) : Entry := ⟨session, target, port, 0, false, none⟩

/-- The pair is placed on the port that the Path Selector names, or on none (R29, R31). -/
def State.placeBySelection (s : State) (session : Word32) (target : Nat) : State :=
  s.placePair session target (s.selectFor session target)

/-- The pair's entry for an admission, found or filled, with its way used; none for a set-full wait (R29 to R32). -/
def State.takeEntry (s : State) (session : Word32) (target : Nat) : Option State :=
  match s.findPlace session target with
  | some pl =>
    some ((if (s.entryAt pl).any s.freshDue then s.placeBySelection session target else s).useWay pl)
  | none =>
    (s.cacheSet (setIndex session target)).chooseWay.map (fun w =>
      let pl : Place := ⟨setIndex session target, w⟩
      ((s.setEntryAt pl (some (Entry.fresh session target none))).placeBySelection session target).useWay pl)

/-- The admission of a request whose pair has its entry (R14): WAITING where the pair is placed, HELD where it is not. -/
def State.enter (s : State) (i : Slot) (rest : List Slot) (b : Booking) : State :=
  let session := b.session
  let target := b.target.toNat
  let s1 := (s.fillSlot i rest (b.exchange (.waiting .firstSend))).raiseCount session target
  let s2 := s1.setOrder (s1.ex.order ++ [i])
  match s2.pairPort session target with
  | some _ => s2
  | none => s2.hold i .firstSend

/-- The head waits for nothing and the station receives, so that it is taken up (R13, R32). -/
def State.headFree (s : State) : Bool := s.linkUp && s.link.headWait == .none

/-- ADMISSION (R12 to R14): the booking request at the ingress head is refused, admitted, or left waiting for a slot or for a way. -/
def execAdmission (s : State) : Host.Outcome State Fault Refusal :=
  if s.headFree then
    match s.link.ingress with
    | .booking b :: _ =>
      match s.ex.free with
      | [] => .next (s.setHeadWait .tableFull)
      | i :: rest =>
        match s.refusal b with
        | some status => .next (s.refuse i rest b status)
        | none =>
          match s.takeEntry b.session b.target.toNat with
          | none => .next (s.setHeadWait (.setFull (setIndex b.session b.target.toNat)))
          | some s1 => .next (s1.enter i rest b).popIngress.close
    | _ => .next s
  else .next s

/-! ## Frames to the host (R9, R153 to R156) -/

/-- A credit return is due (R153). -/
def HostLink.creditDue (l : HostLink) : Bool := l.returnDue && decide (1 ≤ l.freed)

/-- A host-bound frame other than a CREDIT may start: no return is due and a credit is held (R155). -/
def HostLink.mayStart (l : HostLink) : Bool := !l.creditDue && decide (0 < l.credits)

/-- The frame takes one host-bound credit and goes out (R154). -/
def HostLink.send (l : HostLink) (f : HostBound) : HostLink := { l with credits := l.credits - 1, lastSent := some f }

/-- SEND_CREDIT_RETURN (R153): the count goes out and returns to 0. -/
def execSendCreditReturn (s : State) : Host.Outcome State Fault Refusal :=
  if s.linkUp && s.link.creditDue then
    .next (s.setLink { s.link with freed := 0, returnDue := false, lastSent := some (.credit s.link.freed) })
  else .next s

/-- SEND_CONTROL_REPLY (R155). -/
def execSendControlReply (s : State) : Host.Outcome State Fault Refusal :=
  if s.linkUp && s.link.mayStart then
    match s.link.replies with
    | [] => .next s
    | r :: rest => .next (s.setLink ({ s.link with replies := rest }.send (.reply r)))
  else .next s

/-- A notice goes before the results: the result queue is empty or the result run is 8 or more (R155). -/
def State.noticeFirst (s : State) : Bool := s.ex.results.isEmpty || decide (Config.resultRunLimit ≤ s.link.resultRun)

/-- SEND_NOTICE (R155, R156): the frame carries the dropped mark and clears it, and the result run is 0. -/
def execSendNotice (s : State) : Host.Outcome State Fault Refusal :=
  if s.linkUp && s.link.mayStart && s.link.replies.isEmpty && s.noticeFirst then
    match s.link.notices with
    | [] => .next s
    | n :: rest =>
      .next (s.setLink ({ s.link with notices := rest, dropped := false, resultRun := 0 }.send (.notice n s.link.dropped)))
  else .next s

/-- The RESULT frame of an ANSWERED exchange (R9). -/
def resultFrame (e : Exchange) (status : ResultStatus) : ResultFrame where
  hostRef := e.hostRef
  session := e.session
  target := e.target
  status := status
  attempt := e.attempt
  payload := e.payload

/-- SEND_RESULT (R9, R10, R155): the head of the result queue goes out and its slot is freed. -/
def execSendResult (s : State) : Host.Outcome State Fault Refusal :=
  if s.linkUp && s.link.mayStart && s.link.replies.isEmpty && (s.link.notices.isEmpty || !s.noticeFirst) then
    match s.ex.results with
    | [] => .next s
    | i :: rest =>
      match s.live i with
      | some e =>
        match e.phase with
        | .answered status =>
          let s1 := s.setLink ({ s.link with resultRun := s.link.resultRun + 1 }.send (.result (resultFrame e status)))
          .next ((s1.setResults rest).freeSlot i)
        | _ => .next s
      | none => .next s
  else .next s

end Sys2Proof.Machine
end

