-- ==== Sys2Proof/Machine/Operands.lean ====
section
/-! DEFINITION. The arguments of the control requests (Table 12-2), each read with the length and the ranges of Table 10-2. Where
arguments are missing, of another length, or out of range, there is no operand and the reply is BAD INDEX (R157, R168). -/

namespace Sys2Proof.Machine

open Sys2Proof

/-- The request codes of Table 12-2. -/
structure RequestCodes where
  configure : Byte := 1
  enable : Byte := 2
  withdraw : Byte := 3
  status : Byte := 4
  readConfig : Byte := 5
  readExchange : Byte := 6
  readPort : Byte := 7
  readRoute : Byte := 8
  readPeer : Byte := 9
  readVerdict : Byte := 10
  lookup : Byte := 11
  pin : Byte := 12
  flush : Byte := 13
  portOff : Byte := 14
  portOn : Byte := 15
  resetPort : Byte := 16
  endExchange : Byte := 17
  cancel : Byte := 18
  hostReset : Byte := 19

/-- The request codes. -/
def codes : RequestCodes := {}

/-- The code names a request of Table 10-2. -/
def codeKnown (code : Byte) : Bool := 1 ≤ code.toNat && code.toNat ≤ 19

/-- No arguments. -/
def argsNone : List Byte → Option Unit
  | [] => some ()
  | _ => none

/-- A port index 0 to 3. -/
def portIndex (b : Byte) : Option PortId := if h : b.toNat < 4 then some ⟨b.toNat, h⟩ else none

/-- A port index or 255 for automatic. -/
def portOrAutomatic (b : Byte) : Option (Option PortId) :=
  if b = 255#8 then some none else (portIndex b).map some

/-- One port. -/
def argsPort : List Byte → Option PortId
  | [b] => portIndex b
  | _ => none

/-- A slot, two bytes, 0 to 511. -/
def argsSlot : List Byte → Option Slot
  | [a, b] => if h : bytesVal [a, b] < 512 then some ⟨bytesVal [a, b], h⟩ else none
  | _ => none

/-- A target 1 to 63. -/
def targetIndex (b : Byte) : Option Nat := if targetByte b then some b.toNat else none

/-- A target and a port: a cell. -/
def argsCell : List Byte → Option (Nat × PortId)
  | [t, p] => (targetIndex t).bind (fun t => (portIndex p).map (fun p => (t, p)))
  | _ => none

/-- A station 0 to 31. -/
def argsStation : List Byte → Option StationId
  | [b] => if h : b.toNat < 32 then some ⟨b.toNat, h⟩ else none
  | _ => none

/-- A switch 1 to 15. -/
def argsSwitch : List Byte → Option Nat
  | [b] => if 1 ≤ b.toNat ∧ b.toNat ≤ 15 then some b.toNat else none
  | _ => none

/-- A session and a target: a pair. -/
def argsPair : List Byte → Option (Word32 × Nat)
  | [a, b, c, d, t] => (targetIndex t).map (fun t => (BitVec.ofNat 32 (bytesVal [a, b, c, d]), t))
  | _ => none

/-- The arguments of PIN: a pair, a port or automatic, a way or automatic. -/
structure PinArgs where
  session : Word32
  target : Nat
  port : Option PortId
  way : Option (Fin 4)
deriving DecidableEq, Repr

/-- The arguments of PIN. -/
def argsPin : List Byte → Option PinArgs
  | [a, b, c, d, t, p, w] =>
    (targetIndex t).bind (fun t => (portOrAutomatic p).bind (fun p => (portOrAutomatic w).map (fun w =>
      ⟨BitVec.ofNat 32 (bytesVal [a, b, c, d]), t, p, w⟩)))
  | _ => none

/-- The arguments of PORT OFF: a port, and whether the mode is immediate. -/
def argsPortOff : List Byte → Option (PortId × Bool)
  | [p, mode] => (portIndex p).bind (fun p =>
      if mode = 0#8 then some (p, false) else if mode = 1#8 then some (p, true) else none)
  | _ => none

/-- The arguments ask PORT OFF in the mode immediate. -/
def modeImmediate : List Byte → Bool
  | [_, mode] => mode == 1#8
  | _ => false

/-- A host reference. -/
def argsHostRef : List Byte → Option Word32
  | [a, b, c, d] => some (BitVec.ofNat 32 (bytesVal [a, b, c, d]))
  | _ => none

/-- Item numbers and values in groups of three bytes. -/
def argsTriples : List Byte → Option (List (Nat × Nat))
  | [] => some []
  | n :: a :: b :: rest =>
    if 1 ≤ n.toNat ∧ n.toNat ≤ 26 then (argsTriples rest).map (fun l => (n.toNat, bytesVal [a, b]) :: l) else none
  | _ => none

/-- The arguments of CONFIGURE: at least one item (R168). -/
def argsConfigure : List Byte → Option (List (Nat × Nat))
  | [] => none
  | l => argsTriples l

end Sys2Proof.Machine
end

