-- ==== Sys2Proof/Machine/Control.lean ====
section
/-! DEFINITION. The taking of a control request (R157) and what the reading requests report (R39, R75, R91, R151, R159). -/

namespace Sys2Proof.Machine

open Sys2Proof

/-- The code and arguments of the control request that the Admission Unit can take: the one at the ingress head, while the reply
queue holds fewer than 8 replies (R157). -/
def State.controlHead (s : State) : Option (Byte × List Byte) :=
  if s.headFree && decide (s.link.replies.length < Config.replyLimit) then
    match s.link.ingress with
    | .control code args :: _ => some (code, args)
    | _ => none
  else none

/-- The answer of an owner: the state after the request is carried out, the status and the contents. -/
structure Answered where
  state : State
  status : ReplyStatus
  body : ReplyBody

/-- A request refused with a status changes nothing (R157). -/
def refusedWith (status : ReplyStatus) (s : State) : Answered := ⟨s, status, .none⟩

/-- A request answered DONE with its contents. -/
def doneWith (body : ReplyBody) (s : State) : Answered := ⟨s, .done, body⟩

/-- The control request at the ingress head is taken: it leaves the queue, its arguments are checked, its owner carries it out, and
its one reply joins the reply queue (R157). `refusedBody` stands in a BAD INDEX reply. -/
def State.takeControl {α : Type} (s : State) (code : Byte) (args : List Byte) (refusedBody : ReplyBody)
    (read : List Byte → Option α) (owner : α → State → Answered) : State :=
  match read args with
  | none => s.popIngress.pushReply ⟨code, .badIndex, refusedBody⟩
  | some x =>
    let a := owner x s.popIngress
    a.state.pushReply ⟨code, a.status, a.body⟩

/-- The command of the request with a code: it is taken where it stands at the ingress head, and nothing happens where it does not. -/
def State.onRequest {α : Type} (s : State) (code : Byte) (read : List Byte → Option α) (owner : α → State → Answered) :
    Host.Outcome State Fault Refusal :=
  match s.controlHead with
  | some (head, args) => if head = code then .next (s.takeControl code args .none read owner) else .next s
  | none => .next s

/-! ## STATUS, READ CONFIG and READ EXCHANGE (R159) -/

/-- The code of the state of a record (Table 12-6). -/
def Phase.code : Phase → Nat
  | .waiting _ => 1
  | .sent _ _ _ => 2
  | .tracing _ _ _ => 3
  | .held _ _ => 4
  | .answered _ => 5

/-- The code of the state of a slot: 0 for FREE. -/
def State.stateCode (s : State) (i : Slot) : Nat :=
  match s.phase i with
  | none => 0
  | some ph => ph.code

/-- The number of records in the state with a code. -/
def State.countInState (s : State) (code : Nat) : Nat := ((List.finRange 512).filter (fun i => s.stateCode i == code)).length

/-- The work-list length: the items on the list, plus one while an item is in progress (R92). -/
def State.workLength (s : State) : Nat := s.failover.work.length + (if s.failover.current.isSome then 1 else 0)

/-- What STATUS reports, with its own frame gone from the ingress queue (R157, R159; log 13). -/
def State.statusReport (s : State) : StatusReport where
  state := s.station.state
  id := s.station.id
  resetKind := s.station.resetKind
  outcome := s.station.outcome
  locked := s.station.locked
  time := s.timeBase
  free := s.countInState 0
  waiting := s.countInState 1
  sent := s.countInState 2
  tracing := s.countInState 3
  held := s.countInState 4
  answered := s.countInState 5
  ports := allPorts.map (fun p => (s.port p).state)
  workLength := s.workLength
  dropped := s.link.dropped
  ingressLength := s.link.ingress.length
  credits := s.link.credits

/-- The port field (Table 1-1). -/
def Phase.port : Phase → Option PortId
  | .sent p _ _ => some p
  | .tracing p _ _ => some p
  | _ => none

/-- The deadline (Table 1-1). -/
def Phase.deadline : Phase → Option Time
  | .sent _ d _ => some d
  | .tracing _ d _ => some d
  | .held _ d => some d
  | _ => none

/-- The entered-port-at time (Table 1-1). -/
def Phase.enteredAt : Phase → Option Time
  | .sent _ _ at_ => some at_
  | .tracing _ _ at_ => some at_
  | _ => none

/-- The pending action (Table 1-1). -/
def Phase.action : Phase → Option Action
  | .waiting a => some a
  | .held a _ => some a
  | _ => none

/-- The result status (Table 1-1). -/
def Phase.status : Phase → Option ResultStatus
  | .answered st => some st
  | _ => none

/-- What READ EXCHANGE reports of a record that is not FREE: a field that its state has not is reported absent (R159). -/
def liveReport (now : Time) (e : Exchange) : LiveReport where
  cls := e.cls
  session := e.session
  target := e.target
  hostRef := e.hostRef
  port := e.phase.port
  attempt := e.attempt
  traces := e.traces
  everSent := e.everSent
  action := e.phase.action
  remaining := timeLeft now e.phase.deadline
  enteredAt := e.phase.enteredAt
  status := e.phase.status
  payloadLength := e.payload.length

/-- What READ EXCHANGE reports (R159). -/
def State.exchangeReport (s : State) (i : Slot) : ExchangeReport where
  slot := i
  generation := (s.record i).generation
  tag := tagOf i (s.record i).generation
  stateCode := s.stateCode i
  live := (s.live i).map (liveReport s.timeBase)

/-! ## The other reports -/

/-- What READ PORT reports (R75). -/
def State.portReport (s : State) (p : PortId) : PortReport where
  state := (s.port p).state
  identity := (s.port p).identity
  credits := (s.port p).credits
  retryBar := (s.port p).retryBar
  reach := (s.port p).reach
  pendingProbes := (s.port p).pendingProbes.length
  pendingTraces := (s.port p).pendingTraces.length
  outstanding := (s.outstanding p).length
  ready := (s.ready p).length
  trainingLeft := timeLeft s.timeBase (s.port p).trainingEnds
  silenceLeft := timeLeft s.timeBase (s.port p).silenceEnds
  holdLeft := timeLeft s.timeBase (s.port p).holdEnds

/-- What READ ROUTE reports (R91). -/
def State.routeReport (s : State) (t : Nat) (p : PortId) : RouteReport :=
  let x := s.cell t p
  { state := x.state
    step := x.step
    misses := x.misses
    quiet := x.quiet
    recovery := x.recovery
    inFlight := x.inFlight.isSome
    pending := x.pending
    sinceSend := x.lastSend.map (elapsed s.timeBase)
    latency := x.latency
    untilDue := if s.monitored t p then timeLeft s.timeBase (dueAt s.config x) else none }

/-- This station's own counts for each switch to which it has a cable (R151). -/
def State.ownCounts (s : State) : List (Nat × CableCount) :=
  (allSwitches.filter (fun sw => decide (1 ≤ (s.ownCount sw).cables))).map (fun sw => (sw, s.ownCount sw))

/-- What READ PEER reports (R151). -/
def State.peerReport (s : State) (i : StationId) : PeerReport :=
  if i = s.station.id then .own s.station.state s.ownCounts
  else
    match s.peer i with
    | some e => .peer e (s.age e) (s.fresh e)
    | none => .absent

/-- What READ VERDICT reports (R151). -/
def State.verdictReport (s : State) (sw : Nat) : VerdictReport :=
  let v := s.verdict sw
  { verdict := v.verdict
    applied := v.applied
    c := v.c
    d := v.d
    l := v.l
    n := v.n
    cables := (s.ownCount sw).cables
    lost := (s.ownCount sw).lost
    clearLeft := timeLeft s.timeBase v.clearEnds
    staggerLeft := timeLeft s.timeBase v.staggerEnds }

/-- What LOOKUP reports of a valid entry in a way. -/
def hitReport (w : Fin 4) (e : Entry) : HitReport := ⟨w, e.port, e.count, e.quiesceMark, e.verdictMark⟩

/-- What LOOKUP reports (R39). -/
def State.lookupReport (s : State) (session : Word32) (target : Nat) : LookupReport :=
  let x := s.cacheSet (setIndex session target)
  { set := setIndex session target
    root := x.root
    left := x.left
    right := x.right
    hit := (x.findWay session target).bind (fun w => x.ways[w].map (hitReport w)) }

end Sys2Proof.Machine
end

