-- ==== Sys2Proof/Machine/Resets.lean ====
section
/-! DEFINITION. Full resets, the EEPROM load, the entry to STANDBY and the host reset (chapters 10 and 11). -/

namespace Sys2Proof.Machine

open Sys2Proof

/-! ## Full reset (R160, R167) -/

/-- The levels that the receivers report, which no reset changes. -/
def State.signals (s : State) : Vector Bool 4 := s.ports.map (·.signal)

/-- A full reset with the RESET pin asserted: the station stays in LOADING with the Time Base at 0 and no load running; the straps
are not yet sampled (R160; log 7 for the station ID meanwhile). -/
def State.fullResetHeld (s : State) (kind : ResetKind) : State :=
  State.afterFullReset
    { state := .loading, id := s.station.id, pinAsserted := true, loadBegan := none, resetKind := kind, outcome := none, locked := false }
    s.signals s.pending

/-- The straps are sampled, the Time Base starts at 0 and the EEPROM load begins (R160). -/
def State.fullResetBegun (s : State) (straps : StationId) (kind : ResetKind) : State :=
  State.afterFullReset
    { state := .loading, id := straps, pinAsserted := false, loadBegan := some 0, resetKind := kind, outcome := none, locked := false }
    s.signals s.pending

/-- POWER_ON (R160, R167). -/
def execPowerOn (straps : StationId) (pinAsserted : Bool) (s : State) : Host.Outcome State Fault Refusal :=
  if pinAsserted then .next (s.fullResetHeld ⟨true, true, false⟩) else .next (s.fullResetBegun straps ⟨true, false, false⟩)

/-- RESET_PIN_ASSERTED (R160, R167): the record holds POWER as well where the LOADING of a power-on reset has not ended. A pin that
is asserted already is not asserted again. -/
def execResetPinAsserted (s : State) : Host.Outcome State Fault Refusal :=
  if s.station.pinAsserted then .next s
  else .next (s.fullResetHeld ⟨s.station.state == .loading && s.station.resetKind.power, true, false⟩)

/-- RESET_PIN_RELEASED (R160). -/
def execResetPinReleased (straps : StationId) (s : State) : Host.Outcome State Fault Refusal :=
  if s.station.pinAsserted then .next (s.fullResetBegun straps s.station.resetKind) else .next s

/-! ## The EEPROM load (R162 to R164) -/

/-- A read on the I2C line in order: a write of the address of the first byte, a repeated start, and a sequential read in which every
byte but the last is acknowledged (R162). The EEPROM acknowledges the two addresses and the byte written. -/
def I2cRead.actions (x : I2cRead) : List I2cAction :=
  [.start, .address x.device false, .write x.first, .repeatedStart, .address x.device true] ++
    (List.range x.count).map (fun i => .read (decide (i + 1 < x.count)))

/-- The command that ends the read: `acks` are the EEPROM's answers to its address, to the byte written and to its address again, and
`data` the bytes read. Without all of them the EEPROM counts as absent (R162). -/
def eepromCommand (acks : List Bool) (data : List Byte) (hostSequence : Bool) : Instr :=
  .eepromLoadComplete (if acks = [true, true, true] ∧ data.length = eepromRead.count then some data else none) hostSequence

/-- The items a good image gives: bytes 2 to 53, two bytes each (Table 12-5). -/
def imageItems (image : List Byte) : Config.Settings :=
  Vector.ofFn (fun i => bytesVal ((image.drop (2 + 2 * i.val)).take 2))

/-- The outcome of a read and the configuration it leaves, decided in the order of R162. -/
def loadImage (read : Option (List Byte)) : LoadOutcome × Config.Settings :=
  match read with
  | none => (.eepromAbsent, Config.defaults)
  | some image =>
    if image.length ≠ Config.imageLength then (.eepromAbsent, Config.defaults)
    else if image.drop 62 ≠ bytesOf 2 (crcBytes (image.take 62)).toNat then (.imageBad, Config.defaults)
    else if image.take 2 ≠ [70#8, 1#8] then (.imageForeign, Config.defaults)
    else if clampAll (imageItems image) = imageItems image then (.loaded, imageItems image)
    else (.loadedClamped, clampAll (imageItems image))

/-- The load ends and the station enters STANDBY: STARTED is queued, the row bus is read and a sighting falls due, and the ports begin
to act on their signal (R60, R127, R135, R164). A reset sequence on the host link's lanes adds HOST to the record (R167).
DESIGN CHOICE (log 31): where several ports are detected, their PORT CHANGE notices come in the order P0 to P3. -/
def State.enterStandby (s : State) (loaded : LoadOutcome × Config.Settings) (hostSequence : Bool) : State :=
  let kind := { s.station.resetKind with host := s.station.resetKind.host || hostSequence }
  let s1 := { s with
    config := loaded.2
    station := { s.station with state := .standby, loadBegan := none, outcome := some loaded.1, resetKind := kind }
    row := { s.row with phase := .waiting, pending := .sighting } }
  (allPorts.foldl State.detect (s1.raise (.started s1.station.id kind (some loaded.1)))).close

/-- The load in progress began more than 50 ms ago (R162). -/
def State.loadLate (s : State) (began : Time) : Bool := Config.eepromLimitUs < (elapsed s.timeBase began).toNat

/-- EEPROM_LOAD_COMPLETE (R162 to R164): a read that ends later than 50 ms after it began counts as absent. -/
def execEepromLoadComplete (image : Option (List Byte)) (hostSequence : Bool) (s : State) : Host.Outcome State Fault Refusal :=
  match s.station.state, s.station.loadBegan with
  | .loading, some began => .next (s.enterStandby (loadImage (if s.loadLate began then none else image)) hostSequence)
  | _, _ => .next s

/-- EEPROM_READ_TIMEOUT (R162, R164): 50 ms after the read began. -/
def execEepromReadTimeout (hostSequence : Bool) (s : State) : Host.Outcome State Fault Refusal :=
  match s.station.state, s.station.loadBegan with
  | .loading, some began =>
    if Config.eepromLimitUs ≤ (elapsed s.timeBase began).toNat then .next (s.enterStandby (loadImage none) hostSequence)
    else .next s
  | _, _ => .next s

/-! ## Host reset (R26, R42, R76, R92, R137, R158) -/

/-- The exchange table after a host reset: every record FREE, with its generation advanced unless it was FREE already (R26). -/
def Exchanges.hostReset (x : Exchanges) : Exchanges :=
  { Exchanges.empty with
    slots := x.slots.map (fun r => if r.live.isSome then ⟨r.generation + 1, none⟩ else r) }

/-- A port after a host reset, before any detection (R76). -/
def Port.hostReset (x : Port) : Port :=
  match x.state with
  | .off => { x with state := .down, pendingTraces := [] }
  | .quiescing => { x with state := .down, credits := 0, silenceEnds := none, pendingProbes := [], pendingTraces := [] }
  | .reset => { x with state := .down, holdEnds := none, pendingTraces := [] }
  | .down | .training | .up => { x with pendingTraces := [] }

/-- The cells of the QUIESCING ports are set as at a loss (R76, R77). -/
def State.loseQuiescingCells (s : State) : State :=
  (allPorts.filter (fun p => (s.port p).state == .quiescing)).foldl State.loseCells s

/-- The ports a host reset takes into DOWN (R76). -/
def State.portsReturned (s : State) : List PortId :=
  allPorts.filter (fun p => (s.port p).state == .off || (s.port p).state == .quiescing || (s.port p).state == .reset)

/-- The Row Bus Controller after a host reset (R137): a sighting is pending at once, or falls due at the end of the frame in SENDING,
which keeps its place as the pending frame until then. -/
def RowBus.hostReset (r : RowBus) : RowBus :=
  let r1 := { r with withdrawn := false, driveFaultReported := false, lastConflict := none }
  match r.phase with
  | .sending (.sighting _ _ _) => { r1 with pending := .sighting, dueAtEnd := true }
  | .sending (.withdraw _) => { r1 with pending := .withdraw, dueAtEnd := true }
  | _ => { r1 with pending := .sighting, dueAtEnd := false }

/-- The blocks a host reset clears or changes, with no notice yet queued (R158). The frame last put on the host link stands. -/
def State.hostCleared (s : State) : State :=
  let s1 := s.loseQuiescingCells
  { s1 with
    station := { s.station with state := .standby, resetKind := ⟨false, false, true⟩ }
    link := { HostLink.afterReset with lastSent := s.link.lastSent }
    ex := s.ex.hostReset
    cache := Vector.replicate 64 CacheSet.empty
    ports := s.ports.map Port.hostReset
    failover := Failover.empty
    row := s.row.hostReset
    raised := [] }

/-- STARTED is the first notice after the reset, and LINE HELD LOW follows it where the line is held low (R137, R158). -/
def State.queueRestart (s : State) : State :=
  let s1 := (s.raise (.started s.station.id s.station.resetKind s.station.outcome)).flush
  if s1.row.lineFault = .heldLow then (s1.raise (.rowFault .lineHeldLow none)).flush else s1

/-- A host reset (R158): the ports it takes into DOWN report their cables, and those with signal pass into TRAINING (R60, R76, R142).
DESIGN CHOICE (log 29): LINE HELD LOW is queued right after STARTED, before the PORT CHANGE and VERDICT CHANGE notices of the same reset.
DESIGN CHOICE (log 31): where several ports are detected, their PORT CHANGE notices come in the order P0 to P3. -/
def State.hostReset (s : State) : State :=
  let returned := s.portsReturned
  let s1 := s.hostCleared.queueRestart
  let s2 := if returned.isEmpty then s1 else s1.reportCables
  (returned.foldl State.detect s2).close

/-- HOST_LINK_RESET_SEQUENCE (R158): a host reset; in LOADING it cannot be received (R167). -/
def execHostLinkResetSequence (s : State) : Host.Outcome State Fault Refusal :=
  if s.station.state = .loading then .next s else .next s.hostReset

end Sys2Proof.Machine
end

