-- ==== Sys2Proof/Machine/ControlCommands.lean ====
section
/-! DEFINITION. The control requests (Table 10-2), each taken at the ingress head as R157 states. -/

namespace Sys2Proof.Machine

open Sys2Proof

/-! ## CONFIGURE (R163, R165) -/

/-- Item n changes between two sets. -/
def itemChanges (before after : Config.Settings) (n : Nat) : Bool := item before n != item after n

/-- Every cell changed by f. -/
def State.mapCells (s : State) (f : Cell → Cell) : State := { s with routes := s.routes.map f }

/-- Every cell whose due moment has been reached falls due, in target order on each port (R81). -/
def State.fallDueAll (s : State) : State :=
  allTargets.foldl (fun u t => allPorts.foldl (fun v p => v.fallDue t p) u) s

/-- A cell under a lowered MISS LIMIT and a lowered RECOVER COUNT (R165). -/
def Cell.underLimits (before after : Config.Settings) (x : Cell) : Cell :=
  { x with
    misses := if missLimit after < missLimit before then min x.misses (missLimit after) else x.misses
    recovery := if recoverCount after < recoverCount before ∧ recoverCount after ≤ x.recovery then recoverCount after - 1
      else x.recovery }

/-- Periodic due and change earliest moved to last sent plus the new values, where a sighting has been sent whole; a moment so moved
into the past falls due at once (R165). -/
def RowBus.retime (now : Time) (cfg : Config.Settings) (r : RowBus) : RowBus :=
  match r.lastSent with
  | none => r
  | some sent =>
    let r1 := { r with
      periodicDue := some (sent + ms (sightingPeriod cfg)), changeEarliest := some (sent + ms (sightingSpacing cfg)) }
    if expired now r1.periodicDue || r1.changeDue now then r1.pendSighting else r1

/-- Entries past the expiry threshold leave the peer view table (R141). -/
def State.dropExpired (s : State) : State :=
  { s with view := { s.view with peers := s.view.peers.map (fun e => if e.any s.pastExpiry then none else e) } }

/-- The effects of R165 on the state then standing, for the items that change. -/
def State.applyItems (s : State) (after : Config.Settings) : State :=
  let changes := itemChanges s.config after
  let s1 := { s with config := after }
  let s2 := s1.mapCells (Cell.underLimits s.config after)
  let s3 := if changes 7 then s2.fallDueAll else s2
  let s4 := if changes 16 || changes 17 then s3.setRow (s3.row.retime s3.timeBase after) else s3
  let s5 := if changes 16 || changes 18 || changes 19 then s4.dropExpired else s4
  let s6 := if changes 16 || changes 18 || changes 19 || changes 20 || changes 21 then s5.recomputeThose (fun _ => true) else s5
  if changes 26 && decide (creditBatch after ≤ s6.link.freed) then s6.setLink { s6.link with returnDue := true } else s6

/-- The set that a CONFIGURE gives before clamping: a later value for an item replaces an earlier one (R165). -/
def givenItems (before : Config.Settings) (items : List (Nat × Nat)) : Config.Settings :=
  items.foldl (fun v x => setItem v x.1 x.2) before

/-- CONFIGURE's owner (R165): LOCKED while the lock is set, and taken in STANDBY alone; a refusal lists no clamped items (log 10). -/
def ownConfigure (items : List (Nat × Nat)) (s : State) : Answered :=
  if s.station.locked then ⟨s, .locked, .clamped []⟩
  else if s.station.state ≠ .standby then ⟨s, .wrongState, .clamped []⟩
  else
    let given := givenItems s.config items
    ⟨(s.applyItems (clampAll given)).close, .done, .clamped (clampedItems given)⟩

/-- CONFIGURE (R165). -/
def execConfigure (s : State) : Host.Outcome State Fault Refusal :=
  match s.controlHead with
  | some (head, args) =>
    if head = codes.configure then .next (s.takeControl head args (.clamped []) argsConfigure ownConfigure) else .next s
  | none => .next s

/-! ## ENABLE and WITHDRAW (R136, R166) -/

/-- ENABLE's owner (R166). -/
def ownEnable (_ : Unit) (s : State) : Answered :=
  if s.station.state = .standby then doneWith .none (s.setStation { s.station with state := .active, locked := true })
  else refusedWith .wrongState s

/-- ENABLE (R166). -/
def execEnable (s : State) : Host.Outcome State Fault Refusal := s.onRequest codes.enable argsNone ownEnable

/-- The controller at the host's WITHDRAW (R136; log 20 for a frame that an earlier host reset found on the line). -/
def RowBus.withdraw (r : RowBus) : RowBus :=
  { r with
    withdrawn := true
    pending := .withdraw
    periodicDue := none
    changeWanted := false
    wantedNext := false
    dueAtEnd := false }

/-- WITHDRAW's owner (R136, R166). -/
def ownWithdraw (_ : Unit) (s : State) : Answered :=
  if s.station.state = .active then
    doneWith .none ((s.setStation { s.station with state := .withdrawn }).setRow s.row.withdraw)
  else refusedWith .wrongState s

/-- WITHDRAW (R166). -/
def execWithdraw (s : State) : Host.Outcome State Fault Refusal := s.onRequest codes.withdraw argsNone ownWithdraw

/-! ## The reading requests (R39, R75, R91, R151, R159) -/

/-- STATUS (R159). -/
def execStatus (s : State) : Host.Outcome State Fault Refusal :=
  s.onRequest codes.status argsNone (fun _ u => doneWith (.status u.statusReport) u)

/-- READ_CONFIG (R159). -/
def execReadConfig (s : State) : Host.Outcome State Fault Refusal :=
  s.onRequest codes.readConfig argsNone (fun _ u => doneWith (.config u.config.toList u.station.outcome u.station.locked) u)

/-- READ_EXCHANGE (R159). -/
def execReadExchange (s : State) : Host.Outcome State Fault Refusal :=
  s.onRequest codes.readExchange argsSlot (fun i u => doneWith (.exchange (u.exchangeReport i)) u)

/-- READ_PORT (R75). -/
def execReadPort (s : State) : Host.Outcome State Fault Refusal :=
  s.onRequest codes.readPort argsPort (fun p u => doneWith (.port (u.portReport p)) u)

/-- READ_ROUTE (R91). -/
def execReadRoute (s : State) : Host.Outcome State Fault Refusal :=
  s.onRequest codes.readRoute argsCell (fun x u => doneWith (.route (u.routeReport x.1 x.2)) u)

/-- READ_PEER (R151). -/
def execReadPeer (s : State) : Host.Outcome State Fault Refusal :=
  s.onRequest codes.readPeer argsStation (fun i u => doneWith (.peer (u.peerReport i)) u)

/-- READ_VERDICT (R151). -/
def execReadVerdict (s : State) : Host.Outcome State Fault Refusal :=
  s.onRequest codes.readVerdict argsSwitch (fun sw u => doneWith (.verdict (u.verdictReport sw)) u)

/-- LOOKUP (R39). -/
def execLookup (s : State) : Host.Outcome State Fault Refusal :=
  s.onRequest codes.lookup argsPair (fun x u => doneWith (.lookup (u.lookupReport x.1 x.2)) u)

/-! ## PIN and FLUSH (R40, R41) -/

/-- The way that PIN installs, or none where a check of R40 on the ways fails. -/
def CacheSet.pinWay (x : CacheSet) (a : PinArgs) : Option (Fin 4) :=
  let present := x.findWay a.session a.target
  if present.any x.pinnedAt then none
  else
    match a.way with
    | some w => if x.pinnedAt w then none else some w
    | none =>
      match present with
      | some w => some w
      | none => x.chooseWay

/-- The port that PIN installs, or none where it is NOT GOOD (R40, R58). -/
def State.pinPort (s : State) (a : PinArgs) : Option PortId :=
  match a.port with
  | some p => if s.eligible a.target p then some p else none
  | none => s.selectFor a.session a.target

/-- The pair is installed in a way with a port (R40). -/
def State.install (s : State) (a : PinArgs) (w : Fin 4) (p : PortId) : State :=
  let pl : Place := ⟨setIndex a.session a.target, w⟩
  let s1 := match s.findPlace a.session a.target with
    | some old => s.setEntryAt old none
    | none => s
  (s1.setEntryAt pl (some (Entry.fresh a.session a.target (some p)))).useWay pl

/-- PIN's owner (R40). -/
def ownPin (a : PinArgs) (s : State) : Answered :=
  match (s.cacheSet (setIndex a.session a.target)).pinWay a with
  | none => refusedWith .pinned s
  | some w =>
    match s.pinPort a with
    | none => refusedWith .notGood s
    | some p => doneWith (.pinned w p) (s.install a w p)

/-- PIN (R40, R58). -/
def execPin (s : State) : Host.Outcome State Fault Refusal := s.onRequest codes.pin argsPin ownPin

/-- Every idle entry is invalidated (R41). -/
def State.flushIdle (s : State) : State :=
  { s with cache := s.cache.map (fun x => { x with ways := x.ways.map (fun e => if e.any (·.isIdle) then none else e) }) }

/-- FLUSH's owner (R41). -/
def ownFlush (_ : Unit) (s : State) : Answered :=
  doneWith (.flushed (s.flushIdle.placesWith (fun _ => true)).length) s.flushIdle

/-- FLUSH (R41). -/
def execFlush (s : State) : Host.Outcome State Fault Refusal := s.onRequest codes.flush argsNone ownFlush

/-! ## The ports (R70 to R74) -/

/-- PORT OFF graceful (R71): an UP port is quiesced; one with no working link is put off at once. -/
def ownPortOffGraceful (a : PortId × Bool) (s : State) : Answered :=
  match (s.port a.1).state with
  | .up => doneWith .none (s.quiesce a.1).close
  | .down | .training | .reset => doneWith .none (s.portOff a.1).close
  | .quiescing | .off => refusedWith .wrongState s

/-- PORT OFF immediate (R73). -/
def ownPortOffImmediate (a : PortId × Bool) (s : State) : Answered :=
  if (s.port a.1).state = .off then refusedWith .wrongState s else doneWith .none (s.portOff a.1).close

/-- PORT_OFF_GRACEFUL (R71, R157): a PORT OFF request that does not ask the mode immediate; one with arguments that cannot be read is
answered BAD INDEX here. -/
def execPortOffGraceful (s : State) : Host.Outcome State Fault Refusal :=
  match s.controlHead with
  | some (head, args) =>
    if head = codes.portOff ∧ !modeImmediate args then .next (s.takeControl head args .none argsPortOff ownPortOffGraceful)
    else .next s
  | none => .next s

/-- PORT_OFF_IMMEDIATE (R73, R157): a PORT OFF request that asks the mode immediate. -/
def execPortOffImmediate (s : State) : Host.Outcome State Fault Refusal :=
  match s.controlHead with
  | some (head, args) =>
    if head = codes.portOff ∧ modeImmediate args then .next (s.takeControl head args .none argsPortOff ownPortOffImmediate)
    else .next s
  | none => .next s

/-- PORT ON's owner (R74). -/
def ownPortOn (p : PortId) (s : State) : Answered :=
  match (s.port p).state with
  | .off => doneWith .none (s.switchOn p).close
  | .quiescing => doneWith .none (s.resume p).close
  | .up | .down | .training | .reset => refusedWith .wrongState s

/-- PORT_ON (R74). -/
def execPortOn (s : State) : Host.Outcome State Fault Refusal := s.onRequest codes.portOn argsPort ownPortOn

/-- RESET_PORT (R70). -/
def execResetPort (s : State) : Host.Outcome State Fault Refusal :=
  s.onRequest codes.resetPort argsPort (fun p u => doneWith .none (u.resetPort p).close)

/-! ## END and CANCEL (R23, R24) -/

/-- The oldest open exchange under a host reference (R23). -/
def State.openUnder (s : State) (hostRef : Word32) : Option Slot :=
  s.ex.order.find? (fun i => (s.live i).any (fun e => e.hostRef == hostRef))

/-- The host may end the exchange: it is REPEATABLE, or it has never been sent (R23). -/
def Exchange.mayEnd (e : Exchange) : Bool := e.repeatable || !e.everSent

/-- The choice and tests that END and CANCEL share (R23). -/
def endWith (act : Slot → Exchange → State → State) (hostRef : Word32) (s : State) : Answered :=
  match s.openUnder hostRef with
  | none => refusedWith .notFound s
  | some i =>
    match s.live i with
    | none => refusedWith .notFound s
    | some e => if e.mayEnd then doneWith .none (s.closeFrom (act i e s)) else refusedWith .unsafeToEnd s

/-- END's owner (R24): the result CANCELLED is decided. -/
def ownEnd (hostRef : Word32) (s : State) : Answered := endWith (fun i _ u => u.decideResult i .cancelled []) hostRef s

/-- END (R23, R24). -/
def execEnd (s : State) : Host.Outcome State Fault Refusal := s.onRequest codes.endExchange argsHostRef ownEnd

/-- CANCEL's owner (R24): the exchange is removed and its slot freed without a RESULT. -/
def ownCancel (hostRef : Word32) (s : State) : Answered :=
  endWith (fun i e u => ((u.detach i).leavePair i e).freeSlot i) hostRef s

/-- CANCEL (R23, R24). -/
def execCancel (s : State) : Host.Outcome State Fault Refusal := s.onRequest codes.cancel argsHostRef ownCancel

/-! ## HOST RESET and requests of no known name (R157, R158) -/

/-- HOST_RESET (R158): the reply is the first on the reply queue after the reset. -/
def execHostReset (s : State) : Host.Outcome State Fault Refusal :=
  s.onRequest codes.hostReset argsNone (fun _ u => doneWith .none u.hostReset)

/-- UNKNOWN_REQUEST (R157). -/
def execUnknownRequest (s : State) : Host.Outcome State Fault Refusal :=
  match s.controlHead with
  | some (head, args) =>
    if codeKnown head then .next s
    else .next (s.takeControl head args .none some (fun _ u => refusedWith .unknownRequest u))
  | none => .next s

end Sys2Proof.Machine
end

