-- ==== Sys2Proof/Machine/ExchangeCommands.lean ====
section
/-! DEFINITION. The commands on exchanges and traces: sending, answers, findings and the three waits (chapters 1 and 7). -/

namespace Sys2Proof.Machine

open Sys2Proof

/-- The exchange in the slot is WAITING for a resend. -/
def State.isResend (s : State) (i : Slot) : Bool := s.phase i == some (.waiting .resend)

/-- The exchange the arbiter of port p takes from the ready list: the resend that has stood longest, else the head (R69). -/
def State.nextReady (s : State) (p : PortId) : Option Slot :=
  match (s.ready p).find? s.isResend with
  | some i => some i
  | none => (s.ready p).head?

/-- The REQUEST frame of an exchange at its present attempt (R15). -/
def requestFrame (tag : Tag) (e : Exchange) : FabricFrame :=
  .request tag e.cls e.session (BitVec.ofNat 8 e.target) (BitVec.ofNat 8 e.attempt) e.payload

/-- The exchange's record after a send (R15). -/
def Exchange.afterSend (e : Exchange) : Exchange :=
  { e with attempt := min (e.attempt + 1) Config.attemptLimitOfField, everSent := true }

/-- SEND_EXCHANGE (R15, R69): with a credit, and no probe or trace waiting, the arbiter sends the next exchange of the ready list. -/
def execSendExchange (p : PortId) (s : State) : Host.Outcome State Fault Refusal :=
  if (s.port p).maySend && (s.port p).pendingProbes.isEmpty && (s.port p).pendingTraces.isEmpty then
    match s.nextReady p with
    | none => .next s
    | some i =>
      match s.live i with
      | none => .next s
      | some e =>
        let e1 := e.afterSend
        let s1 := s.modLive i (fun _ => e1)
        .next ((s1.becomeSent i p).transmit p (requestFrame (tagOf i (s.record i).generation) e1)).close
  else .next s

/-- The tests an ANSWER must pass (R17). -/
def State.answerAccepted (s : State) (tag : Tag) : Bool :=
  let r := s.record (tagSlot tag)
  tagGeneration tag == r.generation.val && r.live.any (fun e => e.everSent && match e.phase with
    | .answered _ => false
    | _ => true)

/-- ANSWER_ARRIVAL (R17, R18, R64): in UP and QUIESCING the frame restarts LINK SILENCE, and an accepted ANSWER completes the exchange
and reports the cell it arrived on alive. A payload over 512 bytes is a damaged frame (R169). The attempt answered is not tested. -/
def execAnswerArrival (p : PortId) (tag : Tag) (_attempt : Byte) (payload : List Byte) (s : State) :
    Host.Outcome State Fault Refusal :=
  if Config.payloadLimit < payload.length then .next (s.takeDamaged p).close
  else if !(s.port p).state.linked then .next s
  else if !s.answerAccepted tag then .next (s.heard p)
  else
    match s.live (tagSlot tag) with
    | none => .next (s.heard p)
    | some e => .next (s.closeFrom (((s.heard p).decideResult (tagSlot tag) .completed payload).alive e.target p))

/-- A REPEATABLE exchange or one answered NOT SEEN is due a resend: WAITING where its pair is placed, HELD where it is not, and
TIMED OUT at the attempt limit (R19, R120). -/
def State.dueResend (s : State) (i : Slot) (e : Exchange) : State :=
  if e.attempt < attemptLimit s.config then
    match s.pairPort e.session e.target with
    | some _ => s.setPhase i (.waiting .resend)
    | none => s.hold i .resend
  else s.decideResult i .timedOut []

/-- ANSWER_WAIT_EXPIRY (R19, R20): a SENT exchange whose deadline is reached leaves its outstanding list, a miss is reported, and it
is due a resend or its fate is sought. -/
def execAnswerWaitExpiry (i : Slot) (s : State) : Host.Outcome State Fault Refusal :=
  match s.live i with
  | none => .next s
  | some e =>
    match e.phase with
    | .sent p deadline enteredAt =>
      if reached s.timeBase deadline then
        let s1 := (s.detach i).exchangeMiss e.target p enteredAt
        .next (s.closeFrom (if e.repeatable then s1.dueResend i e else s1.seekFate i (some p)))
      else .next s
    | _ => .next s

/-- HOLD_EXPIRY (R22): the hold limit of a HELD exchange is reached, and its result is NO PATH, or IN DOUBT for action TRACE. -/
def execHoldExpiry (i : Slot) (s : State) : Host.Outcome State Fault Refusal :=
  match s.phase i with
  | some (.held action deadline) =>
    if reached s.timeBase deadline then
      .next (s.decideResult i (if action = .trace then .inDoubt else .noPath) []).close
    else .next s
  | _ => .next s

/-- TRACE_TRANSMISSION (R69, R113, R114): with a credit and no probe waiting, the arbiter sends the head of the pending traces. A
trace whose exchange is gone is dropped and spends no credit. -/
def execTraceTransmission (p : PortId) (s : State) : Host.Outcome State Fault Refusal :=
  if (s.port p).maySend && (s.port p).pendingProbes.isEmpty then
    match (s.port p).pendingTraces with
    | [] => .next s
    | i :: rest =>
      let s1 := s.modPort p (fun x => { x with pendingTraces := rest })
      match s.live i with
      | none => .next s1
      | some e =>
        .next (s1.transmit p
          (.trace (tagOf i (s.record i).generation) (BitVec.ofNat 8 e.target) (BitVec.ofNat 8 e.attempt)))
  else .next s

/-- The tests a TRACE REPLY must pass (R117). -/
def State.replyAccepted (s : State) (tag : Tag) (attempt : Byte) (finding : Finding) : Bool :=
  let r := s.record (tagSlot tag)
  tagGeneration tag == r.generation.val && r.live.any (fun e => (match e.phase with
    | .tracing _ _ _ => true
    | _ => false) && (finding == .done || attempt.toNat == e.attempt))

/-- What an accepted finding decides, once the trace has ended (R118 to R120). -/
def State.takeFinding (s : State) (p : PortId) (i : Slot) (e : Exchange) (payload : List Byte) : Finding → State
  | .done => s.decideResult i .completed payload
  | .working => s.becomeSent i p
  | .notSeen => (s.modLive i (fun x => { x with traces := 0 })).dueResend i { e with traces := 0 }

/-- TRACE_REPLY_ARRIVAL (R64, R117 to R120). A frame that fails the checks of R169 is a damaged frame. -/
def execTraceReplyArrival (p : PortId) (tag : Tag) (attempt : Byte) (finding : Finding) (payload : List Byte) (s : State) :
    Host.Outcome State Fault Refusal :=
  if Config.payloadLimit < payload.length || (finding != .done && !payload.isEmpty) then .next (s.takeDamaged p).close
  else if !(s.port p).state.linked then .next s
  else if !s.replyAccepted tag attempt finding then .next (s.heard p)
  else
    match s.live (tagSlot tag) with
    | none => .next (s.heard p)
    | some e =>
      .next (s.closeFrom (((((s.heard p).detach (tagSlot tag)).alive e.target p)).takeFinding p (tagSlot tag) e payload finding))

/-- TRACE_WAIT_EXPIRY (R122): the trace wait of a TRACING exchange is reached, and its trace is unanswered. -/
def execTraceWaitExpiry (i : Slot) (s : State) : Host.Outcome State Fault Refusal :=
  match s.phase i with
  | some (.tracing p deadline _) =>
    if reached s.timeBase deadline then .next (s.closeFrom (s.unanswered p i)) else .next s
  | _ => .next s

end Sys2Proof.Machine
end

