-- ==== Sys2Proof/Machine/Migration.lean ====
section
/-! DEFINITION. The Failover Engine (chapter 6): re-placement, the walk, the entries phase, placement items, and the five commands by
which it acts. The engine acts in every station state but LOADING (R96). -/

namespace Sys2Proof.Machine

open Sys2Proof

/-! ## Re-placement (R98 to R100) -/

/-- The pair has gained port q: each of its HELD exchanges, in admission order, returns to WAITING or is traced on q (R99). -/
def State.returnHeld (s : State) (session : Word32) (target : Nat) (q : PortId) : State :=
  (s.pairOrder session target).foldl (fun u i => match u.phase i with
    | some (.held .trace _) => u.placeTrace i q
    | some (.held action _) => u.setPhase i (.waiting action)
    | _ => u) s

/-- The pair has become unplaced: each of its WAITING exchanges becomes HELD with its action (R100). -/
def State.holdWaiting (s : State) (session : Word32) (target : Nat) : State :=
  (s.pairOrder session target).foldl (fun u i => match u.phase i with
    | some (.waiting action) => u.hold i action
    | _ => u) s

/-- A pair on a lost port or cell is re-placed (R98, R100). -/
def State.replacePair (s : State) (session : Word32) (target : Nat) : State :=
  match s.selectFor session target with
  | some q => (s.placePair session target (some q)).returnHeld session target q
  | none => (s.placePair session target none).holdWaiting session target

/-! ## The walk (R97, R98, R101, R102) -/

/-- The port of a loss item. -/
def LossScope.portOf : LossScope → PortId
  | .port p => p
  | .cell _ p => p

/-- The target of an exchange or entry lies in the item's scope. -/
def LossScope.covers (scope : LossScope) (target : Nat) : Bool :=
  match scope with
  | .port _ => true
  | .cell t _ => t == target

/-- When an exchange last entered SENT or TRACING on its port (Table 1-1). -/
def Exchange.enteredAt (e : Exchange) : Option Time :=
  match e.phase with
  | .sent _ _ at_ => some at_
  | .tracing _ _ at_ => some at_
  | _ => none

/-- The exchange qualifies for the walk: it entered the port before the horizon and, for a cell-loss item, is of the cell's
target (R97). -/
def State.qualifies (s : State) (scope : LossScope) (horizon : Time) (i : Slot) : Bool :=
  (s.live i).any (fun e => scope.covers e.target && e.enteredAt.any (isBefore · horizon))

/-- A SENT exchange met in the walk, taken off its lists (R101, R102). For a SINGLE-SHOT one whose pair names no port, R102
and R100 say HELD and Table 7-1 a trace choice with the item's port excluded. A free value decides between the two (log 24). -/
def State.moveSent (s : State) (p : PortId) (i : Slot) (e : Exchange) : State :=
  match e.repeatable, s.pairPort e.session e.target with
  | true, some _ => s.setPhase i (.waiting .resend)
  | true, none => s.hold i .resend
  | false, named =>
    if traceLimit s.config ≤ e.traces then s.decideResult i .inDoubt []
    else match named with
      | none => if Config.tracesUnplaced then s.traceOrHold i e.target (some p) else s.hold i .trace
      | some q => if s.eligible e.target q then s.placeTrace i q else s.traceOrHold i e.target (some p)

/-- A walk step's work on one exchange (R98, R101, R102). DEDUCED (log 28): an exchange met TRACING is taken as unanswered whether or not
its pair is placed (R102, R122, Table 7-1), and so is traced again where a port has become eligible. R100's words that an unplaced pair's
TRACING exchanges are made HELD are read as holding where no port is left. -/
def State.walkOne (s : State) (p : PortId) (i : Slot) (e : Exchange) : State :=
  let s1 := if s.pairPort e.session e.target = some p ∧ !s.eligible e.target p then s.replacePair e.session e.target else s
  match e.phase with
  | .sent _ _ _ => (s1.detach i).moveSent p i e
  | .tracing _ _ _ => s1.unanswered p i
  | _ => s1

/-! ## The entries phase and the end of a loss item (R103, R104) -/

def State.setCurrent (s : State) (x : Option InProgress) : State := s.setFailover { s.failover with current := x }

/-- The item in progress is finished; a port-loss item hands on the LOST cells of an UP port that still carry work (R104). -/
def State.finishLoss (s : State) (scope : LossScope) : State :=
  let s1 := s.setCurrent none
  match scope with
  | .cell _ _ => s1
  | .port p =>
    if (s1.port p).state = .up then
      (allTargets.filter (fun t => (s1.cell t p).state == .lost
        && (s1.carries t p || !(s1.placesWith (fun e => e.port == some p && e.target == t)).isEmpty))).foldl
        (fun u t => u.offerCellLoss t p) s1
    else s1

/-- The valid entries at the places, each with the pair it holds. -/
def State.refsAt (s : State) (places : List Place) : List EntryRef :=
  places.filterMap (fun pl => (s.entryAt pl).map (fun e => ⟨pl, e.session, e.target⟩))

/-- The entries phase begins with the entries that name the item's port, and ends at once where there is none (R103). -/
def State.beginEntries (s : State) (scope : LossScope) (horizon : Time) : State :=
  match s.refsAt (s.placesWith (fun e => e.port == some scope.portOf && scope.covers e.target)) with
  | [] => s.finishLoss scope
  | todo => s.setCurrent (some (.entries scope horizon todo))

/-- One entry in the entries phase (R103). -/
def State.handleEntry (s : State) (p : PortId) (r : EntryRef) : State :=
  match s.entryAt r.place with
  | none => s
  | some e =>
    if !e.holds r.session r.target || e.port != some p || s.eligible e.target p then s
    else if e.isIdle then s.setEntryAt r.place none
    else s.replacePair e.session e.target

/-! ## Placement items (R105, R106) -/

/-- The HELD exchanges of a target whose pair names a port, in admission order (R106). -/
def State.heldRefs (s : State) (t : Nat) : List HeldRef :=
  (s.ex.order.filter (fun i => (s.live i).any (fun e =>
    e.target == t && e.isHeld && (s.pairPort e.session e.target).isSome))).map (fun i => ⟨i, (s.record i).generation⟩)

/-- The held phase begins, and the placement item is finished where nothing is held (R106). -/
def State.beginHeld (s : State) (t : Nat) : State :=
  match s.heldRefs t with
  | [] => s.setCurrent none
  | todo => s.setCurrent (some (.held t todo))

/-- The pair phase begins with the unplaced entries of the target, and gives way to the held phase where there is none (R105). -/
def State.beginPairs (s : State) (t : Nat) : State :=
  match s.refsAt (s.placesWith (fun e => e.port == none && e.target == t)) with
  | [] => s.beginHeld t
  | todo => s.setCurrent (some (.pairs t todo))

/-- One entry in the pair phase (R105). -/
def State.handlePair (s : State) (r : EntryRef) : State :=
  match s.entryAt r.place with
  | none => s
  | some e =>
    if e.holds r.session r.target && e.isPinned && e.port.isNone then
      match s.selectFor e.session e.target with
      | some q => (s.placePair e.session e.target (some q)).returnHeld e.session e.target q
      | none => s
    else s

/-- One exchange in the held phase (R106). -/
def State.handleHeld (s : State) (r : HeldRef) : State :=
  match s.live r.slot with
  | none => s
  | some e =>
    if (s.record r.slot).generation = r.generation ∧ (s.pairPort e.session e.target).isSome then
      match e.phase with
      | .held .trace _ =>
        match s.traceChoice e.target none with
        | some q => s.placeTrace r.slot q
        | none => s
      | .held action _ => s.setPhase r.slot (.waiting action)
      | _ => s
    else s

/-! ## The commands -/

/-- WORK_ITEM_TAKEN_UP (R96, R97, R105): the idle engine takes the head of the work list. A cell-loss item whose cell is GOOD is
finished at once; one whose cell is not runs (log 11 for an UNTESTED cell). -/
def execWorkItemTakenUp (s : State) : Host.Outcome State Fault Refusal :=
  if s.station.state = .loading ∨ s.failover.current.isSome then .next s else
  match s.failover.work with
  | [] => .next s
  | head :: rest =>
    let s1 := s.setWork rest
    match head with
    | .portLoss p horizon => .next (s1.setCurrent (some (.walk (.port p) horizon)))
    | .cellLoss t p =>
      if (s1.cell t p).state = .good then .next s1
      else .next (s1.setCurrent (some (.walk (.cell t p) s.timeBase)))
    | .placement t => .next (s1.beginPairs t)

/-- WALK_STEP (R97 to R102). -/
def execWalkStep (s : State) : Host.Outcome State Fault Refusal :=
  if s.station.state = .loading then .next s else
  match s.failover.current with
  | some (.walk scope horizon) =>
    match (s.outstanding scope.portOf).find? (s.qualifies scope horizon) with
    | none => .next (s.beginEntries scope horizon)
    | some i =>
      match s.live i with
      | none => .next s
      | some e => .next (s.closeFrom (s.walkOne scope.portOf i e))
  | _ => .next s

/-- ENTRIES_STEP (R103, R104). -/
def execEntriesStep (s : State) : Host.Outcome State Fault Refusal :=
  if s.station.state = .loading then .next s else
  match s.failover.current with
  | some (.entries scope horizon todo) =>
    match todo with
    | [] => .next (s.finishLoss scope)
    | [r] => .next ((s.handleEntry scope.portOf r).finishLoss scope).close
    | r :: rest => .next ((s.handleEntry scope.portOf r).setCurrent (some (.entries scope horizon rest))).close
  | _ => .next s

/-- PAIR_PHASE_STEP (R105). -/
def execPairPhaseStep (s : State) : Host.Outcome State Fault Refusal :=
  if s.station.state = .loading then .next s else
  match s.failover.current with
  | some (.pairs t todo) =>
    match todo with
    | [] => .next (s.beginHeld t)
    | [r] => .next ((s.handlePair r).beginHeld t).close
    | r :: rest => .next ((s.handlePair r).setCurrent (some (.pairs t rest))).close
  | _ => .next s

/-- HELD_PHASE_STEP (R106). -/
def execHeldPhaseStep (s : State) : Host.Outcome State Fault Refusal :=
  if s.station.state = .loading then .next s else
  match s.failover.current with
  | some (.held t todo) =>
    match todo with
    | [] => .next (s.setCurrent none)
    | [r] => .next ((s.handleHeld r).setCurrent none).close
    | r :: rest => .next ((s.handleHeld r).setCurrent (some (.held t rest))).close
  | _ => .next s

end Sys2Proof.Machine
end

