-- ==== Sys2Proof/Machine/PortCommands.lean ====
section
/-! DEFINITION. The commands of the fabric lines and of the ports' timers (chapters 4 and 5): signal, training, frames from the
switch, silence, the reset hold, probes and echoes. -/

namespace Sys2Proof.Machine

open Sys2Proof

/-- SIGNAL_ARRIVING (R60): a detection in DOWN with the retry bar clear; otherwise, and while the station is LOADING (R59), the port
only notes the signal. -/
def execSignalArriving (p : PortId) (s : State) : Host.Outcome State Fault Refusal :=
  let s1 := s.modPort p (fun x => { x with signal := true })
  if s.station.state = .loading ∨ (s.port p).signal then .next s1 else .next (s1.detect p).close

/-- SIGNAL_LOST (R60, R61, R67): the retry bar is cleared, a TRAINING port enters DOWN, and a working link is lost. -/
def execSignalLost (p : PortId) (s : State) : Host.Outcome State Fault Refusal :=
  let s1 := s.modPort p (fun x => { x with signal := false, retryBar := false })
  match (s.port p).state with
  | .training =>
    .next ((s1.modPort p (fun x => { x with state := .down, trainingEnds := none })).announce p .training .signalLost).close
  | .up | .quiescing => .next (s1.loseLink p .signalLost).close
  | .down | .off | .reset => .next s1

/-- TRAINING_WAIT_EXPIRY (R61): the port enters DOWN and sets its retry bar. -/
def execTrainingWaitExpiry (p : PortId) (s : State) : Host.Outcome State Fault Refusal :=
  if (s.port p).state = .training ∧ expired s.timeBase (s.port p).trainingEnds then
    .next ((s.modPort p (fun x => { x with state := .down, trainingEnds := none, retryBar := true })).announce
      p .training .trainingExpired).close
  else .next s

/-- LINK_OFFER (R61, R64, R67): a valid offer in TRAINING brings the port UP; in UP or QUIESCING it is a switch restart, the link is
lost, and the offer is taken as the first of the new training; an invalid one is discarded. A restart empties the port's ready list
before the new UP fills it in order of admission (R6). -/
def execLinkOffer (p : PortId) (identity grant : Byte) (reachList : BitVec 64) (s : State) : Host.Outcome State Fault Refusal :=
  match (s.port p).state with
  | .training => if offerValid identity grant then .next (s.comeUp p identity grant reachList).close else .next s
  | .up | .quiescing =>
    if offerValid identity grant then
      let s1 := (s.loseLink p .switchRestart).settleReady
      .next (if (s1.port p).state = .training then s1.comeUp p identity grant reachList else s1).close
    else .next (s.heard p)
  | .down | .off | .reset => .next s

/-- FABRIC_CREDIT_ARRIVAL (R64, R68): the count is added, up to 64. -/
def execFabricCreditArrival (p : PortId) (count : Byte) (s : State) : Host.Outcome State Fault Refusal :=
  if (s.port p).state.linked then
    .next ((s.heard p).modPort p (fun x => { x with credits := min (x.credits + count.toNat) Config.creditLimit }))
  else .next s

/-- REACH (R63, R64, R78, R90). -/
def execReach (p : PortId) (reachList : BitVec 64) (s : State) : Host.Outcome State Fault Refusal :=
  if (s.port p).state.linked then .next ((s.heard p).takeReach p (reachTargets reachList)).close else .next s

/-- IDLE_TICK (R64, R65). -/
def execIdleTick (p : PortId) (s : State) : Host.Outcome State Fault Refusal := .next (s.heard p)

/-- DAMAGED_FRAME (R66). -/
def execDamagedFrame (p : PortId) (s : State) : Host.Outcome State Fault Refusal := .next (s.takeDamaged p).close

/-- LINK_SILENCE_EXPIRY (R65). -/
def execLinkSilenceExpiry (p : PortId) (s : State) : Host.Outcome State Fault Refusal :=
  if (s.port p).state.linked && expired s.timeBase (s.port p).silenceEnds then .next (s.loseLink p .silence).close else .next s

/-- PORT_RESET_HOLD_EXPIRY (R70): the port enters DOWN and, with signal present, TRAINING. -/
def execPortResetHoldExpiry (p : PortId) (s : State) : Host.Outcome State Fault Refusal :=
  if (s.port p).state = .reset ∧ expired s.timeBase (s.port p).holdEnds then
    .next (((s.modPort p (fun x => { x with state := .down, holdEnds := none })).announce p .reset .holdExpired).detect p).close
  else .next s

/-- PROBE_DUE (R81). -/
def execProbeDue (t : Nat) (p : PortId) (s : State) : Host.Outcome State Fault Refusal := .next (s.fallDue t p)

/-- The cell of a probe being sent (R82). -/
def Cell.probed (now : Time) (cfg : Config.Settings) (x : Cell) : Cell :=
  { x with probeNumber := x.probeNumber + 1, pending := false, lastSend := some now, inFlight := some ⟨now, now + ms (probeWait cfg)⟩ }

/-- PROBE_SEND (R69, R82): with a credit, the arbiter sends the head of the pending probes. -/
def execProbeSend (p : PortId) (s : State) : Host.Outcome State Fault Refusal :=
  if (s.port p).maySend then
    match (s.port p).pendingProbes with
    | [] => .next s
    | t :: rest =>
      let s1 := (s.modPort p (fun x => { x with pendingProbes := rest })).modCell t p (Cell.probed s.timeBase s.config)
      .next (s1.transmit p (.probe (BitVec.ofNat 8 t) (s1.cell t p).probeNumber))
  else .next s

/-- ECHO (R64, R82, R83, R86, R88): one that matches the probe in flight of its cell resolves it; any other is ignored. An ECHO whose
target is 0 or above 63 is a damaged frame (R169). -/
def execEcho (p : PortId) (target number : Byte) (s : State) : Host.Outcome State Fault Refusal :=
  let t := target.toNat
  if t < 1 || 63 < t then .next (s.takeDamaged p).close
  else if !(s.port p).state.linked then .next s
  else
    match (s.cell t p).inFlight with
    | some flight =>
      if (s.cell t p).probeNumber = number then .next ((s.heard p).resolveEcho t p flight).close else .next (s.heard p)
    | none => .next (s.heard p)

/-- PROBE_WAIT_EXPIRY (R82, R84): the probe in flight is a miss on the cell. -/
def execProbeWaitExpiry (t : Nat) (p : PortId) (s : State) : Host.Outcome State Fault Refusal :=
  match (s.cell t p).inFlight with
  | some flight =>
    if reached s.timeBase flight.waitEnds then .next ((s.modCell t p (fun x => { x with inFlight := none })).miss t p).close
    else .next s
  | none => .next s

end Sys2Proof.Machine
end

