-- ==== Sys2Proof/WellFormed.lean ====
section
/-! DEFINITION. Which commands are well formed: the operands a line can deliver as the event the command names (R169, R170),
and the cells and switches that exist (R77, R143). A command that is not well formed still has a meaning. -/

namespace Sys2Proof

/-- A target a booking request can be addressed to: 1 to 63. -/
def isTarget (t : Nat) : Bool := 1 ≤ t && t ≤ 63

/-- A switch identity: 1 to 15. -/
def isSwitch (sw : Nat) : Bool := 1 ≤ sw && sw ≤ 15

/-- One switch entry passes the content checks of R170. -/
def SwitchEntry.wf (e : SwitchEntry) : Bool :=
  isSwitch e.switch && (1 ≤ e.cables && e.cables ≤ 4) && e.lost ≤ e.cables && e.load ≤ 512

/-- The entries stand in rising order of switch identity (R170). -/
def entriesRise : List SwitchEntry → Bool
  | a :: b :: rest => a.switch < b.switch && entriesRise (b :: rest)
  | _ => true

/-- A received sighting passes the content checks of R170. -/
def sightingWf (state : StationState) (entries : List SwitchEntry) : Bool :=
  state != .loading && entries.length ≤ 4 && entries.all SwitchEntry.wf && entriesRise entries

/-- The payload of a TRACE REPLY: at most 512 bytes, and none unless the finding is DONE (R169). -/
def tracePayloadWf (finding : Finding) (payload : List Byte) : Bool :=
  payload.length ≤ Config.payloadLimit && (finding == .done || payload.isEmpty)

/-- The well-formed commands. -/
def Instr.wf : Instr → Bool
  | .eepromLoadComplete (some image) _ => image.length == Config.imageLength
  | .answerArrival _ _ _ payload => payload.length ≤ Config.payloadLimit
  | .traceReplyArrival _ _ _ finding payload => tracePayloadWf finding payload
  | .probeDue t _ => isTarget t
  | .echo _ t _ => isTarget t.toNat
  | .probeWaitExpiry t _ => isTarget t
  | .sightingReceived _ state entries => sightingWf state entries
  | .clearHoldExpiry sw => isSwitch sw
  | .staggerExpiry sw => isSwitch sw
  | .powerOn _ _ | .resetPinAsserted | .resetPinReleased _ | .eepromLoadComplete none _ | .eepromReadTimeout _
  | .hostRequestArrival _ | .hostCreditArrival _ | .hostLinkResetSequence | .admission | .sendCreditReturn
  | .sendControlReply | .sendNotice | .sendResult | .configure | .enable | .withdraw | .status | .readConfig
  | .readExchange | .readPort | .readRoute | .readPeer | .readVerdict | .lookup | .pin | .flush | .portOffGraceful
  | .portOffImmediate | .portOn | .resetPort | .endExchange | .cancel | .hostReset | .unknownRequest | .sendExchange _
  | .answerWaitExpiry _ | .holdExpiry _ | .traceTransmission _ | .traceWaitExpiry _ | .signalArriving _ | .signalLost _
  | .trainingWaitExpiry _ | .linkOffer _ _ _ _ | .fabricCreditArrival _ _ | .reach _ _ | .idleTick _ | .damagedFrame _
  | .linkSilenceExpiry _ | .portResetHoldExpiry _ | .probeSend _ | .workItemTakenUp | .walkStep | .entriesStep
  | .pairPhaseStep | .heldPhaseStep | .rowFrameStart _ | .lostArbitration | .bitError | .rowFrameSentWhole
  | .withdrawReceived _ | .frameBrokenOff | .lineHeldLow | .cleared | .driveRetryExpiry | .periodicSightingDue
  | .changeSightingDue | .peerEntryStale _ | .peerEntryExpired _ => true

end Sys2Proof
end

