-- ==== Sys2Proof/Machine/RowCommands.lean ====
section
/-! DEFINITION. The commands of the row bus (chapter 8) and of the peer views (chapter 9). -/

namespace Sys2Proof.Machine

open Sys2Proof

/-! ## Composing a sighting (R134) -/

/-- The load of a switch: the exchanges on the outstanding lists of the UP ports cabled to it, and 0 in STANDBY (R134). -/
def State.loadOf (s : State) (sw : Nat) : Nat :=
  if s.station.state = .standby then 0
  else ((allPorts.filter (fun p => (s.port p).state == .up && (s.port p).identity == some sw)).map
    (fun p => (s.outstanding p).length)).sum

/-- The switch entries of a sighting, in order of switch identity (R134). -/
def State.sightingEntries (s : State) : List SwitchEntry :=
  (allSwitches.filter (fun sw => decide (1 ≤ (s.countCables sw).cables))).map
    (fun sw => ⟨sw, (s.countCables sw).cables, (s.countCables sw).lost, s.loadOf sw⟩)

/-- The frame that the controller composes at a start, or none where none is pending (R128). -/
def State.composeFrame (s : State) : Option RowFrame :=
  match s.row.pending with
  | .none => none
  | .sighting => some (.sighting s.station.id s.station.state s.sightingEntries)
  | .withdraw => some (.withdraw s.station.id)

/-! ## Starting, ending and aborting a frame (R128, R129, R133) -/

/-- The station reads the row bus: it has left LOADING (R126). -/
def State.rowRead (s : State) : Bool := s.station.state != .loading

/-- The controller may start a frame: WAITING, the line NORMAL, and no frame of another station on it (R128). -/
def RowBus.mayStart (r : RowBus) : Bool := r.phase == .waiting && r.lineFault == .normal && !r.receiving

/-- A frame is on the line. -/
def RowBus.isSending (r : RowBus) : Bool :=
  match r.phase with
  | .sending _ => true
  | _ => false

/-- The start bit reads back recessive (R133). -/
def State.failDrive (s : State) : State :=
  let s1 := s.setRow { s.row with
    phase := .driveRetry, retryAt := some (s.timeBase + ms (sightingPeriod s.config)), driveFaultReported := true }
  if s.row.driveFaultReported then s1 else (s1.raise (.rowFault .cannotDrive none)).flush

/-- ROW_FRAME_START (R128, R133, R134): the line being idle, the pending frame is composed and its start bit driven. -/
def execRowFrameStart (readsDominant : Bool) (s : State) : Host.Outcome State Fault Refusal :=
  if s.rowRead && s.row.mayStart then
    match s.composeFrame with
    | none => .next s
    | some f =>
      if readsDominant then .next (s.setRow { s.row with phase := .sending f, driveFaultReported := false })
      else .next s.failDrive
  else .next s

/-- The end of a frame that a host reset found on the line: a sighting falls due (R137). -/
def RowBus.endOfOldFrame (r : RowBus) : RowBus :=
  if r.dueAtEnd then { r with dueAtEnd := false, pending := .none }.pendSighting else r

/-- The frame in SENDING is aborted and stays pending, and the controller receives what is on the line (R128, R129). An aborted
WITHDRAW that a host reset found on the line is dropped (R137). -/
def RowBus.abort (r : RowBus) : RowBus :=
  { r with phase := .waiting, receiving := true, changeWanted := r.changeWanted || r.wantedNext, wantedNext := false }.endOfOldFrame

/-- LOST_ARBITRATION (R128). -/
def execLostArbitration (s : State) : Host.Outcome State Fault Refusal :=
  if s.row.isSending then .next (s.setRow s.row.abort) else .next s

/-- BIT_ERROR (R129). -/
def execBitError (s : State) : Host.Outcome State Fault Refusal :=
  if s.row.isSending then .next (s.setRow s.row.abort) else .next s

/-- A sighting sent whole (R128, R136); the change wanted during it stands (R135). -/
def RowBus.sightingSent (now : Time) (cfg : Config.Settings) (entries : List SwitchEntry) (r : RowBus) : RowBus :=
  { r with
    phase := .waiting
    pending := if r.pending = .withdraw then .withdraw else .none
    lastSent := some now
    lastCounts := sightingCounts entries
    changeWanted := r.wantedNext
    wantedNext := false
    changeEarliest := some (now + ms (sightingSpacing cfg))
    periodicDue := some (now + ms (sightingPeriod cfg)) }

/-- ROW_FRAME_SENT_WHOLE (R128, R136, R137). -/
def execRowFrameSentWhole (s : State) : Host.Outcome State Fault Refusal :=
  match s.row.phase with
  | .sending (.sighting _ _ entries) => .next (s.setRow (s.row.sightingSent s.timeBase s.config entries).endOfOldFrame)
  | .sending (.withdraw _) => .next (s.setRow { s.row with phase := .waiting, pending := .none }.endOfOldFrame)
  | _ => .next s

/-! ## Receiving (R131, R139, R140, R146) -/

/-- The frame on the line has ended, and the controller receives nothing. -/
def State.endReceive (s : State) : State := s.setRow { s.row with receiving := false }

/-- A good frame of this station's own ID (R131). -/
def State.conflict (s : State) : State :=
  let due := match s.row.lastConflict with
    | none => true
    | some last => decide (sightingPeriod s.config * 1000 < (elapsed s.timeBase last).toNat)
  if due then
    ((s.setRow { s.row with lastConflict := some s.timeBase }).raise (.rowFault .idConflict (some s.station.id))).flush
  else s

/-- The switches that a peer's entry lists; none where it has no entry. -/
def State.listedBy (s : State) (i : StationId) : List Nat := match s.peer i with
  | some e => e.switches.map (·.switch)
  | none => []

/-- The entry of a station is replaced or removed, and the verdicts of the switches listed before or after are recomputed in order
(R139, R140, R146). -/
def State.replacePeer (s : State) (i : StationId) (e : Option PeerEntry) : State :=
  let before := s.listedBy i
  let s1 := s.setPeer i e
  (s1.recomputeThose (fun sw => before.contains sw || (s1.listedBy i).contains sw)).flush

/-- The controller receives: the station has left LOADING and sends no frame of its own (R126, R131). -/
def State.rowReceives (s : State) : Bool := s.rowRead && !s.row.isSending

/-- SIGHTING_RECEIVED (R131, R139, R146, R170). A frame that fails the content checks is discarded. -/
def execSightingReceived (sender : StationId) (state : StationState) (entries : List SwitchEntry) (s : State) :
    Host.Outcome State Fault Refusal :=
  if s.rowReceives then
    if !sightingWf state entries then .next s.endReceive
    else if sender = s.station.id then .next s.endReceive.conflict
    else .next (s.endReceive.replacePeer sender (some ⟨state, s.timeBase, entries⟩))
  else .next s

/-- WITHDRAW_RECEIVED (R131, R140). -/
def execWithdrawReceived (sender : StationId) (s : State) : Host.Outcome State Fault Refusal :=
  if s.rowReceives then
    if sender = s.station.id then .next s.endReceive.conflict
    else .next (s.endReceive.replacePeer sender none)
  else .next s

/-- FRAME_BROKEN_OFF (R130, R170): what has been received is discarded, and the line is idle. A frame received whole that fails a check
ends so too (log 25). -/
def execFrameBrokenOff (s : State) : Host.Outcome State Fault Refusal := .next s.endReceive

/-! ## Faults on the line (R132, R133) -/

/-- LINE_HELD_LOW (R132): a frame being received is discarded, and one being sent is aborted. -/
def execLineHeldLow (s : State) : Host.Outcome State Fault Refusal :=
  if s.rowRead && s.row.lineFault == .normal then
    let r := if s.row.isSending then s.row.abort else s.row
    .next ((s.setRow { r with lineFault := .heldLow, receiving := false }).raise (.rowFault .lineHeldLow none)).flush
  else .next s

/-- CLEARED (R132). -/
def execCleared (s : State) : Host.Outcome State Fault Refusal :=
  if s.rowRead && s.row.lineFault == .heldLow then
    .next ((s.setRow { s.row with lineFault := .normal, receiving := false }).raise (.rowFault .cleared none)).flush
  else .next s

/-- DRIVE_RETRY_EXPIRY (R133). -/
def execDriveRetryExpiry (s : State) : Host.Outcome State Fault Refusal :=
  if s.row.phase == .driveRetry && expired s.timeBase s.row.retryAt then
    .next (s.setRow { s.row with phase := .waiting, retryAt := none })
  else .next s

/-! ## Sightings falling due (R135) -/

/-- PERIODIC_SIGHTING_DUE (R135). -/
def execPeriodicSightingDue (s : State) : Host.Outcome State Fault Refusal :=
  if expired s.timeBase s.row.periodicDue then .next (s.setRow s.row.pendSighting) else .next s

/-- CHANGE_SIGHTING_DUE (R135). -/
def execChangeSightingDue (s : State) : Host.Outcome State Fault Refusal :=
  if s.row.changeDue s.timeBase then .next (s.setRow s.row.pendSighting) else .next s

/-! ## Peer views (R141, R145, R147) -/

/-- PEER_ENTRY_STALE (R141): the verdicts of the switches the entry lists are recomputed without it; where it is past the expiry
threshold as well, it is removed in the same step. -/
def execPeerEntryStale (i : StationId) (s : State) : Host.Outcome State Fault Refusal :=
  match s.peer i with
  | none => .next s
  | some e => if s.fresh e then .next s else .next (s.replacePeer i (if s.pastExpiry e then none else some e))

/-- PEER_ENTRY_EXPIRED (R141). -/
def execPeerEntryExpired (i : StationId) (s : State) : Host.Outcome State Fault Refusal :=
  match s.peer i with
  | none => .next s
  | some e => if s.pastExpiry e then .next (s.replacePeer i none) else .next s

/-- CLEAR_HOLD_EXPIRY (R145, R148). -/
def execClearHoldExpiry (sw : Nat) (s : State) : Host.Outcome State Fault Refusal :=
  if expired s.timeBase (s.verdict sw).clearEnds then .next (s.clearVerdict sw).flush else .next s

/-- STAGGER_EXPIRY (R147). -/
def execStaggerExpiry (sw : Nat) (s : State) : Host.Outcome State Fault Refusal :=
  if (s.verdict sw).verdict == .failing && expired s.timeBase (s.verdict sw).staggerEnds then .next (s.expireStagger sw).flush
  else .next s

end Sys2Proof.Machine
end

