-- ==== Sys2Proof/Machine/Dispatch.lean ====
section
/-! DEFINITION. The meaning of each command, one arm for each row of the opcode table. -/

namespace Sys2Proof.Machine

open Sys2Proof

def exec (i : Instr) (s : State) : Host.Outcome State Fault Refusal :=
  match i with
  | .powerOn straps pinAsserted => Sys2Proof.Machine.execPowerOn straps pinAsserted s
  | .resetPinAsserted => Sys2Proof.Machine.execResetPinAsserted s
  | .resetPinReleased straps => Sys2Proof.Machine.execResetPinReleased straps s
  | .eepromLoadComplete image hostSequence => Sys2Proof.Machine.execEepromLoadComplete image hostSequence s
  | .eepromReadTimeout hostSequence => Sys2Proof.Machine.execEepromReadTimeout hostSequence s
  | .hostRequestArrival frame => Sys2Proof.Machine.execHostRequestArrival frame s
  | .hostCreditArrival frame => Sys2Proof.Machine.execHostCreditArrival frame s
  | .hostLinkResetSequence => Sys2Proof.Machine.execHostLinkResetSequence s
  | .admission => Sys2Proof.Machine.execAdmission s
  | .sendCreditReturn => Sys2Proof.Machine.execSendCreditReturn s
  | .sendControlReply => Sys2Proof.Machine.execSendControlReply s
  | .sendNotice => Sys2Proof.Machine.execSendNotice s
  | .sendResult => Sys2Proof.Machine.execSendResult s
  | .configure => Sys2Proof.Machine.execConfigure s
  | .enable => Sys2Proof.Machine.execEnable s
  | .withdraw => Sys2Proof.Machine.execWithdraw s
  | .status => Sys2Proof.Machine.execStatus s
  | .readConfig => Sys2Proof.Machine.execReadConfig s
  | .readExchange => Sys2Proof.Machine.execReadExchange s
  | .readPort => Sys2Proof.Machine.execReadPort s
  | .readRoute => Sys2Proof.Machine.execReadRoute s
  | .readPeer => Sys2Proof.Machine.execReadPeer s
  | .readVerdict => Sys2Proof.Machine.execReadVerdict s
  | .lookup => Sys2Proof.Machine.execLookup s
  | .pin => Sys2Proof.Machine.execPin s
  | .flush => Sys2Proof.Machine.execFlush s
  | .portOffGraceful => Sys2Proof.Machine.execPortOffGraceful s
  | .portOffImmediate => Sys2Proof.Machine.execPortOffImmediate s
  | .portOn => Sys2Proof.Machine.execPortOn s
  | .resetPort => Sys2Proof.Machine.execResetPort s
  | .endExchange => Sys2Proof.Machine.execEnd s
  | .cancel => Sys2Proof.Machine.execCancel s
  | .hostReset => Sys2Proof.Machine.execHostReset s
  | .unknownRequest => Sys2Proof.Machine.execUnknownRequest s
  | .sendExchange p => Sys2Proof.Machine.execSendExchange p s
  | .answerArrival p tag attempt payload => Sys2Proof.Machine.execAnswerArrival p tag attempt payload s
  | .answerWaitExpiry slot => Sys2Proof.Machine.execAnswerWaitExpiry slot s
  | .holdExpiry slot => Sys2Proof.Machine.execHoldExpiry slot s
  | .traceTransmission p => Sys2Proof.Machine.execTraceTransmission p s
  | .traceReplyArrival p tag attempt finding payload => Sys2Proof.Machine.execTraceReplyArrival p tag attempt finding payload s
  | .traceWaitExpiry slot => Sys2Proof.Machine.execTraceWaitExpiry slot s
  | .signalArriving p => Sys2Proof.Machine.execSignalArriving p s
  | .signalLost p => Sys2Proof.Machine.execSignalLost p s
  | .trainingWaitExpiry p => Sys2Proof.Machine.execTrainingWaitExpiry p s
  | .linkOffer p identity grant reachList => Sys2Proof.Machine.execLinkOffer p identity grant reachList s
  | .fabricCreditArrival p count => Sys2Proof.Machine.execFabricCreditArrival p count s
  | .reach p reachList => Sys2Proof.Machine.execReach p reachList s
  | .idleTick p => Sys2Proof.Machine.execIdleTick p s
  | .damagedFrame p => Sys2Proof.Machine.execDamagedFrame p s
  | .linkSilenceExpiry p => Sys2Proof.Machine.execLinkSilenceExpiry p s
  | .portResetHoldExpiry p => Sys2Proof.Machine.execPortResetHoldExpiry p s
  | .probeDue target p => Sys2Proof.Machine.execProbeDue target p s
  | .probeSend p => Sys2Proof.Machine.execProbeSend p s
  | .echo p target number => Sys2Proof.Machine.execEcho p target number s
  | .probeWaitExpiry target p => Sys2Proof.Machine.execProbeWaitExpiry target p s
  | .workItemTakenUp => Sys2Proof.Machine.execWorkItemTakenUp s
  | .walkStep => Sys2Proof.Machine.execWalkStep s
  | .entriesStep => Sys2Proof.Machine.execEntriesStep s
  | .pairPhaseStep => Sys2Proof.Machine.execPairPhaseStep s
  | .heldPhaseStep => Sys2Proof.Machine.execHeldPhaseStep s
  | .rowFrameStart readsDominant => Sys2Proof.Machine.execRowFrameStart readsDominant s
  | .lostArbitration => Sys2Proof.Machine.execLostArbitration s
  | .bitError => Sys2Proof.Machine.execBitError s
  | .rowFrameSentWhole => Sys2Proof.Machine.execRowFrameSentWhole s
  | .sightingReceived sender state entries => Sys2Proof.Machine.execSightingReceived sender state entries s
  | .withdrawReceived sender => Sys2Proof.Machine.execWithdrawReceived sender s
  | .frameBrokenOff => Sys2Proof.Machine.execFrameBrokenOff s
  | .lineHeldLow => Sys2Proof.Machine.execLineHeldLow s
  | .cleared => Sys2Proof.Machine.execCleared s
  | .driveRetryExpiry => Sys2Proof.Machine.execDriveRetryExpiry s
  | .periodicSightingDue => Sys2Proof.Machine.execPeriodicSightingDue s
  | .changeSightingDue => Sys2Proof.Machine.execChangeSightingDue s
  | .peerEntryStale station => Sys2Proof.Machine.execPeerEntryStale station s
  | .peerEntryExpired station => Sys2Proof.Machine.execPeerEntryExpired station s
  | .clearHoldExpiry switch => Sys2Proof.Machine.execClearHoldExpiry switch s
  | .staggerExpiry switch => Sys2Proof.Machine.execStaggerExpiry switch s

end Sys2Proof.Machine
end

