-- ==== Sys2Proof/Machine/Step.lean ====
section
/-! DEFINITION. One step of the machine: the command at the front of the queue, or, with none waiting, one microsecond of the Time
Base. -/

namespace Sys2Proof.Machine

open Sys2Proof

/-- One microsecond with no command waiting: the Time Base counts on, modulo 2^48, unless the RESET pin is asserted, which holds it
at 0 (R160, R161). DESIGN CHOICE (log 1): the tick is the step on an empty queue. -/
def State.tick (s : State) : State := if s.station.pinAsserted then s else { s with timeBase := s.timeBase + 1 }

/-- The step: the command at the front of the queue acts with the rest of the queue behind it, and on an empty queue the Time Base
ticks. -/
def step (s : State) : Host.Outcome State Fault Refusal :=
  match s.pending with
  | c :: rest => exec c { s with pending := rest }
  | [] => .next s.tick

/-- The state with the command that a word spells put at the front of the queue; no word of the opcode table's bits spells one. -/
def State.withFetchWord (s : State) (nbits w : Nat) : State :=
  match decodeTableWord nbits w with
  | some c => { s with pending := c :: s.pending }
  | none => s

end Sys2Proof.Machine
end

