-- ==== Sys2Proof/Machine/ReplyWire.lean ====
section
/-! DEFINITION. The bytes of the frames from the part to the host (Table 12-1), with the encodings of Table 12-6: each value in the
fewest whole bytes that hold its range, durations in 6 bytes, and an absent field with all its bits set. Where chapter 12 leaves a
form open, log 15 (order and widths) and log 26 (the form of single fields) say which is taken. -/

namespace Sys2Proof.Machine

open Sys2Proof

/-! ## Codes of named values (Table 12-6) -/

def ResultStatus.code : ResultStatus → Nat
  | .completed => 1
  | .timedOut => 2
  | .inDoubt => 3
  | .noPath => 4
  | .noRoute => 5
  | .cancelled => 6
  | .withdrawn => 7
  | .refused _ => 8

def Reason.code : Reason → Nat
  | .tooLong => 1
  | .badClass => 2
  | .badTarget => 3

/-- The reason byte: 0 unless REFUSED (Table 12-1). -/
def ResultStatus.reasonCode : ResultStatus → Nat
  | .refused r => r.code
  | _ => 0

def ReplyStatus.code : ReplyStatus → Nat
  | .done => 0
  | .locked => 1
  | .wrongState => 2
  | .badIndex => 3
  | .notFound => 4
  | .unsafeToEnd => 5
  | .pinned => 6
  | .notGood => 7
  | .unknownRequest => 8

def RowFaultKind.code : RowFaultKind → Nat
  | .lineHeldLow => 1
  | .cleared => 2
  | .cannotDrive => 3
  | .idConflict => 4

def PortCause.code : PortCause → Nat
  | .detected => 1
  | .trained => 2
  | .trainingExpired => 3
  | .signalLost => 4
  | .silence => 5
  | .integrity => 6
  | .switchRestart => 7
  | .resetRequested => 8
  | .holdExpired => 9
  | .quiesceRequested => 10
  | .drained => 11
  | .offRequested => 12
  | .onRequested => 13

def CellCause.code : CellCause → Nat
  | .misses => 1
  | .recovered => 2
  | .dropped => 3

/-- The code of a station state in replies and notices. -/
def stationCode : StationState → Nat
  | .loading => 0
  | .standby => 1
  | .active => 2
  | .withdrawn => 3

def Action.code : Action → Nat
  | .firstSend => 1
  | .resend => 2
  | .trace => 3

def PortState.code : PortState → Nat
  | .off => 0
  | .down => 1
  | .training => 2
  | .up => 3
  | .quiescing => 4
  | .reset => 5

def CellState.code : CellState → Nat
  | .absent => 0
  | .untested => 1
  | .good => 2
  | .lost => 3

def Verdict.code : Verdict → Nat
  | .sound => 0
  | .suspect => 1
  | .failing => 2

def LoadOutcome.code : LoadOutcome → Nat
  | .loaded => 0
  | .loadedClamped => 1
  | .eepromAbsent => 2
  | .imageBad => 3
  | .imageForeign => 4

/-- The reset-kind record: the sum of 1 for POWER, 2 for RESET PIN and 4 for HOST. -/
def ResetKind.code (k : ResetKind) : Nat := k.power.toNat + 2 * k.pin.toNat + 4 * k.host.toNat

/-! ## Values as bytes -/

/-- A value of n bytes that may be absent: all bits set where it is. -/
def absentOr (n : Nat) (v : Option Nat) : List Byte := bytesOf n (v.getD (256 ^ n - 1))

/-- A value of one byte. -/
def one (v : Nat) : List Byte := bytesOf 1 v

/-- A duration or a Time Base value, in 6 bytes, or one that is absent or not running. -/
def timeBytes (t : Option Time) : List Byte := absentOr 6 (t.map (·.toNat))

/-- A list of varying length, preceded by a one-byte count. -/
def counted {α : Type} (f : α → List Byte) (l : List α) : List Byte := one l.length ++ l.flatMap f

/-- A configuration item in the fewest whole bytes that hold its range (Table 11-2). -/
def itemBytes (r : Config.ItemRange) (v : Nat) : List Byte := bytesOf (if r.high < 256 then 1 else 2) v

/-- The items of a READ CONFIG reply. -/
def itemsBytes (items : List Nat) : List Byte := (List.zipWith itemBytes Config.itemTable.toList items).flatten

/-! ## Contents of the replies (Table 10-2) -/

def StatusReport.bytes (r : StatusReport) : List Byte :=
  one (stationCode r.state) ++ one r.id.val ++ one r.resetKind.code ++ absentOr 1 (r.outcome.map (·.code)) ++ one r.locked.toNat
    ++ timeBytes (some r.time) ++ bytesOf 2 r.free ++ bytesOf 2 r.waiting ++ bytesOf 2 r.sent ++ bytesOf 2 r.tracing
    ++ bytesOf 2 r.held ++ bytesOf 2 r.answered ++ r.ports.flatMap (fun st => one st.code) ++ bytesOf 2 r.workLength
    ++ one r.dropped.toNat ++ one r.ingressLength ++ one r.credits

/-- The fields of a record that is not FREE, in the order of Table 1-1, each absent where the record has none (R159). DESIGN CHOICE
(log 26): the result status and its reason are a byte each. In an ANSWERED record whose status is not REFUSED the reason byte is 0, as
in a RESULT (Table 12-1), and in every other state both are all ones. -/
def liveBytes (r : Option LiveReport) : List Byte :=
  absentOr 1 (r.map (·.cls.toNat)) ++ absentOr 4 (r.map (·.session.toNat)) ++ absentOr 1 (r.map (·.target))
    ++ absentOr 4 (r.map (·.hostRef.toNat)) ++ absentOr 1 (r.bind (fun x => x.port.map (·.val))) ++ absentOr 1 (r.map (·.attempt))
    ++ absentOr 1 (r.map (·.traces)) ++ absentOr 1 (r.map (·.everSent.toNat)) ++ absentOr 1 (r.bind (fun x => x.action.map (·.code)))
    ++ timeBytes (r.bind (·.remaining)) ++ timeBytes (r.bind (·.enteredAt))
    ++ absentOr 1 (r.bind (fun x => x.status.map (·.code))) ++ absentOr 1 (r.bind (fun x => x.status.map (·.reasonCode)))
    ++ absentOr 2 (r.map (·.payloadLength))

/-- READ EXCHANGE (R159). DESIGN CHOICE (log 26): a FREE slot, reported with its generation and tag alone, has its state code and the
absent fields as well, all ones. -/
def ExchangeReport.bytes (r : ExchangeReport) : List Byte :=
  bytesOf 2 r.slot.val ++ one r.generation.val ++ bytesOf 2 r.tag.toNat ++ one r.stateCode ++ liveBytes r.live

/-- READ PORT (R75). DESIGN CHOICE (log 26): R75 does not say whether the time remaining "on whichever of its timers is running" is one
field or one for each timer. The model sends three times of 6 bytes, TRAINING WAIT, LINK SILENCE and PORT RESET HOLD, all ones where not
running. The reachability list is a count and a byte for each target. -/
def PortReport.bytes (r : PortReport) : List Byte :=
  one r.state.code ++ absentOr 1 r.identity ++ one r.credits ++ one r.retryBar.toNat ++ counted one r.reach ++ one r.pendingProbes
    ++ bytesOf 2 r.pendingTraces ++ bytesOf 2 r.outstanding ++ bytesOf 2 r.ready ++ timeBytes r.trainingLeft
    ++ timeBytes r.silenceLeft ++ timeBytes r.holdLeft

/-- READ ROUTE (R91). DESIGN CHOICE (log 26): a probe in flight and a probe pending are two bytes. -/
def RouteReport.bytes (r : RouteReport) : List Byte :=
  one r.state.code ++ one r.step ++ one r.misses ++ one r.quiet ++ one r.recovery ++ one r.inFlight.toNat ++ one r.pending.toNat
    ++ timeBytes r.sinceSend ++ timeBytes r.latency ++ timeBytes r.untilDue

/-- One switch of a peer's list: identity, cables, lost and load. -/
def switchBytes (e : SwitchEntry) : List Byte := one e.switch ++ one e.cables ++ one e.lost ++ bytesOf 2 e.load

/-- One switch of this station's own counts: no load. -/
def ownBytes (x : Nat × CableCount) : List Byte := one x.1 ++ one x.2.cables ++ one x.2.lost ++ absentOr 2 none

/-- READ PEER (R151). DESIGN CHOICE (log 26): R151 gives the mark "own" no place and no width. The model opens every reply with a byte that
is 1 for this station's own ID and 0 for a peer or an absent entry, and gives the three replies the same fields: time, age, fresh and
load are sent absent, all ones, in the own reply, and an absent entry has all of them absent and an empty switch list.
DESIGN CHOICE (log 26): Table 12-6 has no code for fresh or stale. The model sends 1 for fresh and 0 for stale. -/
def PeerReport.bytes : PeerReport → List Byte
  | .absent => one 0 ++ absentOr 1 none ++ timeBytes none ++ timeBytes none ++ absentOr 1 none ++ one 0
  | .own state counts => one 1 ++ one (stationCode state) ++ timeBytes none ++ timeBytes none ++ absentOr 1 none ++ counted ownBytes counts
  | .peer e age fresh =>
    one 0 ++ one (stationCode e.state) ++ timeBytes (some e.time) ++ timeBytes (some age) ++ one fresh.toNat
      ++ counted switchBytes e.switches

/-- READ VERDICT (R151). DESIGN CHOICE (log 26): the clear timer and the stagger timer are two times of 6 bytes, all ones where not
running. -/
def VerdictReport.bytes (r : VerdictReport) : List Byte :=
  one r.verdict.code ++ one r.applied.code ++ one r.c ++ one r.d ++ bytesOf 2 r.l ++ one r.n ++ one r.cables ++ one r.lost
    ++ timeBytes r.clearLeft ++ timeBytes r.staggerLeft

/-- LOOKUP (R39). DESIGN CHOICE (log 26): hit or miss is a first byte, 1 or 0, and the three pointers are a byte each. -/
def LookupReport.bytes (r : LookupReport) : List Byte :=
  one r.hit.isSome.toNat ++ one r.set.val ++ one r.root.toNat ++ one r.left.toNat ++ one r.right.toNat
    ++ absentOr 1 (r.hit.map (·.way.val)) ++ absentOr 1 (r.hit.bind (fun x => x.port.map (·.val))) ++ absentOr 2 (r.hit.map (·.count))
    ++ absentOr 1 (r.hit.map (·.quiesceMark.toNat)) ++ absentOr 1 (r.hit.bind (·.verdictMark))

/-- The contents of a reply (R157, Table 12-1). DESIGN CHOICE (log 26): each clamped item is its number in one byte and its value in two. -/
def ReplyBody.bytes : ReplyBody → List Byte
  | .none => []
  | .clamped items => counted (fun x => one x.1 ++ bytesOf 2 x.2) items
  | .status r => r.bytes
  | .config items outcome locked => itemsBytes items ++ absentOr 1 (outcome.map (·.code)) ++ one locked.toNat
  | .exchange r => r.bytes
  | .port r => r.bytes
  | .route r => r.bytes
  | .peer r => r.bytes
  | .verdict r => r.bytes
  | .lookup r => r.bytes
  | .pinned way p => one way.val ++ one p.val
  | .flushed remaining => bytesOf 2 remaining

/-! ## Contents of the notices (Table 10-1) -/

def NoticeBody.code : NoticeBody → Nat
  | .started _ _ _ => 1
  | .portChange _ _ _ _ _ => 2
  | .cellChange _ _ _ _ _ _ _ => 3
  | .verdictChange _ _ _ _ _ _ _ => 4
  | .rowFault _ _ => 5
  | .linkOverrun _ => 6

/-- The contents of Table 10-1. DESIGN CHOICE (log 26): a ROW FAULT other than ID CONFLICT carries no byte for an ID. -/
def NoticeBody.bytes : NoticeBody → List Byte
  | .started station kind outcome => one station.val ++ one kind.code ++ absentOr 1 (outcome.map (·.code))
  | .portChange port left entered identity cause =>
    one port.val ++ one left.code ++ one entered.code ++ absentOr 1 identity ++ one cause.code
  | .cellChange target port left entered cause step misses =>
    one target ++ one port.val ++ one left.code ++ one entered.code ++ one cause.code ++ one step ++ one misses
  | .verdictChange switch before after applied c d marks =>
    one switch ++ one before.code ++ one after.code ++ one applied.code ++ one c ++ one d ++ bytesOf 2 marks
  | .rowFault kind station => one kind.code ++ (match station with
    | some i => one i.val
    | none => [])
  | .linkOverrun control => one (if control then 2 else 1)

/-! ## The frames (Table 12-1) -/

/-- A frame to the host before its check sequence. -/
def HostBound.bytes : HostBound → List Byte
  | .result r =>
    3#8 :: (bytesOf 4 r.hostRef.toNat ++ bytesOf 4 r.session.toNat ++ one r.target ++ one r.status.code ++ one r.status.reasonCode
      ++ one r.attempt ++ bytesOf 2 r.payload.length ++ r.payload)
  | .reply r => 4#8 :: r.code :: (one r.status.code ++ bytesOf 2 r.body.bytes.length ++ r.body.bytes)
  | .notice n earlierDropped =>
    5#8 :: (one n.body.code ++ one earlierDropped.toNat ++ timeBytes (some n.time) ++ one n.body.bytes.length ++ n.body.bytes)
  | .credit count => 6#8 :: one count

/-- A frame to the host as it stands on the link. -/
def HostBound.onLink (f : HostBound) : List Byte := sealFrame f.bytes

end Sys2Proof.Machine
end

