-- ==== Sys2Proof/Safety.lean ====
section
/-! DEFINITION. What the spec says holds of the part at all times, as invariants of the state, and which frames are well formed on
each line. -/

namespace Sys2Proof.Machine

open Sys2Proof

/-! ## Bounds -/

/-- Every configuration item lies in its range, and QUIET LATENCY is at most SLOW LATENCY (Table 11-2, R163). -/
def configInRange (cfg : Config.Settings) : Prop := clampAll cfg = cfg

/-- The bounds of the host link's queues and counts (R152 to R156), with no notice left between steps, and when a credit return is due
(R153): with the count at CREDIT BATCH, or at 1 or more beside an empty ingress queue, and never with the count at 0. -/
structure State.LinkBounded (s : State) : Prop where
  ingress : s.link.ingress.length ≤ 32
  freed : s.link.freed ≤ 32
  credits : s.link.credits ≤ 64
  replies : s.link.replies.length ≤ 8
  notices : s.link.notices.length ≤ 16
  raised : s.raised = []
  counted : s.link.returnDue = true → 1 ≤ s.link.freed
  batch : creditBatch s.config ≤ s.link.freed → s.link.returnDue = true
  emptied : s.link.ingress = [] → 1 ≤ s.link.freed → s.link.returnDue = true
  loading : s.station.state = .loading → s.link.freed = 0

/-- What holds of every port record: credits (R68), the identity (R61, R62), the history (R66), the bar (R60), the timers each in its
state alone (R61, R65, R70), and nothing pending outside UP and QUIESCING (R67). -/
structure Port.Sound (x : Port) : Prop where
  credits : x.credits ≤ 64
  noCredit : x.state.linked = false → x.credits = 0
  identity : x.identity.all isSwitch = true
  linkedIdentity : x.state.linked = true → x.identity.isSome = true
  history : x.history.length ≤ 7
  bar : x.retryBar = true → x.state = .down
  training : x.trainingEnds.isSome = (x.state == .training)
  silence : x.silenceEnds.isSome = x.state.linked
  hold : x.holdEnds.isSome = (x.state == .reset)
  noProbe : x.state.linked = false → x.pendingProbes = []
  noTrace : x.state.linked = false → x.pendingTraces = []

/-- What holds of every cell: the step (R82), the quiet streak and the miss count (Table 5-1). -/
structure Cell.Sound (missLimit : Nat) (x : Cell) : Prop where
  step : x.step ≤ 3
  quiet : x.quiet ≤ 7
  misses : x.misses ≤ missLimit
  once : x.inFlight.isSome = true → x.pending = false

/-- The cells of the route map and the lists of the ports agree: a cell is other than ABSENT exactly where its port's reachability
list holds its target (R63, R78), it is pending exactly where it stands on its port's pending probes, and it stands there once
(R81); and only a monitored cell has a probe pending or in flight (R79, R82). -/
structure State.RoutesAgree (s : State) : Prop where
  listed : ∀ p : PortId, (s.port p).reach = allTargets.filter (fun t => (s.cell t p).state != .absent)
  pending : ∀ p : PortId, ∀ t ∈ allTargets, (s.cell t p).pending = (s.port p).pendingProbes.contains t
  targets : ∀ p : PortId, ∀ t ∈ (s.port p).pendingProbes, t ∈ allTargets
  once : ∀ p : PortId, (s.port p).pendingProbes.Nodup
  probed : ∀ p : PortId, ∀ t ∈ allTargets, (s.cell t p).inFlight.isSome = true ∨ (s.cell t p).pending = true →
    s.monitored t p = true

/-- Ports, cells and configuration are within their bounds together; while the station is LOADING every port is DOWN and no cell has
missed (R59, R77). -/
structure State.Bounded (s : State) : Prop where
  loadingPorts : s.station.state = .loading → ∀ p : PortId, (s.port p).state = .down
  loadingCells : s.station.state = .loading → ∀ t ∈ allTargets, ∀ p : PortId, (s.cell t p).misses = 0
  config : configInRange s.config
  ports : ∀ p : PortId, (s.port p).Sound
  cells : ∀ t ∈ allTargets, ∀ p : PortId, (s.cell t p).Sound (missLimit s.config)

/-! ## The exchange table and its lists (R3, R4, R5, R7) -/

/-- The exchange is open: WAITING, SENT, TRACING or HELD (R4). -/
def Phase.isOpen : Phase → Bool
  | .answered _ => false
  | _ => true

/-- The slot holds an open exchange. -/
def State.slotOpen (s : State) (i : Slot) : Bool := (s.phase i).any (·.isOpen)

/-- The slot is ANSWERED. -/
def State.slotAnswered (s : State) (i : Slot) : Bool := (s.phase i).any (fun ph => !ph.isOpen)

/-- The port of a SENT or TRACING exchange in the slot. -/
def State.slotPort (s : State) (i : Slot) : Option PortId := (s.phase i).bind (·.port)

/-- The slot is TRACING on the port. -/
def State.tracingOn (s : State) (i : Slot) (p : PortId) : Bool :=
  match s.phase i with
  | some (.tracing q _ _) => q == p
  | _ => false

/-- The exchange table and its lists agree: the free list (R3), the pair order lists (R4), the outstanding lists (R5), the ready lists
(R6), the result queue (R7) and the pending traces (R113, R114) each hold what they should, each slot once. -/
structure State.TableAgrees (s : State) : Prop where
  free : ∀ i : Slot, i ∈ s.ex.free ↔ s.live i = none
  order : ∀ i : Slot, i ∈ s.ex.order ↔ s.slotOpen i = true
  results : ∀ i : Slot, i ∈ s.ex.results ↔ s.slotAnswered i = true
  outstanding : ∀ i : Slot, ∀ p : PortId, i ∈ s.outstanding p ↔ s.slotPort i = some p
  ready : ∀ i : Slot, ∀ p : PortId, i ∈ s.ready p ↔ s.sendable i = some p
  traces : ∀ i : Slot, ∀ p : PortId, i ∈ (s.port p).pendingTraces → s.tracingOn i p = true
  freeOnce : s.ex.free.Nodup
  orderOnce : s.ex.order.Nodup
  resultsOnce : s.ex.results.Nodup
  outstandingOnce : ∀ p : PortId, (s.outstanding p).Nodup
  readyOnce : ∀ p : PortId, (s.ready p).Nodup
  tracesOnce : ∀ p : PortId, (s.port p).pendingTraces.Nodup

/-! ## The affinity cache (R28, R33) -/

/-- The open exchanges of a pair. -/
def State.openOf (s : State) (session : Word32) (target : Nat) : List Slot :=
  (List.finRange 512).filter (fun i => s.slotOpen i && (s.live i).any (·.ofPair session target))

/-- The cache and the exchange table agree: each valid entry stands in the set its pair's index names, no two hold one pair (R28),
and its count is the number of its pair's open exchanges, each of which has an entry (R33); and the pair of a WAITING exchange is
placed (R14, R100). -/
structure State.CacheAgrees (s : State) : Prop where
  placed : ∀ pl ∈ allPlaces, ∀ e, s.entryAt pl = some e → pl.set = setIndex e.session e.target
  unique : ∀ pl ∈ allPlaces, ∀ pl' ∈ allPlaces, ∀ e e', s.entryAt pl = some e → s.entryAt pl' = some e' →
    e.holds e'.session e'.target = true → pl = pl'
  counted : ∀ pl ∈ allPlaces, ∀ e, s.entryAt pl = some e → e.count = (s.openOf e.session e.target).length
  covered : ∀ i : Slot, ∀ e, s.live i = some e → e.phase.isOpen = true → (s.entryOf e.session e.target).isSome = true
  waiting : ∀ i : Slot, ∀ e, s.live i = some e → ∀ action, e.phase = .waiting action →
    (s.pairPort e.session e.target).isSome = true

/-! ## Verdicts (R143 to R147) -/

/-- What holds of every verdict record: while SOUND no station reports a lost cable (R144), the clear timer runs only at FAILING with
no lost cable (R145), and the stagger belongs to a FAILING verdict (R147), and the peers' loads
keep to 31 peers of at most 512 each (R49). -/
structure VerdictRecord.Sound (v : VerdictRecord) : Prop where
  sound : v.verdict = .sound → v.d = 0
  clear : v.clearEnds.isSome = true → v.verdict = .failing ∧ v.d = 0
  stagger : v.staggerEnds.isSome = true → v.verdict = .failing
  expired : v.staggerExpired = true → v.verdict = .failing ∧ v.staggerEnds = none
  witnesses : v.d ≤ v.c
  suspect : v.verdict = .suspect → 1 ≤ v.d
  staggered : v.verdict = .failing → v.staggerEnds.isSome = true ∨ v.staggerExpired = true
  peers : v.n ≤ 31
  load : v.l ≤ 512 * v.n

/-- Every verdict record is sound. -/
def State.VerdictsSound (s : State) : Prop := ∀ v ∈ s.view.verdicts.toList, v.Sound

/-- The peer view table holds no entry of this station's own ID (R139), and every entry has passed the content checks (R170). -/
structure State.PeersSound (s : State) : Prop where
  notOwn : s.peer s.station.id = none
  passed : ∀ i : StationId, ∀ e, s.peer i = some e → sightingWf e.state e.switches = true

/-- This station's own counts are those of its cables as they stand (R142). -/
def State.OwnCounted (s : State) : Prop := ∀ sw ∈ allSwitches, s.ownCount sw = s.countCables sw

/-! ## Single records (chapters 1, 6, 8 and 11) -/

/-- What holds of every exchange outside FREE (T 1-1, R2, R15, 1.2): its attempt, its payload, and in each state the class, the sends
and the traces that the state allows. -/
structure Exchange.Sound (limit : Nat) (e : Exchange) : Prop where
  attempt : e.attempt ≤ 15
  everSent : e.everSent = decide (1 ≤ e.attempt)
  payload : e.payload.length ≤ 512
  request : e.phase.isOpen = true → 1 ≤ e.payload.length
  traces : e.phase.isOpen = true → e.traces ≤ limit
  sent : ∀ p d at_, e.phase = .sent p d at_ → e.everSent = true
  tracing : ∀ p d at_, e.phase = .tracing p d at_ → e.everSent = true ∧ e.repeatable = false
  firstSend : ∀ d, e.phase = .waiting .firstSend ∨ e.phase = .held .firstSend d → e.everSent = false
  resend : ∀ d, e.phase = .waiting .resend ∨ e.phase = .held .resend d → e.everSent = true
  heldTrace : ∀ d, e.phase = .held .trace d → e.everSent = true ∧ e.repeatable = false ∧ e.traces < limit
  waitingTrace : e.phase ≠ .waiting .trace

/-- Every exchange outside FREE is sound. -/
def State.ExchangesSound (s : State) : Prop := ∀ i : Slot, ∀ e, s.live i = some e → e.Sound (traceLimit s.config)

/-- The migration work list holds at most one item of a kind for one port, cell or target, no cell-loss item for a port that has a
port-loss item there, and items for cells and targets that exist (R92 to R95). -/
structure State.WorkSound (s : State) : Prop where
  once : s.failover.work.Nodup
  oncePerPort : ∀ p : PortId, (s.failover.work.filter (·.isPortLoss p)).length ≤ 1
  apart : ∀ p : PortId, ∀ horizon t, .portLoss p horizon ∈ s.failover.work → .cellLoss t p ∉ s.failover.work
  cells : ∀ t p, .cellLoss t p ∈ s.failover.work → t ∈ allTargets
  targets : ∀ t, .placement t ∈ s.failover.work → t ∈ allTargets

/-- The transmit phase fits the station and the frame pending: SILENT exactly in LOADING, with nothing pending; a retry time exactly in
DRIVE RETRY; and a frame pending while one is on the line (R127, R128, R133). -/
structure State.RowSound (s : State) : Prop where
  silent : s.row.phase = .silent ↔ s.station.state = .loading
  quiet : s.row.phase = .silent → s.row.pending = .none
  retry : s.row.retryAt.isSome = (s.row.phase == .driveRetry)
  sending : ∀ f, s.row.phase = .sending f → s.row.pending ≠ .none
  withdrawn : s.row.withdrawn = true → s.station.state = .withdrawn

/-- The station's record: the lock is set outside STANDBY, the outcome stands once the load has ended, no exchange is open before
ENABLE, and the load runs exactly in LOADING with the pin released, with its one transaction put on the I2C line (R157, R160, R162,
R166). -/
structure State.StationSound (s : State) : Prop where
  locked : s.station.state = .active ∨ s.station.state = .withdrawn → s.station.locked = true
  outcome : s.station.state ≠ .loading → s.station.outcome.isSome = true
  noOpen : s.station.state = .loading ∨ s.station.state = .standby → s.ex.order = []
  pin : s.station.pinAsserted = true → s.station.state = .loading
  load : s.station.loadBegan.isSome = (s.station.state == .loading && !s.station.pinAsserted)
  transaction : s.i2c = if s.station.pinAsserted = true then none else some eepromRead

/-- Every invariant of the part together. -/
structure State.Sound (s : State) : Prop where
  link : s.LinkBounded
  bounded : s.Bounded
  routes : s.RoutesAgree
  table : s.TableAgrees
  cache : s.CacheAgrees
  exchanges : s.ExchangesSound
  verdicts : s.VerdictsSound
  peers : s.PeersSound
  own : s.OwnCounted
  work : s.WorkSound
  row : s.RowSound
  station : s.StationSound

/-! ## Frames that are well formed on their line -/

/-- A fabric frame whose fields fit their bytes and pass the checks of R169. -/
def FabricFrame.wf : FabricFrame → Bool
  | .request _ _ _ _ _ payload => payload.length ≤ Config.payloadLimit
  | .answer _ _ payload => payload.length ≤ Config.payloadLimit
  | .trace _ target _ => targetByte target
  | .traceReply _ _ finding payload => tracePayloadWf finding payload
  | .probe target _ => targetByte target
  | .echo target _ => targetByte target
  | .linkOffer _ _ _ | .linkAccept _ | .reach _ | .credit _ | .idleTick => true

/-- A row bus frame that a station may send (R134, R136, R170). -/
def RowFrame.wf : RowFrame → Bool
  | .sighting _ state entries => sightingWf state entries
  | .withdraw _ => true

/-- A host frame whose lengths fit their fields (Table 12-1). -/
def HostFrame.wf : HostFrame → Bool
  | .booking b => b.target != 0#8 && b.payload.length < 65536
  | .control _ args => args.length < 256

/-! ## Terms of the claims -/

/-- A control request stands at the ingress head with `rest` behind it, and can be taken: the link is up, the head waits for nothing,
and the reply queue holds fewer than 8 replies (R157). -/
structure State.RequestAtHead (s : State) (code : Byte) (args : List Byte) (rest : List HostFrame) : Prop where
  up : s.station.state ≠ .loading
  free : s.link.headWait = .none
  head : s.link.ingress = .control code args :: rest
  room : s.link.replies.length < 8

/-- A booking request stands at the ingress head with `rest` behind it, and is taken up (R12). -/
structure State.BookingAtHead (s : State) (b : Booking) (rest : List HostFrame) : Prop where
  up : s.station.state ≠ .loading
  free : s.link.headWait = .none
  head : s.link.ingress = .booking b :: rest

/-- The host link once the head has left the ingress queue: its credit is freed, and a return falls due where the count reaches CREDIT
BATCH or the queue is left empty (R152, R153). -/
def State.poppedLink (s : State) (rest : List HostFrame) : HostLink :=
  let n := min (s.link.freed + 1) 32
  { s.link with
    ingress := rest
    headWait := .none
    freed := n
    returnDue := s.link.returnDue || decide (creditBatch s.config ≤ n) || rest.isEmpty }

/-- The host link once the control request at the head has been taken and answered (R157). -/
def State.answeredLink (s : State) (rest : List HostFrame) (r : Reply) : HostLink :=
  { s.poppedLink rest with replies := s.link.replies ++ [r] }

/-- A host-bound frame other than a CREDIT may start (R154, R155). -/
structure HostLink.Ready (l : HostLink) : Prop where
  noReturn : ¬ (l.returnDue = true ∧ 1 ≤ l.freed)
  credit : 1 ≤ l.credits

/-- The command that takes a control request (Table 10-2). -/
def commandOf (code : Byte) (args : List Byte) : Instr :=
  match code.toNat with
  | 1 => .configure
  | 2 => .enable
  | 3 => .withdraw
  | 4 => .status
  | 5 => .readConfig
  | 6 => .readExchange
  | 7 => .readPort
  | 8 => .readRoute
  | 9 => .readPeer
  | 10 => .readVerdict
  | 11 => .lookup
  | 12 => .pin
  | 13 => .flush
  | 14 => if modeImmediate args then .portOffImmediate else .portOffGraceful
  | 15 => .portOn
  | 16 => .resetPort
  | 17 => .endExchange
  | 18 => .cancel
  | 19 => .hostReset
  | _ => .unknownRequest

/-- The arguments of a request have the length and the ranges of Table 12-2 and Table 10-2 (R168). -/
def argsReadable (code : Byte) (args : List Byte) : Bool :=
  match code.toNat with
  | 1 => (argsConfigure args).isSome
  | 6 => (argsSlot args).isSome
  | 7 | 15 | 16 => (argsPort args).isSome
  | 8 => (argsCell args).isSome
  | 9 => (argsStation args).isSome
  | 10 => (argsSwitch args).isSome
  | 11 => (argsPair args).isSome
  | 12 => (argsPin args).isSome
  | 14 => (argsPortOff args).isSome
  | 17 | 18 => (argsHostRef args).isSome
  | _ => args.isEmpty

/-- The notice is queued by the step, ahead of any other that the step queues, or dropped with its mark where 16 stand in the queue
(R156). -/
def State.notifies (s t : State) (b : NoticeBody) : Prop :=
  if s.link.notices.length < 16 then ∃ more, t.link.notices = s.link.notices ++ ⟨s.timeBase, b⟩ :: more
  else t.link.notices = s.link.notices ∧ t.link.dropped = true

/-- The exchange table and every list but the ready lists are the same in two states. -/
structure State.sameTable (s t : State) : Prop where
  slots : t.ex.slots = s.ex.slots
  free : t.ex.free = s.ex.free
  order : t.ex.order = s.ex.order
  results : t.ex.results = s.ex.results
  outstanding : t.ex.outstanding = s.ex.outstanding

/-- Every port but one is the same in two states. -/
def State.otherPorts (s t : State) (p : PortId) : Prop := ∀ q, q ≠ p → t.port q = s.port q

/-- Every entry is the same in two states but for its verdict mark, which a changed verdict may set (R36). -/
def State.samePlacements (s t : State) : Prop :=
  ∀ pl, (t.entryAt pl).map (fun e => { e with verdictMark := none }) = (s.entryAt pl).map (fun e => { e with verdictMark := none })

/-- The exchange is HELD with an action and a full HOLD LIMIT (R21). -/
def State.heldNow (s : State) (action : Action) : Phase := .held action (s.timeBase + ms (holdLimit s.config))

/-- View and row bus in t are those that the report of a changed cable leaves, made in s with the ports and cells of t (R75, R90, R135,
R142). -/
def State.reportedBy (s t : State) : Prop :=
  let u := ({ s with ports := t.ports, routes := t.routes } : State).reportCables
  t.view = u.view ∧ t.row = u.row

/-- The Route Monitor reports for port p exactly where the port is UP and whether all its cells other than ABSENT are LOST has changed
between the two states (R90). -/
def State.lostnessReported (s t : State) (p : PortId) : Prop :=
  if (s.port p).state = .up ∧ t.allCellsLost p ≠ s.allCellsLost p then s.reportedBy t else t.view = s.view ∧ t.row = s.row

/-- Between two states each trace pending on port p has been handed back (R67, R122): the count one lower, and then IN DOUBT at TRACE
LIMIT; else its next trace pending on another port that is eligible, or HELD for a trace where there is none. -/
def State.HandedBack (s t : State) (p : PortId) : Prop :=
  ∀ i ∈ (s.port p).pendingTraces, ∀ e, s.live i = some e →
    let becomes := fun (x : Exchange) => t.record i = ⟨(s.record i).generation, some x⟩
    let traces := e.traces - 1
    if traceLimit s.config ≤ traces then
      becomes { e with traces := traces, phase := .answered .inDoubt, payload := [] } ∧ i ∈ t.ex.results ∧ ∀ q, i ∉ t.outstanding q
    else if ∃ q, q ≠ p ∧ s.eligible e.target q = true then
      ∃ q, q ≠ p ∧ s.eligible e.target q = true ∧
        becomes { e with traces := traces + 1, phase := .tracing q (s.timeBase + ms (traceWait s.config)) s.timeBase } ∧
        ∀ r, (i ∈ t.outstanding r ↔ r = q) ∧ (i ∈ (t.port r).pendingTraces ↔ r = q)
    else becomes { e with traces := traces, phase := s.heldNow .trace } ∧ ∀ q, i ∉ t.outstanding q

/-- Between two states port p has lost its link (R67): its credits, silence timer and pending lists are gone, its listed cells are LOST
and the others stand (R79), a port-loss item for it stands on the work list, the traces pending on it are handed back (each listed
once), the changed cable is reported (R75), and the other exchanges stand where they stood. -/
structure State.LinkLost (s t : State) (p : PortId) : Prop where
  credits : (t.port p).credits = 0
  silence : (t.port p).silenceEnds = none
  probes : (t.port p).pendingProbes = []
  traces : (t.port p).pendingTraces = []
  kept : (t.port p).identity = (s.port p).identity ∧ (t.port p).reach = (s.port p).reach
  others : ∀ q, q ≠ p → t.port q = { s.port q with pendingTraces := (t.port q).pendingTraces }
  cells : ∀ x ∈ allTargets, t.cell x p = if x ∈ (s.port p).reach then
      { s.cell x p with state := .lost, inFlight := none, pending := false, recovery := 0, quiet := 0 } else s.cell x p
  otherCells : ∀ x q, q ≠ p → t.cell x q = s.cell x q
  exchanges : ∀ i, i ∉ (s.port p).pendingTraces →
    t.record i = s.record i ∧ (i ∈ t.outstanding p ↔ i ∈ s.outstanding p) ∧ (i ∈ t.ex.order ↔ i ∈ s.ex.order)
  handed : (s.port p).pendingTraces.Nodup → s.HandedBack t p
  report : s.reportedBy t
  ready : t.ready p = []
  item : .portLoss p s.timeBase ∈ t.failover.work
  current : t.failover.current = s.failover.current

/-- Between two states port p has trained (R61 to R63, R78): its record is that of the offer, with the probes of the listed targets
pending and one credit spent on LINK ACCEPT, and its cells are UNTESTED or ABSENT as the list says. -/
structure State.Trained (s t : State) (p : PortId) (identity grant : Byte) (reachList : BitVec 64) : Prop where
  port : t.port p = { s.port p with
    state := .up, identity := some identity.toNat, reach := reachTargets reachList, credits := grant.toNat - 1, history := []
    pendingProbes := reachTargets reachList, pendingTraces := (t.port p).pendingTraces, trainingEnds := none
    silenceEnds := some (s.timeBase + ms (linkSilence s.config)), lastSent := some (.linkAccept (BitVec.ofNat 8 s.station.id.val)) }
  cells : ∀ x ∈ allTargets, t.cell x p = if reachList.getLsbD x = true then
      ⟨.untested, 0, 0, 0, 0, (s.cell x p).probeNumber, none, true, none, some s.timeBase, none⟩
    else ⟨.absent, 0, 0, 0, 0, (s.cell x p).probeNumber, none, false, none, none, none⟩
  otherCells : ∀ x q, q ≠ p → t.cell x q = s.cell x q

/-- Taking exchange i off its lists empties the outstanding list of no QUIESCING port but perhaps `kept`, to whose list it returns
(R72). -/
def State.NoDrain (s : State) (i : Slot) (kept : Option PortId := none) : Prop :=
  ∀ q, some q ≠ kept → (s.port q).state = .quiescing → s.outstanding q = [] ∨ ∃ j ∈ s.outstanding q, j ≠ i

/-- The port's outstanding list holds an exchange, or a valid entry names the port (R70, R73). -/
def State.hasWork (s : State) (p : PortId) : Prop :=
  s.outstanding p ≠ [] ∨ ∃ pl e, s.entryAt pl = some e ∧ e.port = some p

/-- The port has been in a state without a link and has changed to the record `x`: the other ports, the cells and the exchanges stand,
and the entries but for verdict marks. -/
structure State.PortSet (s t : State) (p : PortId) (x : Port) : Prop where
  port : t.port p = x
  others : s.otherPorts t p
  routes : t.routes = s.routes
  table : s.sameTable t
  entries : s.samePlacements t

/-- Between two states exchange i, whose record is then e, has had its result decided (R8): it is ANSWERED at the tail of the result
queue, it has left every other list, its pair's count is one lower, and nothing else of the table has changed. A fall of the count to
zero ends a set-full wait of its set (R32). -/
structure State.Decided (s t : State) (i : Slot) (e : Exchange) (status : ResultStatus) (payload : List Byte) : Prop where
  record : t.record i = ⟨(s.record i).generation, some { e with
    phase := .answered status, payload := if status = .completed then payload else [] }⟩
  others : ∀ j, j ≠ i → t.record j = s.record j
  results : t.ex.results = s.ex.results ++ [i]
  order : t.ex.order = s.ex.order.filter (· != i)
  free : t.ex.free = s.ex.free
  outstanding : ∀ q, t.outstanding q = (s.outstanding q).filter (· != i)
  ready : ∀ q, i ∉ t.ready q
  traces : ∀ q, (t.port q).pendingTraces = (s.port q).pendingTraces.filter (· != i)
  count : ∀ pl c, s.findPlace e.session e.target = some pl → s.entryAt pl = some c →
    ∃ mark, t.entryAt pl = some { c with count := c.count - 1, verdictMark := mark }
  wait : t.link.headWait =
    if s.link.headWait = .setFull (setIndex e.session e.target) ∧ (s.entryOf e.session e.target).any (fun c => c.count ≤ 1) = true
    then .none else s.link.headWait

/-- Between two states exchange i has left the lists that held it with the record e, still open; no other record has changed, and it
stands on the outstanding list and the pending traces that its new phase names alone (R5, R113). -/
structure State.Moved (s t : State) (i : Slot) (e : Exchange) : Prop where
  record : t.record i = ⟨(s.record i).generation, some e⟩
  others : ∀ j, j ≠ i → t.record j = s.record j
  order : t.ex.order = s.ex.order
  results : t.ex.results = s.ex.results
  free : t.ex.free = s.ex.free
  outstanding : ∀ q, t.outstanding q = (s.outstanding q).filter (· != i) ++ (if e.phase.port = some q then [i] else [])
  traces : ∀ q, (t.port q).pendingTraces = (s.port q).pendingTraces.filter (· != i) ++
    (match e.phase with | .tracing r _ _ => if r = q then [i] else [] | _ => [])

/-- Between two states a miss has been counted on cell (x, p), which was monitored (R84, R86, R87): the step one higher, up to 3, the
quiet streak and the recovery count 0, the miss count one higher, up to MISS LIMIT; and at MISS LIMIT the cell LOST, with its
cell-loss item and its notice, unless it was LOST already, and with the report of a lost cable (R90). -/
structure State.Missed (s t : State) (x : Nat) (p : PortId) : Prop where
  step : (t.cell x p).step = min ((s.cell x p).step + 1) 3
  quiet : (t.cell x p).quiet = 0
  recovery : (t.cell x p).recovery = 0
  misses : (t.cell x p).misses = min ((s.cell x p).misses + 1) (missLimit s.config)
  state : (t.cell x p).state = if missLimit s.config ≤ (s.cell x p).misses + 1 then .lost else (s.cell x p).state
  item : missLimit s.config ≤ (s.cell x p).misses + 1 → (s.cell x p).state = .good →
    .cellLoss x p ∈ t.failover.work ∨ t.portLossStands p = true
  notice : missLimit s.config ≤ (s.cell x p).misses + 1 → (s.cell x p).state ≠ .lost →
    s.notifies t (.cellChange x p (s.cell x p).state .lost .misses (t.cell x p).step (t.cell x p).misses)
  others : ∀ y q, ¬(y = x ∧ q = p) → t.cell y q = s.cell y q
  report : s.lostnessReported t p

/-- The blocks of the state. -/
inductive Block where
  | timeBase | station | config | link | ex | cache | ports | routes | failover | row | view | i2c
deriving DecidableEq, Repr

/-- A block is the same in two states. -/
def State.sameIn (s t : State) : Block → Prop
  | .timeBase => t.timeBase = s.timeBase
  | .station => t.station = s.station
  | .config => t.config = s.config
  | .link => t.link = s.link
  | .ex => t.ex = s.ex
  | .cache => t.cache = s.cache
  | .ports => t.ports = s.ports
  | .routes => t.routes = s.routes
  | .failover => t.failover = s.failover
  | .row => t.row = s.row
  | .view => t.view = s.view
  | .i2c => t.i2c = s.i2c

/-- Nothing but the blocks of the list differs between two states. -/
def State.onlyIn (s t : State) (blocks : List Block) : Prop := ∀ b, b ∉ blocks → s.sameIn t b

/-- The blocks that a loss of a link, with the reports it makes, can change (R67). -/
def lossBlocks : List Block := [.link, .ex, .cache, .ports, .routes, .failover, .row, .view]

/-- The blocks that a change of a port's state outside UP and QUIESCING can change (R60, R75). -/
def portBlocks : List Block := [.link, .ex, .cache, .ports, .row, .view]

/-- The blocks that a command can change. -/
def blocksOf : Instr → List Block
  | .powerOn _ _ | .resetPinAsserted | .resetPinReleased _ =>
    [.timeBase, .station, .config, .link, .ex, .cache, .ports, .routes, .failover, .row, .view, .i2c]
  | .eepromLoadComplete _ _ | .eepromReadTimeout _ => [.station, .config, .link, .ex, .cache, .ports, .row, .view]
  | .hostLinkResetSequence | .hostReset => .station :: lossBlocks
  | .hostRequestArrival _ | .hostCreditArrival _ | .sendCreditReturn | .sendControlReply | .sendNotice => [.link]
  | .status | .readConfig | .readExchange | .readPort | .readRoute | .readPeer | .readVerdict | .lookup | .unknownRequest => [.link]
  | .sendResult => [.link, .ex]
  | .admission => [.link, .ex, .cache, .failover]
  | .configure => [.link, .config, .ex, .cache, .ports, .routes, .row, .view]
  | .enable => [.link, .station]
  | .withdraw => [.link, .station, .row]
  | .pin | .flush => [.link, .cache]
  | .portOn => .failover :: portBlocks
  | .portOffGraceful | .portOffImmediate | .resetPort | .endExchange | .cancel => lossBlocks
  | .sendExchange _ => [.ex, .ports]
  | .traceTransmission _ => [.ports]
  | .holdExpiry _ => [.link, .ex, .cache, .ports]
  | .answerArrival _ _ _ _ | .answerWaitExpiry _ | .traceReplyArrival _ _ _ _ _ | .traceWaitExpiry _ => lossBlocks
  | .signalArriving _ | .trainingWaitExpiry _ | .portResetHoldExpiry _ => portBlocks
  | .signalLost _ | .linkOffer _ _ _ _ | .reach _ _ | .damagedFrame _ | .linkSilenceExpiry _ | .echo _ _ _
  | .probeWaitExpiry _ _ | .walkStep => lossBlocks
  | .fabricCreditArrival _ _ | .idleTick _ => [.ports]
  | .probeDue _ _ | .probeSend _ => [.ports, .routes]
  | .workItemTakenUp => [.failover]
  | .entriesStep => [.ex, .cache, .ports, .failover]
  | .pairPhaseStep => [.ex, .cache, .ports, .failover]
  | .heldPhaseStep => [.ex, .ports, .failover]
  | .rowFrameStart _ | .lineHeldLow | .cleared => [.link, .row]
  | .lostArbitration | .bitError | .rowFrameSentWhole | .frameBrokenOff | .driveRetryExpiry | .periodicSightingDue
  | .changeSightingDue => [.row]
  | .sightingReceived _ _ _ | .withdrawReceived _ => [.link, .cache, .row, .view]
  | .peerEntryStale _ | .peerEntryExpired _ | .clearHoldExpiry _ | .staggerExpiry _ => [.link, .cache, .view]

/-- The state after a full reset, of every block but the station's record and the levels of the incoming lanes (R25, R42, R59, R77,
R92, R127, R139, R142, R143, R152 to R156, R160). -/
structure State.FullyReset (s : State) : Prop where
  time : s.timeBase = 0
  config : s.config = Config.defaults
  records : ∀ i : Slot, s.record i = ⟨0, none⟩
  free : s.ex.free = List.finRange 512
  order : s.ex.order = []
  results : s.ex.results = []
  outstanding : ∀ p : PortId, s.outstanding p = []
  ready : ∀ p : PortId, s.ready p = []
  entries : ∀ pl : Place, s.entryAt pl = none
  pointers : ∀ i : Fin 64, (s.cacheSet i).root = false ∧ (s.cacheSet i).left = false ∧ (s.cacheSet i).right = false
  ports : ∀ p : PortId, s.port p = ⟨.down, none, [], 0, false, [], [], [], none, none, none, (s.port p).signal, none⟩
  cells : ∀ t ∈ allTargets, ∀ p : PortId, s.cell t p = ⟨.absent, 0, 0, 0, 0, 0, none, false, none, none, none⟩
  work : s.failover.work = []
  current : s.failover.current = none
  phase : s.row.phase = .silent
  frame : s.row.pending = .none
  fault : s.row.lineFault = .normal
  times : s.row.periodicDue = none ∧ s.row.changeEarliest = none ∧ s.row.lastSent = none ∧ s.row.lastConflict = none ∧ s.row.retryAt = none
  marks : s.row.changeWanted = false ∧ s.row.withdrawn = false ∧ s.row.driveFaultReported = false
  lastCounts : s.row.lastCounts = Vector.replicate 15 ⟨0, 0⟩
  peers : ∀ i : StationId, s.peer i = none
  own : ∀ sw ∈ allSwitches, s.ownCount sw = ⟨0, 0⟩
  verdicts : ∀ sw ∈ allSwitches, s.verdict sw = ⟨.sound, 0, 0, 0, 0, none, none, false⟩
  ingress : s.link.ingress = []
  freed : s.link.freed = 0
  credits : s.link.credits = 0
  replies : s.link.replies = []
  notices : s.link.notices = []
  run : s.link.resultRun = 0
  dropped : s.link.dropped = false

/-- The levels of the incoming lanes are the same in two states. -/
def State.sameSignals (s t : State) : Prop := ∀ p : PortId, (t.port p).signal = (s.port p).signal

end Sys2Proof.Machine
end

