-- ==== Sys2Proof/Certificates/Slice0/Obligations.lean ====
section
/-! DEFINITION. The statements about the FX-410, for the provers. -/

open Sys2Proof Sys2Proof.Machine

/-! ## The machine as a whole -/

/-- A step runs the command at the front of the queue with the rest of the queue behind it. On an empty queue a step is one
microsecond of the Time Base, which the asserted RESET pin holds: that tick is the model's choice (log 1). -/
def Obligations.StepsRunTheQueue : Prop :=
  (∀ (c : Instr) (rest : List Instr) (s : State), s.pending = c :: rest → step s = exec c { s with pending := rest }) ∧
  (∀ s : State, s.pending = [] →
    (s.station.pinAsserted = false → step s = .next { s with timeBase := s.timeBase + 1 }) ∧
    (s.station.pinAsserted = true → step s = .next s))

/-- No command stops the part, whatever its operands and whatever the state: each answers a next state, with the queue of commands
as it was. Where a command's conditions do not hold, that it completes is the model's choice (log 6). -/
def Obligations.CommandsAlwaysComplete : Prop :=
  ∀ (c : Instr) (s : State), ∃ t, exec c s = .next t ∧ t.pending = s.pending

/-- A command changes no block but those of its table (`blocksOf`): every other block is the same in the next state. The premise is
the invariant that no raised notice is left between steps. -/
def Obligations.CommandsKeepOtherBlocks : Prop :=
  ∀ (c : Instr) (s t : State) (b : Block), s.raised = [] → exec c s = .next t → b ∉ blocksOf c → s.sameIn t b

/-! ## Resets and start-up (chapters 10 and 11) -/

/-- The machine's reset state is that of a full reset by power-on with the pin released: LOADING, the load begun at 0, record POWER,
and every block as its chapter gives, with the load's transaction on the I2C line. The station ID 0 and the absent signals (log 3)
and a cell's last latency of none (log 23) are the model's choice. -/
def Obligations.ResetStateIsFullReset : Prop :=
  State.reset.FullyReset ∧ State.reset.pending = [] ∧ (∀ p : PortId, (State.reset.port p).signal = false) ∧
    State.reset.station = ⟨.loading, 0, false, some 0, ⟨true, false, false⟩, none, false⟩ ∧ State.reset.i2c = some ⟨80, 0, 64⟩

/-- The three commands of the full reset: every block takes its state after a full reset, the station is LOADING with the lock clear
and no outcome, the record holds POWER or RESET PIN or both (R167), and the straps are sampled and the load begun at once or at the
release of the pin, with its transaction put on the I2C line (R162). The station ID while the pin is held asserted (log 7) and a
cell's last latency of none (log 23) are the model's choice. -/
def Obligations.FullResets : Prop :=
  ∀ (straps : StationId) (s : State),
    (∃ t, exec (.powerOn straps false) s = .next t ∧ t.FullyReset ∧ s.sameSignals t ∧ t.i2c = some ⟨80, 0, 64⟩ ∧
      t.station = ⟨.loading, straps, false, some 0, ⟨true, false, false⟩, none, false⟩) ∧
    (∃ t, exec (.powerOn straps true) s = .next t ∧ t.FullyReset ∧ s.sameSignals t ∧ t.i2c = none ∧
      t.station = ⟨.loading, s.station.id, true, none, ⟨true, true, false⟩, none, false⟩) ∧
    (s.station.pinAsserted = false → ∃ t, exec .resetPinAsserted s = .next t ∧ t.FullyReset ∧ s.sameSignals t ∧ t.i2c = none ∧
      t.station = ⟨.loading, s.station.id, true, none,
        ⟨decide (s.station.state = .loading ∧ s.station.resetKind.power = true), true, false⟩, none, false⟩) ∧
    (s.station.pinAsserted = true → ∃ t, exec (.resetPinReleased straps) s = .next t ∧ t.FullyReset ∧ s.sameSignals t ∧
      t.i2c = some ⟨80, 0, 64⟩ ∧
      t.station = ⟨.loading, straps, false, some 0, s.station.resetKind, none, false⟩)

/-- What the load of the EEPROM image leaves: the outcome and the configuration for an image that is absent or not read whole, bad,
foreign, or good, in the order in which the outcomes are decided; and the one transaction that reads it: a write of the address byte 0
to device 80, a repeated start and a read of 64 bytes, each but the last acknowledged, with an EEPROM that leaves one of its own
acknowledgements out counted as absent (R162). -/
def Obligations.LoadOutcomes : Prop :=
  eepromRead.actions = [.start, .address 80 false, .write 0, .repeatedStart, .address 80 true] ++ List.replicate 63 (.read true) ++
    [.read false] ∧
  (∀ (data : List Byte) (host : Bool),
    (data.length = 64 → eepromCommand [true, true, true] data host = .eepromLoadComplete (some data) host) ∧
    (∀ acks, false ∈ acks ∨ acks.length ≠ 3 ∨ data.length ≠ 64 → eepromCommand acks data host = .eepromLoadComplete none host)) ∧
  (loadImage none = (.eepromAbsent, Config.defaults)) ∧
  ∀ image : List Byte,
    (image.length ≠ 64 → loadImage (some image) = (.eepromAbsent, Config.defaults)) ∧
    (image.length = 64 → image.drop 62 ≠ bytesOf 2 (crcBytes (image.take 62)).toNat →
      loadImage (some image) = (.imageBad, Config.defaults)) ∧
    (image.length = 64 → image.drop 62 = bytesOf 2 (crcBytes (image.take 62)).toNat → image.take 2 ≠ [70#8, 1#8] →
      loadImage (some image) = (.imageForeign, Config.defaults)) ∧
    (image.length = 64 → image.drop 62 = bytesOf 2 (crcBytes (image.take 62)).toNat → image.take 2 = [70#8, 1#8] →
      (loadImage (some image)).2 = clampAll (imageItems image) ∧
      ((∀ n, 1 ≤ n → n ≤ 26 → item (clampAll (imageItems image)) n = item (imageItems image) n) →
        (loadImage (some image)).1 = .loaded) ∧
      ((∃ n, 1 ≤ n ∧ n ≤ 26 ∧ item (clampAll (imageItems image)) n ≠ item (imageItems image) n) →
        (loadImage (some image)).1 = .loadedClamped))

/-- The end of the load enters STANDBY: the outcome and configuration of the read (none where it took longer than 50 ms), the record
with HOST added where the reset sequence stands on the lanes, a sighting pending, ports with signal TRAINING, and STARTED queued.
The last clause takes the ports without signal, so that STARTED is the one notice. -/
def Obligations.LoadEntersStandby : Prop :=
  ∀ (s : State) (began : Time) (image : Option (List Byte)) (host : Bool),
    s.station.state = .loading → s.station.loadBegan = some began →
    (∀ p : PortId, (s.port p).state = .down ∧ (s.port p).retryBar = false) →
    let late := decide (50000 < (elapsed s.timeBase began).toNat)
    let enters := fun (read : LoadOutcome × Config.Settings) (t : State) =>
      t.station = { s.station with
        state := .standby, loadBegan := none, outcome := some read.1
        resetKind := { s.station.resetKind with host := s.station.resetKind.host || host } } ∧
      t.config = read.2 ∧ t.row.phase = .waiting ∧ t.row.pending = .sighting ∧
      (∀ p : PortId, (t.port p).state = if (s.port p).signal = true then .training else .down) ∧
      ((∀ p : PortId, (s.port p).signal = false) → s.raised = [] → s.link.notices = [] →
        t.link.notices = [⟨s.timeBase, .started t.station.id t.station.resetKind t.station.outcome⟩])
    (∃ t, exec (.eepromLoadComplete image host) s = .next t ∧ enters (loadImage (if late then none else image)) t) ∧
    (50000 ≤ (elapsed s.timeBase began).toNat →
      ∃ t, exec (.eepromReadTimeout host) s = .next t ∧ enters (loadImage none) t)

/-- R163: a value outside its range becomes the nearer bound, and QUIET LATENCY is then at most SLOW LATENCY. -/
def Obligations.ClampingTakesTheNearerBound : Prop :=
  ∀ (v : Config.Settings) (n : Nat) (h : 1 ≤ n ∧ n ≤ 26),
    let range := Config.itemTable[n - 1]'(by omega)
    let nearest := if item v n < range.low then range.low else if range.high < item v n then range.high else item v n
    item (clampAll v) n = if n = 10 then min nearest (item (clampAll v) 9) else nearest

/-- A host reset, by the link's reset sequence or by the HOST RESET request: the station returns to STANDBY with configuration and
lock kept and record HOST, every exchange is cleared with its generation advanced, the cache and the work list are cleared, and the
request alone is answered. A port that is UP, TRAINING or DOWN keeps its record but for its pending traces; one that is QUIESCING,
OFF or RESET is DOWN, or TRAINING with signal, and the cells of a QUIESCING one are LOST (R76, R77). A sighting is pending, or due at
the end of the frame on the line (R137), and ports that returned to DOWN report their cables (R75). The queues of the host link are
emptied, and STARTED is the first notice. That LINE HELD LOW is the second, before the PORT CHANGE and VERDICT CHANGE notices of the
reset, is the model's choice (log 29). -/
def Obligations.HostResets : Prop :=
  ∀ (s : State) (rest : List HostFrame),
    let returns := fun p : PortId => (s.port p).state = .off ∨ (s.port p).state = .quiescing ∨ (s.port p).state = .reset
    let row := { s.row with
      withdrawn := false, driveFaultReported := false, lastConflict := none
      dueAtEnd := match s.row.phase with | .sending _ => true | _ => false
      pending := match s.row.phase with | .sending (.withdraw _) => .withdraw | _ => .sighting }
    let clears := fun (replies : List Reply) (t : State) =>
      t.station = { s.station with state := .standby, resetKind := ⟨false, false, true⟩ } ∧ t.config = s.config ∧
      t.timeBase = s.timeBase ∧ t.pending = s.pending ∧
      (∀ i : Slot, t.record i =
        if (s.live i).isSome then ⟨(s.record i).generation + 1, none⟩ else s.record i) ∧
      t.ex.free = List.finRange 512 ∧ t.ex.order = [] ∧ t.ex.results = [] ∧ (∀ p, t.outstanding p = [] ∧ t.ready p = []) ∧
      (∀ pl, t.entryAt pl = none) ∧ t.failover = ⟨[], none⟩ ∧
      (∀ p : PortId,
        let x := s.port p
        let y := match x.state with
          | .quiescing => { x with credits := 0, silenceEnds := none, pendingProbes := [] }
          | .reset => { x with holdEnds := none }
          | _ => x
        t.port p =
          if returns p then
            if x.signal = true ∧ x.retryBar = false then
              { y with state := .training, pendingTraces := [], trainingEnds := some (s.timeBase + ms (trainingWait s.config)) }
            else { y with state := .down, pendingTraces := [] }
          else { x with pendingTraces := [] }) ∧
      (∀ y ∈ allTargets, ∀ p : PortId, t.cell y p = if (s.port p).state = .quiescing ∧ y ∈ (s.port p).reach then
        { s.cell y p with state := .lost, inFlight := none, pending := false, recovery := 0, quiet := 0 } else s.cell y p) ∧
      (if ∃ p, returns p then ({ s with row := row } : State).reportedBy t else t.row = row ∧ t.view = s.view) ∧
      t.link.ingress = [] ∧ t.link.headWait = .none ∧ t.link.freed = 0 ∧ t.link.returnDue = false ∧ t.link.credits = 0 ∧
      t.link.resultRun = 0 ∧ t.link.replies = replies ∧
      t.link.notices.head? = some ⟨s.timeBase, .started s.station.id ⟨false, false, true⟩ s.station.outcome⟩ ∧
      (s.row.lineFault = .heldLow → t.link.notices[1]? = some ⟨s.timeBase, .rowFault .lineHeldLow none⟩) ∧
      t.row.withdrawn = false ∧ t.row.phase = s.row.phase ∧ t.view.peers = s.view.peers
    (s.station.state ≠ .loading → ∃ t, exec .hostLinkResetSequence s = .next t ∧ clears [] t) ∧
    (s.RequestAtHead 19 [] rest → ∃ t, exec .hostReset s = .next t ∧ clears [⟨19, .done, .none⟩] t)

/-! ## The host link (chapter 10) -/

/-- Frames from the host (R152, R154, R168): a good REQUEST or CONTROL frame joins the tail of the ingress queue, or is discarded as
an overrun with its notice where 32 stand there; one that fails its check sequence frees one request credit where its first byte
reads 1, and is otherwise discarded with nothing changed; a CREDIT adds its count to the host-bound credits, up to 64 in all. That
the count of freed credits stays at 32 is the model's reading (log 17), and that a frame of no bytes frees none is its choice
(log 30). -/
def Obligations.HostFramesAreTaken : Prop :=
  (∀ (f : HostFrame) (s : State), f.wf = true → s.station.state ≠ .loading → s.raised = [] →
    (s.link.ingress.length < 32 →
      exec (.hostRequestArrival (sealFrame f.bytes)) s = .next { s with link := { s.link with ingress := s.link.ingress ++ [f] } }) ∧
    (32 ≤ s.link.ingress.length → s.link.notices.length < 16 →
      exec (.hostRequestArrival (sealFrame f.bytes)) s = .next { s with link :=
        { s.link with notices := s.link.notices ++ [⟨s.timeBase, .linkOverrun f.isControl⟩] } }) ∧
    (32 ≤ s.link.ingress.length → 16 ≤ s.link.notices.length →
      exec (.hostRequestArrival (sealFrame f.bytes)) s = .next { s with link := { s.link with dropped := true } })) ∧
  (∀ (frame : List Byte) (s : State), s.station.state ≠ .loading → openFrame frame = none →
    let n := min (s.link.freed + 1) 32
    (frame.head? = some 1#8 →
      exec (.hostRequestArrival frame) s = .next { s with link := { s.link with
        freed := n
        returnDue := s.link.returnDue || decide (creditBatch s.config ≤ n) || s.link.ingress.isEmpty } }) ∧
    (frame.head? ≠ some 1#8 → exec (.hostRequestArrival frame) s = .next s ∧ exec (.hostCreditArrival frame) s = .next s)) ∧
  (∀ (n : Byte) (s : State), s.station.state ≠ .loading →
    exec (.hostCreditArrival (sealFrame [2#8, n])) s =
      .next { s with link := { s.link with credits := min (s.link.credits + n.toNat) 64 } })

/-- The frames that the part sends to the host but RESULTs, in the order of R155: a due credit return first, with the count as it
stands; then the head of the replies; then a notice, where the result queue is empty or 8 results have been sent since the last one.
Each but the CREDIT takes one credit, and none goes before its turn, without a credit, or in LOADING. That such a command changes
nothing is the model's choice (log 6). -/
def Obligations.HostBoundFramesGoInOrder : Prop :=
  (∀ s : State,
    (s.station.state = .loading ∨ s.link.returnDue = false ∨ s.link.freed = 0 → exec .sendCreditReturn s = .next s) ∧
    (s.station.state = .loading ∨ (s.link.returnDue = true ∧ 1 ≤ s.link.freed) ∨ s.link.credits = 0 ∨ s.link.replies = [] →
      exec .sendControlReply s = .next s) ∧
    (s.station.state = .loading ∨ (s.link.returnDue = true ∧ 1 ≤ s.link.freed) ∨ s.link.credits = 0 ∨ s.link.replies ≠ [] ∨
        (s.ex.results ≠ [] ∧ s.link.resultRun < 8) ∨ s.link.notices = [] →
      exec .sendNotice s = .next s)) ∧
  ∀ s : State, s.station.state ≠ .loading →
    (s.link.returnDue = true → 1 ≤ s.link.freed →
      exec .sendCreditReturn s = .next { s with link :=
        { s.link with freed := 0, returnDue := false, lastSent := some (.credit s.link.freed) } }) ∧
    (∀ r rest, s.link.Ready → s.link.replies = r :: rest →
      exec .sendControlReply s = .next { s with link :=
        { s.link with replies := rest, credits := s.link.credits - 1, lastSent := some (.reply r) } }) ∧
    (∀ n rest, s.link.Ready → s.link.replies = [] → s.link.notices = n :: rest → (s.ex.results = [] ∨ 8 ≤ s.link.resultRun) →
      exec .sendNotice s = .next { s with link :=
        { s.link with
          notices := rest, dropped := false, resultRun := 0, credits := s.link.credits - 1
          lastSent := some (.notice n s.link.dropped) } })

/-- SEND_RESULT: with no return due, a credit held, no reply waiting and no notice going first, the head of the result queue goes
out with the fields of R9, and its slot is freed (R10): its generation advances, it joins the tail of the free list, and a
table-full wait ends. Nothing else of the exchange table or the link changes. With a return due, no credit, a reply waiting or a
notice going first (R155), in LOADING, and with no result, the command changes nothing, which is the model's choice (log 6). -/
def Obligations.ResultsAreSentAndFreed : Prop :=
  (∀ s : State,
    s.station.state = .loading ∨ (s.link.returnDue = true ∧ 1 ≤ s.link.freed) ∨ s.link.credits = 0 ∨ s.link.replies ≠ [] ∨
        (s.link.notices ≠ [] ∧ 8 ≤ s.link.resultRun) ∨ s.ex.results = [] →
      exec .sendResult s = .next s) ∧
  ∀ (s : State) (i : Slot) (rest : List Slot) (e : Exchange) (status : ResultStatus),
    s.station.state ≠ .loading → s.link.Ready → s.link.replies = [] →
    (s.link.notices = [] ∨ s.link.resultRun < 8) → s.ex.results = i :: rest → s.live i = some e → e.phase = .answered status →
    ∃ t, exec .sendResult s = .next t ∧
      t.link = { s.link with
        credits := s.link.credits - 1, resultRun := s.link.resultRun + 1
        lastSent := some (.result ⟨e.hostRef, e.session, e.target, status, e.attempt, e.payload⟩)
        headWait := if s.link.headWait = .tableFull then .none else s.link.headWait } ∧
      t.record i = ⟨(s.record i).generation + 1, none⟩ ∧ (∀ j, j ≠ i → t.record j = s.record j) ∧
      t.ex.free = s.ex.free ++ [i] ∧ t.ex.results = rest ∧ t.ex.order = s.ex.order ∧ t.ex.outstanding = s.ex.outstanding ∧
      t.ex.ready = s.ex.ready

/-! ## Admission (chapters 1 and 2) -/

/-- A refused booking request (R12, R13): the outcome is the first test of R12 that fails. It takes the slot at the head of the free
list, its record is filled and ANSWERED at once with no payload, and it joins the result queue alone: no pair order list, no
affinity entry. The frame leaves the ingress queue. -/
def Obligations.RefusedRequestsAreAnswered : Prop :=
  ∀ (s : State) (b : Booking) (rest : List HostFrame) (i : Slot) (free : List Slot) (status : ResultStatus),
    s.BookingAtHead b rest → s.ex.free = i :: free →
    (if s.station.state ≠ .active then status = .withdrawn
      else if b.payload.length = 0 ∨ 512 < b.payload.length then status = .refused .tooLong
      else if b.cls ≠ 1#8 ∧ b.cls ≠ 2#8 then status = .refused .badClass
      else if 63 < b.target.toNat then status = .refused .badTarget
      else (∀ p : PortId, (s.cell b.target.toNat p).state = .absent) ∧ status = .noRoute) →
    ∃ t, exec .admission s = .next t ∧
      t.record i = ⟨(s.record i).generation, some ⟨b.cls, b.session, b.target.toNat, b.hostRef, 0, 0, false, [], .answered status⟩⟩ ∧
      (∀ j, j ≠ i → t.record j = s.record j) ∧ t.ex.free = free ∧ t.ex.results = s.ex.results ++ [i] ∧
      t.ex.order = s.ex.order ∧ t.ex.outstanding = s.ex.outstanding ∧ t.ex.ready = s.ex.ready ∧ t.cache = s.cache ∧
      t.failover = s.failover ∧ t.link = s.poppedLink rest

/-- The head waits, and nothing else changes (R13, R32): in the table-full wait where no slot is free, and in the set-full wait
where a request that R12 admits misses in a set whose four ways all hold pinned entries. -/
def Obligations.RequestsWaitForSlotOrWay : Prop :=
  ∀ (s : State) (b : Booking) (rest : List HostFrame), s.BookingAtHead b rest →
    (s.ex.free = [] → exec .admission s = .next { s with link := { s.link with headWait := .tableFull } }) ∧
    (s.ex.free ≠ [] → s.refusal b = none → s.findPlace b.session b.target.toNat = none →
      (∀ w : Fin 4, ∃ e, s.entryAt ⟨setIndex b.session b.target.toNat, w⟩ = some e ∧ 0 < e.count) →
      exec .admission s =
        .next { s with link := { s.link with headWait := .setFull (setIndex b.session b.target.toNat) } })

/-- What an admission does to the exchange table, on a hit as on a miss: the record is filled (R2), the exchange joins the tail of
the order, and it is WAITING with FIRST SEND where its pair has a port and HELD with FIRST SEND and a full HOLD LIMIT where it has
none (R14). The pair's entry afterwards names the port, with the count raised by one. On a hit the entry keeps its port and marks
unless a fresh placement is due (R29); on a miss the chosen way is filled (R31). Either is a use of the way, which turns the tree
pointers of its set and of no other (R30). -/
def Obligations.AdmittedRequestsEnterTheTable : Prop :=
  ∀ (s : State) (b : Booking) (rest : List HostFrame) (i : Slot) (free : List Slot),
    s.BookingAtHead b rest → s.raised = [] → s.ex.free = i :: free → s.refusal b = none →
    let session := b.session
    let target := b.target.toNat
    let enters := fun (port : Option PortId) (pl : Place) (entry : Entry) (t : State) =>
      t.record i = ⟨(s.record i).generation, some ⟨b.cls, session, target, b.hostRef, 0, 0, false, b.payload,
        match port with
        | some _ => .waiting .firstSend
        | none => .held .firstSend (s.timeBase + ms (holdLimit s.config))⟩⟩ ∧
      (∀ j, j ≠ i → t.record j = s.record j) ∧ t.ex.free = free ∧ t.ex.order = s.ex.order ++ [i] ∧
      t.ex.results = s.ex.results ∧ t.ex.outstanding = s.ex.outstanding ∧ t.link = s.poppedLink rest ∧
      t.entryAt pl = some { entry with count := entry.count + 1 } ∧ (∀ pl', pl' ≠ pl → t.entryAt pl' = s.entryAt pl') ∧
      ((t.cacheSet pl.set).root, (t.cacheSet pl.set).left, (t.cacheSet pl.set).right) =
        (((s.cacheSet pl.set).use pl.way).root, ((s.cacheSet pl.set).use pl.way).left, ((s.cacheSet pl.set).use pl.way).right) ∧
      (∀ j, j ≠ pl.set → t.cacheSet j = s.cacheSet j)
    (∀ pl e, s.findPlace session target = some pl → s.entryAt pl = some e →
      if e.count = 0 ∧ (e.quiesceMark = true ∨ e.verdictMark.isSome = true ∨ e.port = none ∨
          ∃ p, e.port = some p ∧ ¬((s.port p).state = .up ∧ (s.cell target p).state = .good)) then
        ∃ t, exec .admission s = .next t ∧ enters (s.selectFor session target) pl
          { e with port := s.selectFor session target, quiesceMark := false, verdictMark := none } t
      else ∃ t, exec .admission s = .next t ∧ enters e.port pl e t) ∧
    (∀ w, s.findPlace session target = none → (s.cacheSet (setIndex session target)).chooseWay = some w →
      let pl : Place := ⟨setIndex session target, w⟩
      let port := (s.setEntryAt pl (some ⟨session, target, none, 0, false, none⟩)).selectFor session target
      ∃ t, exec .admission s = .next t ∧ enters port pl ⟨session, target, port, 0, false, none⟩ t)

/-- R30 and R31: a use turns the pointers of a set away from the way used, so that a way just used is not the tree victim; and a
miss takes the lowest invalid way, else the tree victim if idle, else the lowest idle way, else none. -/
def Obligations.ReplacementRule : Prop :=
  (∀ (x : CacheSet) (w : Fin 4),
    (x.use w).treeVictim ≠ w ∧ (x.use w).ways = x.ways ∧
    (x.use w).root = decide (w.val < 2) ∧
    (if w.val < 2 then (x.use w).left = decide (w = 0) ∧ (x.use w).right = x.right
      else (x.use w).right = decide (w = 2) ∧ (x.use w).left = x.left)) ∧
  (∀ x : CacheSet,
    let invalid := fun w : Fin 4 => x.ways[w] = none
    let idle := fun w : Fin 4 => ∃ e, x.ways[w] = some e ∧ e.count = 0
    (∀ w, x.chooseWay = some w →
      (invalid w ∧ ∀ v, invalid v → w ≤ v) ∨
      ((∀ v, ¬ invalid v) ∧ idle x.treeVictim ∧ w = x.treeVictim) ∨
      ((∀ v, ¬ invalid v) ∧ ¬ idle x.treeVictim ∧ idle w ∧ ∀ v, idle v → w ≤ v)) ∧
    (x.chooseWay = none ↔ (∀ v, ¬ invalid v) ∧ ∀ v, ¬ idle v))

/-! ## Control requests (R157) -/

/-- A request of no known name is answered UNKNOWN REQUEST, and one whose arguments have not the length or the ranges of its table
is answered BAD INDEX; either leaves the ingress queue and changes nothing else. That a CONFIGURE so refused lists no clamped items is
the model's choice (log 10). -/
def Obligations.UnreadableRequestsChangeNothing : Prop :=
  ∀ (s : State) (code : Byte) (args : List Byte) (rest : List HostFrame), s.RequestAtHead code args rest →
    (codeKnown code = false →
      exec .unknownRequest s = .next (s.setLink (s.answeredLink rest ⟨code, .unknownRequest, .none⟩))) ∧
    (codeKnown code = true → argsReadable code args = false →
      exec (commandOf code args) s =
        .next (s.setLink (s.answeredLink rest ⟨code, .badIndex, if code = 1#8 then .clamped [] else .none⟩)))

/-- The eight reading requests change nothing but the host link, and each is answered DONE with its report of the state as it stands
when its frame has left the ingress queue (R39, R75, R91, R151, R159). That the report shows the ingress queue without its own frame
is the model's reading (log 13). -/
def Obligations.ReadingRequestsReport : Prop :=
  ∀ (s : State) (rest : List HostFrame),
    let u := { s with link := s.poppedLink rest }
    let answers := fun (c : Instr) (code : Byte) (body : ReplyBody) =>
      exec c s = .next (s.setLink (s.answeredLink rest ⟨code, .done, body⟩))
    (s.RequestAtHead 4 [] rest → answers .status 4 (.status u.statusReport)) ∧
    (s.RequestAtHead 5 [] rest → answers .readConfig 5 (.config s.config.toList s.station.outcome s.station.locked)) ∧
    (∀ i : Slot, s.RequestAtHead 6 (bytesOf 2 i.val) rest → answers .readExchange 6 (.exchange (u.exchangeReport i))) ∧
    (∀ p : PortId, s.RequestAtHead 7 [BitVec.ofNat 8 p.val] rest → answers .readPort 7 (.port (u.portReport p))) ∧
    (∀ (t : Nat) (p : PortId), 1 ≤ t → t ≤ 63 → s.RequestAtHead 8 [BitVec.ofNat 8 t, BitVec.ofNat 8 p.val] rest →
      answers .readRoute 8 (.route (u.routeReport t p))) ∧
    (∀ i : StationId, s.RequestAtHead 9 [BitVec.ofNat 8 i.val] rest → answers .readPeer 9 (.peer (u.peerReport i))) ∧
    (∀ sw : Nat, 1 ≤ sw → sw ≤ 15 → s.RequestAtHead 10 [BitVec.ofNat 8 sw] rest →
      answers .readVerdict 10 (.verdict (u.verdictReport sw))) ∧
    (∀ (session : Word32) (t : Nat), 1 ≤ t → t ≤ 63 →
      s.RequestAtHead 11 (bytesOf 4 session.toNat ++ [BitVec.ofNat 8 t]) rest →
      answers .lookup 11 (.lookup (u.lookupReport session t)))

/-- CONFIGURE (R165): while the lock is set it is LOCKED and changes nothing; in STANDBY with the lock clear, the items take the
values named, clamped, all in one step, and the reply lists the clamped items. Every running port timer keeps its end, a miss count
is at most a lowered MISS LIMIT, and a recovery count is below a lowered RECOVER COUNT. A changed BASE PROBE INTERVAL moves the due
moments of the probes, and those then reached join the pending probes in target order (R81); a changed SIGHTING PERIOD or SPACING
moves periodic due and change earliest to last sent plus the new values, and a sighting then due is pending (R135); under changed
limits the entries past EXPIRY leave the peer view (R141) and every verdict is recomputed (R146); and a return is due where the
freed credits have reached a changed CREDIT BATCH (R153). The order of the list and the value listed with each item, and that
a refused CONFIGURE lists none, are the model's choice (log 10). Moments are compared modulo 2^48 as log 16 says. -/
def Obligations.ConfigureSetsItems : Prop :=
  ∀ (s : State) (args : List Byte) (rest : List HostFrame) (items : List (Nat × Nat)),
    s.RequestAtHead 1 args rest → argsConfigure args = some items →
    (s.station.locked = true → exec .configure s = .next (s.setLink (s.answeredLink rest ⟨1, .locked, .clamped []⟩))) ∧
    (s.station.locked = false → s.station.state = .standby →
      let given := givenItems s.config items
      ∃ t, exec .configure s = .next t ∧ t.config = clampAll given ∧ t.station = s.station ∧ t.link.ingress = rest ∧
        t.link.replies = s.link.replies ++ [⟨1, .done, .clamped (clampedItems given)⟩] ∧
        s.sameTable t ∧ s.samePlacements t ∧ t.failover = s.failover ∧
        (let changed := fun n => item s.config n ≠ item t.config n
        let due := fun (y : Nat) (p : PortId) => changed 7 ∧ (s.cell y p).state ≠ .absent ∧ (s.port p).state.linked = true ∧
          (s.cell y p).inFlight = none ∧ (s.cell y p).pending = false ∧ ∃ sentAt, (s.cell y p).lastSend = some sentAt ∧
            reached s.timeBase (sentAt + ms (max 1 (baseProbeInterval t.config /
              2 ^ (if (s.cell y p).state = .lost then 0 else (s.cell y p).step)))) = true
        (∀ p : PortId, ∃ joining, t.port p = { s.port p with pendingProbes := (s.port p).pendingProbes ++ joining } ∧
          joining.Pairwise (· < ·) ∧ ∀ y, y ∈ joining ↔ y ∈ allTargets ∧ due y p ∧ y ∉ (s.port p).pendingProbes) ∧
        (∀ y ∈ allTargets, ∀ p : PortId, ∃ pending, t.cell y p = { s.cell y p with
            pending := pending
            misses := if missLimit t.config < missLimit s.config then min (s.cell y p).misses (missLimit t.config)
              else (s.cell y p).misses
            recovery := if recoverCount t.config < recoverCount s.config ∧ recoverCount t.config ≤ (s.cell y p).recovery
              then recoverCount t.config - 1 else (s.cell y p).recovery } ∧
          (pending = true ↔ (s.cell y p).pending = true ∨ due y p)) ∧
        (if changed 16 ∨ changed 17 then
          match s.row.lastSent with
          | none => t.row = s.row
          | some sent =>
            let periodic := sent + ms (sightingPeriod t.config)
            let earliest := sent + ms (sightingSpacing t.config)
            t.row = { s.row with
              periodicDue := some periodic, changeEarliest := some earliest
              pending := if (reached s.timeBase periodic = true ∨ (s.row.changeWanted = true ∧ reached s.timeBase earliest = true)) ∧
                s.row.pending = .none ∧ s.row.withdrawn = false ∧ s.row.phase ≠ .silent then .sighting else s.row.pending }
          else t.row = s.row) ∧
        (∀ i, t.peer i = if changed 16 ∨ changed 18 ∨ changed 19 then
            (s.peer i).filter (fun e => decide ((elapsed s.timeBase e.time).toNat ≤ expiryLimit t.config * sightingPeriod t.config * 1000))
          else s.peer i) ∧
        t.view.own = s.view.own ∧
        (let u := { s with config := t.config, view := { s.view with peers := t.view.peers } }
        ∀ sw ∈ allSwitches, t.verdict sw = if changed 16 ∨ changed 18 ∨ changed 19 ∨ changed 20 ∨ changed 21
          then (u.recompute sw).verdict sw else s.verdict sw) ∧
        t.link.freed = (s.poppedLink rest).freed ∧
        (t.link.returnDue = true ↔
          (s.poppedLink rest).returnDue = true ∨ (changed 26 ∧ creditBatch t.config ≤ (s.poppedLink rest).freed))))

/-- ENABLE and WITHDRAW (R136, R166), with their refusals. That a WITHDRAW drops what an earlier host reset left due at the end of the
frame on the line, and the change kept for the time after a sighting, is the model's choice (logs 20 and 14). -/
def Obligations.EnableAndWithdraw : Prop :=
  ∀ (s : State) (rest : List HostFrame),
    (s.RequestAtHead 2 [] rest →
      (s.station.state = .standby →
        exec .enable s = .next { s with
          station := { s.station with state := .active, locked := true }, link := s.answeredLink rest ⟨2, .done, .none⟩ }) ∧
      (s.station.state ≠ .standby → exec .enable s = .next (s.setLink (s.answeredLink rest ⟨2, .wrongState, .none⟩)))) ∧
    (s.RequestAtHead 3 [] rest →
      (s.station.state = .active →
        exec .withdraw s = .next { s with
          station := { s.station with state := .withdrawn }
          row := { s.row with
            withdrawn := true, pending := .withdraw, periodicDue := none, changeWanted := false, wantedNext := false, dueAtEnd := false }
          link := s.answeredLink rest ⟨3, .done, .none⟩ }) ∧
      (s.station.state ≠ .active → exec .withdraw s = .next (s.setLink (s.answeredLink rest ⟨3, .wrongState, .none⟩))))

/-- PIN (R40): PINNED where the pair's entry or the way asked for is pinned, or where no way can be chosen; NOT GOOD where the port
is not UP with the cell GOOD or none can be selected; each with nothing changed. An accepted PIN installs the pair in the way with
the port, idle and unmarked, invalidates the pair's entry in any other way, and turns the pointers for a use of the way. The entry
in the way to be installed counts in the selection of an automatic port: the model's reading (log 9). -/
def Obligations.PinInstallsThePair : Prop :=
  ∀ (s : State) (args : List Byte) (rest : List HostFrame) (a : PinArgs),
    s.RequestAtHead 12 args rest → argsPin args = some a →
    let set := setIndex a.session a.target
    let present := (s.cacheSet set).findWay a.session a.target
    let pinnedWay := fun w : Fin 4 => ∃ e, s.entryAt ⟨set, w⟩ = some e ∧ 0 < e.count
    let pinned := exec .pin s = .next (s.setLink (s.answeredLink rest ⟨12, .pinned, .none⟩))
    ((∃ w, present = some w ∧ pinnedWay w) → pinned) ∧
    ((∃ w, a.way = some w ∧ pinnedWay w) → pinned) ∧
    (a.way = none → present = none → (∀ w, pinnedWay w) → pinned) ∧
    (∀ w, ¬(∃ v, present = some v ∧ pinnedWay v) →
      (match a.way with
        | some v => w = v ∧ ¬ pinnedWay v
        | none => match present with
          | some v => w = v
          | none => (s.cacheSet set).chooseWay = some w) →
      let chosen := match a.port with
        | some p => if (s.port p).state = .up ∧ (s.cell a.target p).state = .good then some p else none
        | none => s.selectFor a.session a.target
      (chosen = none → exec .pin s = .next (s.setLink (s.answeredLink rest ⟨12, .notGood, .none⟩))) ∧
      (∀ p, chosen = some p →
        ∃ t, exec .pin s = .next t ∧ t.link = s.answeredLink rest ⟨12, .done, .pinned w p⟩ ∧
          t.entryAt ⟨set, w⟩ = some ⟨a.session, a.target, some p, 0, false, none⟩ ∧
          (∀ v, v ≠ w → t.entryAt ⟨set, v⟩ = if present = some v then none else s.entryAt ⟨set, v⟩) ∧
          (∀ pl : Place, pl.set ≠ set → t.entryAt pl = s.entryAt pl) ∧
          ((t.cacheSet set).root, (t.cacheSet set).left, (t.cacheSet set).right) =
            (((s.cacheSet set).use w).root, ((s.cacheSet set).use w).left, ((s.cacheSet set).use w).right)))

/-- R41: FLUSH invalidates every idle entry, keeps every pinned one, moves no pointer, and is answered DONE with the number of valid
entries that remain, which is the number of pinned entries, 0 to 256. -/
def Obligations.FlushKeepsPinnedEntries : Prop :=
  ∀ (s : State) (rest : List HostFrame), s.RequestAtHead 13 [] rest →
    let pinned := (allPlaces.filter (fun pl => (s.entryAt pl).any (fun e => decide (0 < e.count)))).length
    ∃ t, exec .flush s = .next t ∧ t.link = s.answeredLink rest ⟨13, .done, .flushed pinned⟩ ∧ pinned ≤ 256 ∧
      (∀ pl e, s.entryAt pl = some e → t.entryAt pl = if e.count = 0 then none else some e) ∧
      (∀ pl, s.entryAt pl = none → t.entryAt pl = none) ∧
      (∀ i, (t.cacheSet i).root = (s.cacheSet i).root ∧ (t.cacheSet i).left = (s.cacheSet i).left ∧
        (t.cacheSet i).right = (s.cacheSet i).right)

/-! ## The host's control of ports and exchanges (chapters 1 and 4) -/

/-- PORT OFF immediate, and graceful where there is no working link (R71, R73): an UP or QUIESCING port loses its link and is OFF;
one that is DOWN, TRAINING or RESET is OFF with its timers cancelled and the bar clear, and a port-loss item is offered if it has
work. PORT OFF graceful in UP: QUIESCING, with the quiesce mark on every entry that names the port and nothing else changed, and
with nothing outstanding on into OFF. Each change of state is reported (R75). The rest is WRONG STATE. -/
def Obligations.PortOffRequests : Prop :=
  ∀ (s : State) (p : PortId) (rest : List HostFrame), s.raised = [] →
    let x := s.port p
    let refused := fun (c : Instr) => exec c s = .next (s.setLink (s.answeredLink rest ⟨14, .wrongState, .none⟩))
    let answered := fun (t : State) => t.link.ingress = rest ∧ t.link.replies = s.link.replies ++ [⟨14, .done, .none⟩]
    let unlinkedOff := fun (c : Instr) => ∃ t, exec c s = .next t ∧ answered t ∧
      s.PortSet t p { x with state := .off, retryBar := false, trainingEnds := none, holdEnds := none } ∧
      (s.hasWork p → .portLoss p s.timeBase ∈ t.failover.work) ∧ (¬ s.hasWork p → t.failover = s.failover) ∧
      s.reportedBy t ∧ s.notifies t (.portChange p x.state .off x.identity .offRequested)
    (s.RequestAtHead 14 [BitVec.ofNat 8 p.val, 1#8] rest →
      (x.state = .off → refused .portOffImmediate) ∧
      (x.state = .down ∨ x.state = .training ∨ x.state = .reset → unlinkedOff .portOffImmediate) ∧
      (x.state = .up ∨ x.state = .quiescing → ∃ t, exec .portOffImmediate s = .next t ∧ answered t ∧ s.LinkLost t p ∧
        (t.port p).state = .off ∧ (t.port p).retryBar = false ∧ (t.port p).trainingEnds = none ∧ (t.port p).holdEnds = none ∧
        s.notifies t (.portChange p x.state .off x.identity .offRequested))) ∧
    (s.RequestAtHead 14 [BitVec.ofNat 8 p.val, 0#8] rest →
      (x.state = .off ∨ x.state = .quiescing → refused .portOffGraceful) ∧
      (x.state = .down ∨ x.state = .training ∨ x.state = .reset → unlinkedOff .portOffGraceful) ∧
      (x.state = .up → s.outstanding p ≠ [] → ∃ t, exec .portOffGraceful s = .next t ∧ answered t ∧
        t.port p = { x with state := .quiescing } ∧ s.otherPorts t p ∧ t.routes = s.routes ∧ s.sameTable t ∧ t.ready p = [] ∧
        t.failover = s.failover ∧
        (∀ pl, (t.entryAt pl).map (fun e => { e with verdictMark := none }) = (s.entryAt pl).map (fun e =>
          { e with verdictMark := none, quiesceMark := e.quiesceMark || decide (e.port = some p) })) ∧
        s.reportedBy t ∧ s.notifies t (.portChange p .up .quiescing x.identity .quiesceRequested)) ∧
      (x.state = .up → s.outstanding p = [] → ∃ t, exec .portOffGraceful s = .next t ∧ answered t ∧ s.LinkLost t p ∧
        (t.port p).state = .off ∧ (t.port p).retryBar = false ∧
        s.notifies t (.portChange p .up .quiescing x.identity .quiesceRequested)))

/-- PORT ON (R74): an OFF port enters DOWN, or TRAINING where signal is present; a QUIESCING port is UP again, without its quiesce
marks, and a placement item stands for each target with a GOOD cell there and an exchange HELD; elsewhere WRONG STATE. RESET PORT
(R70) is DONE in every state of the port: RESET with a full hold and the bar clear; a working link is lost, and a port found OFF,
DOWN or TRAINING offers a port-loss item if it has work. In RESET only the hold starts again. Each change of state is reported (R75).
That a return from QUIESCING to UP keeps the integrity history and the silence timer is the model's choice (log 21). -/
def Obligations.PortOnAndResetRequests : Prop :=
  (∀ (s : State) (p : PortId) (rest : List HostFrame), s.raised = [] → s.RequestAtHead 15 [BitVec.ofNat 8 p.val] rest →
    let x := s.port p
    let answered := fun (t : State) => t.link.ingress = rest ∧ t.link.replies = s.link.replies ++ [⟨15, .done, .none⟩]
    (x.state = .off → ∃ t, exec .portOn s = .next t ∧ answered t ∧ t.failover = s.failover ∧
      s.PortSet t p (if x.signal = true ∧ x.retryBar = false then
          { x with state := .training, trainingEnds := some (s.timeBase + ms (trainingWait s.config)) }
        else { x with state := .down }) ∧
      s.reportedBy t ∧ s.notifies t (.portChange p .off .down x.identity .onRequested)) ∧
    (x.state = .quiescing → ∃ t, exec .portOn s = .next t ∧ answered t ∧ t.port p = { x with state := .up } ∧ s.otherPorts t p ∧
      t.routes = s.routes ∧ s.sameTable t ∧
      (∀ pl, (t.entryAt pl).map (fun e => { e with verdictMark := none }) = (s.entryAt pl).map (fun e =>
        { e with verdictMark := none, quiesceMark := e.quiesceMark && !decide (e.port = some p) })) ∧
      (∀ y ∈ allTargets, (s.cell y p).state = .good → s.someHeld y = true → .placement y ∈ t.failover.work) ∧
      s.reportedBy t ∧ s.notifies t (.portChange p .quiescing .up x.identity .onRequested)) ∧
    (x.state ≠ .off → x.state ≠ .quiescing →
      exec .portOn s = .next (s.setLink (s.answeredLink rest ⟨15, .wrongState, .none⟩)))) ∧
  (∀ (s : State) (p : PortId) (rest : List HostFrame), s.raised = [] → s.RequestAtHead 16 [BitVec.ofNat 8 p.val] rest →
    let x := s.port p
    let hold := some (s.timeBase + ms (portResetHold s.config))
    let entered := { x with state := .reset, retryBar := false, trainingEnds := none, holdEnds := hold }
    let answered := fun (t : State) => t.link.ingress = rest ∧ t.link.replies = s.link.replies ++ [⟨16, .done, .none⟩]
    (x.state = .up ∨ x.state = .quiescing → ∃ t, exec .resetPort s = .next t ∧ answered t ∧ s.LinkLost t p ∧
      (t.port p).state = .reset ∧ (t.port p).retryBar = false ∧ (t.port p).trainingEnds = none ∧ (t.port p).holdEnds = hold ∧
      s.notifies t (.portChange p x.state .reset x.identity .resetRequested)) ∧
    (x.state = .off ∨ x.state = .down ∨ x.state = .training → ∃ t, exec .resetPort s = .next t ∧ answered t ∧ s.PortSet t p entered ∧
      s.reportedBy t ∧ (s.hasWork p → .portLoss p s.timeBase ∈ t.failover.work) ∧ (¬ s.hasWork p → t.failover = s.failover) ∧
      s.notifies t (.portChange p x.state .reset x.identity .resetRequested)) ∧
    (x.state = .reset → ∃ t, exec .resetPort s = .next t ∧ t.link = s.answeredLink rest ⟨16, .done, .none⟩ ∧ s.PortSet t p entered ∧
      t.failover = s.failover ∧ t.row = s.row ∧ t.view = s.view))

/-- END and CANCEL (R23, R24) reach the oldest open exchange under the host reference. NOT FOUND where there is none, UNSAFE for a
SINGLE-SHOT exchange that has been sent, each with nothing changed. END decides CANCELLED; CANCEL frees the slot at the tail of the
free list with its generation advanced and no result. No miss is reported. The exact table is stated where no QUIESCING port is
emptied. -/
def Obligations.EndAndCancelReachTheOldest : Prop :=
  ∀ (s : State) (h : Word32) (rest : List HostFrame) (code : Byte) (c : Instr),
    (code = 17 ∧ c = .endExchange) ∨ (code = 18 ∧ c = .cancel) → s.raised = [] → s.RequestAtHead code (bytesOf 4 h.toNat) rest →
    let answers := fun (status : ReplyStatus) => exec c s = .next (s.setLink (s.answeredLink rest ⟨code, status, .none⟩))
    ((∀ i ∈ s.ex.order, ∀ e, s.live i = some e → e.hostRef ≠ h) → answers .notFound) ∧
    (∀ before i after e, s.ex.order = before ++ i :: after → (∀ j ∈ before, ∀ x, s.live j = some x → x.hostRef ≠ h) →
      s.live i = some e → e.hostRef = h →
      (e.cls ≠ 1#8 → e.everSent = true → answers .unsafeToEnd) ∧
      (e.cls = 1#8 ∨ e.everSent = false → ∃ t, exec c s = .next t ∧
        t.link.ingress = rest ∧ t.link.replies = s.link.replies ++ [⟨code, .done, .none⟩] ∧
        i ∉ t.ex.order ∧ (∀ q, i ∉ t.outstanding q ∧ i ∉ t.ready q ∧ i ∉ (t.port q).pendingTraces) ∧
        (s.NoDrain i → t.routes = s.routes ∧ t.row = s.row ∧ t.view = s.view) ∧
        (c = .endExchange → i ∈ t.ex.results ∧
          t.record i = ⟨(s.record i).generation, some { e with phase := .answered .cancelled, payload := [] }⟩ ∧
          (s.NoDrain i → ({ s with link := { s.link with headWait := .none } } : State).Decided t i e .cancelled [])) ∧
        (c = .cancel → t.ex.free = s.ex.free ++ [i] ∧ t.record i = ⟨(s.record i).generation + 1, none⟩ ∧
          (s.NoDrain i → t.ex.results = s.ex.results ∧ t.ex.order = s.ex.order.filter (· != i) ∧
            (∀ j, j ≠ i → t.record j = s.record j) ∧ (∀ q, t.outstanding q = (s.outstanding q).filter (· != i)) ∧
            ∀ pl x, s.findPlace e.session e.target = some pl → s.entryAt pl = some x →
              t.entryAt pl = some { x with count := x.count - 1 }))))

/-! ## Exchanges and traces (chapters 1 and 7) -/

/-- SEND_EXCHANGE (R15, R69): with a credit and no probe or trace waiting, the arbiter sends the resend that has stood longest on
the ready list, else the head. The exchange is SENT with one more attempt, up to 15, and a full RESPONSE WAIT, at the tail of the
port's outstanding list, and the REQUEST frame carries its fields and takes one credit. -/
def Obligations.TheArbiterSendsExchanges : Prop :=
  ∀ (s : State) (p : PortId) (before after : List Slot) (i : Slot) (e : Exchange),
    s.raised = [] → (s.port p).state.linked = true → 1 ≤ (s.port p).credits → (s.port p).pendingProbes = [] →
    (s.port p).pendingTraces = [] → s.ready p = before ++ i :: after → s.live i = some e →
    ((s.phase i = some (.waiting .resend) ∧ ∀ j ∈ before, s.phase j ≠ some (.waiting .resend)) ∨
      (before = [] ∧ ∀ j ∈ s.ready p, s.phase j ≠ some (.waiting .resend))) →
    let attempt := min (e.attempt + 1) 15
    ∃ t, exec (.sendExchange p) s = .next t ∧
      t.record i = ⟨(s.record i).generation, some { e with
        attempt := attempt, everSent := true, phase := .sent p (s.timeBase + ms (responseWait s.config)) s.timeBase }⟩ ∧
      (∀ j, j ≠ i → t.record j = s.record j) ∧
      (∀ q, t.outstanding q = s.outstanding q ++ (if q = p then [i] else [])) ∧ (∀ q, i ∉ t.ready q) ∧
      t.ex.order = s.ex.order ∧ t.ex.results = s.ex.results ∧ t.ex.free = s.ex.free ∧
      t.port p = { s.port p with
        credits := (s.port p).credits - 1
        lastSent := some (.request (tagOf i (s.record i).generation) e.cls e.session (BitVec.ofNat 8 e.target)
          (BitVec.ofNat 8 attempt) e.payload) } ∧
      s.otherPorts t p ∧ s.onlyIn t [.ex, .ports]

/-- TRACE_TRANSMISSION (R69, R113): with no probe waiting, the head of the pending traces goes out with the exchange's tag, target
and attempt for one credit; a trace whose exchange is gone is dropped for none. Nothing of the exchange changes. And no arbiter
sends a frame of any kind while its port holds no credit or has no link (R68). Where a command's conditions do not hold it changes
nothing: log 6. -/
def Obligations.TracesAreTransmitted : Prop :=
  (∀ (s : State) (p : PortId) (i : Slot) (rest : List Slot),
    (s.port p).state.linked = true → 1 ≤ (s.port p).credits → (s.port p).pendingProbes = [] → (s.port p).pendingTraces = i :: rest →
    (∀ e, s.live i = some e → exec (.traceTransmission p) s = .next (s.setPort p { s.port p with
      pendingTraces := rest
      credits := (s.port p).credits - 1
      lastSent := some (.trace (tagOf i (s.record i).generation) (BitVec.ofNat 8 e.target) (BitVec.ofNat 8 e.attempt)) })) ∧
    (s.live i = none → exec (.traceTransmission p) s = .next (s.setPort p { s.port p with pendingTraces := rest }))) ∧
  (∀ (s : State) (p : PortId), (s.port p).credits = 0 ∨ (s.port p).state.linked = false →
    exec (.sendExchange p) s = .next s ∧ exec (.traceTransmission p) s = .next s ∧ exec (.probeSend p) s = .next s)

/-- ANSWER_ARRIVAL (R17, R18): an ANSWER is accepted exactly when its generation is current and the exchange is open and has been
sent, whatever port it comes on and whatever attempt it answers; the exchange is COMPLETED with the ANSWER's payload, and the cell
of its target on that port, where it is monitored, has its miss count set to 0. Any other changes nothing but the silence timer, and
without a link nothing at all. -/
def Obligations.AnswersComplete : Prop :=
  ∀ (s : State) (p : PortId) (tag : Tag) (attempt : Byte) (payload : List Byte),
    s.raised = [] → payload.length ≤ 512 →
    let i := tagSlot tag
    let heard := s.setPort p { s.port p with silenceEnds := some (s.timeBase + ms (linkSilence s.config)) }
    let accepted := fun e => s.live i = some e ∧ tagGeneration tag = (s.record i).generation.val ∧ e.everSent = true ∧
      e.phase.isOpen = true
    ((s.port p).state.linked = false → exec (.answerArrival p tag attempt payload) s = .next s) ∧
    ((s.port p).state.linked = true → (∀ e, ¬ accepted e) →
      exec (.answerArrival p tag attempt payload) s = .next heard) ∧
    ((s.port p).state.linked = true → ∀ e, accepted e → s.NoDrain i → ∃ t,
      exec (.answerArrival p tag attempt payload) s = .next t ∧ s.Decided t i e .completed payload ∧
      (∀ q, t.port q = { heard.port q with pendingTraces := (t.port q).pendingTraces }) ∧
      (∀ y q, t.cell y q = if y = e.target ∧ q = p ∧ s.monitored y q = true then { s.cell y q with misses := 0 } else s.cell y q) ∧
      t.failover = s.failover ∧ t.row = s.row ∧ t.view = s.view)

/-- ANSWER_WAIT_EXPIRY (R19, R20): at its deadline a SENT exchange leaves its outstanding list, and a miss counts on its cell, if
that is monitored and was not tested since the exchange entered the port (R84). REPEATABLE: WAITING or, with its pair unplaced, HELD
for a resend below ATTEMPT LIMIT, else TIMED OUT. SINGLE-SHOT: IN DOUBT at TRACE LIMIT, else traced on the port of the trace choice
that leaves the port out (R53), made after the miss, or HELD for a trace. Moments are compared modulo 2^48 as log 16 says. Where a
command's conditions do not hold it changes nothing: log 6. -/
def Obligations.AnswerWaitsExpire : Prop :=
  ∀ (s : State) (i : Slot) (e : Exchange) (p : PortId) (deadline enteredAt : Time),
    s.raised = [] → s.live i = some e → e.phase = .sent p deadline enteredAt → s.NoDrain i →
    (reached s.timeBase deadline = false → exec (.answerWaitExpiry i) s = .next s) ∧
    (reached s.timeBase deadline = true →
      let counts := s.monitored e.target p = true ∧ ∀ since, (s.cell e.target p).testedSince = some since → isBefore enteredAt since = false
      let missed := (s.detach i).exchangeMiss e.target p enteredAt
      ∃ t, exec (.answerWaitExpiry i) s = .next t ∧
        (counts → s.Missed t e.target p) ∧ (¬ counts → t.routes = s.routes ∧ t.row = s.row ∧ t.view = s.view) ∧
        (if e.cls = 1#8 then
          if e.attempt < attemptLimit s.config then
            s.Moved t i { e with phase :=
              if (s.pairPort e.session e.target).isSome then .waiting .resend else s.heldNow .resend }
          else s.Decided t i e .timedOut []
        else if traceLimit s.config ≤ e.traces then s.Decided t i e .inDoubt []
        else match missed.traceChoice e.target (some p) with
          | some q => s.Moved t i { e with traces := e.traces + 1, phase := .tracing q (s.timeBase + ms (traceWait s.config)) s.timeBase }
          | none => s.Moved t i { e with phase := s.heldNow .trace }))

/-- HOLD_EXPIRY (R22): at the end of its hold limit a HELD exchange is NO PATH for FIRST SEND and RESEND, and IN DOUBT for TRACE;
before it, and in any other state, nothing happens. TRACE_WAIT_EXPIRY (R122): at its deadline the trace is unanswered: IN DOUBT at
TRACE LIMIT, else the next trace on the port of the trace choice that leaves out the port that gave no reply (R53), or HELD for a
trace. No miss is reported. Moments are compared modulo 2^48 as log 16 says. Where a command's conditions do not hold it changes
nothing: log 6. -/
def Obligations.HoldsAndTraceWaitsExpire : Prop :=
  (∀ (s : State) (i : Slot), s.raised = [] →
    (∀ e action deadline, s.live i = some e → e.phase = .held action deadline →
      (reached s.timeBase deadline = true → ∃ t, exec (.holdExpiry i) s = .next t ∧
        s.Decided t i e (if action = .trace then .inDoubt else .noPath) [] ∧ s.onlyIn t [.link, .ex, .cache, .ports]) ∧
      (reached s.timeBase deadline = false → exec (.holdExpiry i) s = .next s)) ∧
    ((∀ e action deadline, s.live i = some e → e.phase ≠ .held action deadline) → exec (.holdExpiry i) s = .next s)) ∧
  (∀ (s : State) (i : Slot) (e : Exchange) (p : PortId) (deadline enteredAt : Time),
    s.raised = [] → s.live i = some e → e.phase = .tracing p deadline enteredAt → s.NoDrain i →
    (reached s.timeBase deadline = false → exec (.traceWaitExpiry i) s = .next s) ∧
    (reached s.timeBase deadline = true → ∃ t, exec (.traceWaitExpiry i) s = .next t ∧
      t.routes = s.routes ∧ t.row = s.row ∧ t.view = s.view ∧
      (if traceLimit s.config ≤ e.traces then s.Decided t i e .inDoubt []
        else match (s.detach i).traceChoice e.target (some p) with
          | some q => s.Moved t i { e with traces := e.traces + 1, phase := .tracing q (s.timeBase + ms (traceWait s.config)) s.timeBase }
          | none => s.Moved t i { e with phase := s.heldNow .trace })))

/-- TRACE_REPLY_ARRIVAL (R117 to R120): a reply is accepted while the exchange is TRACING under its generation and, but for DONE, at
its attempt; then the trace ends and the cell it came on is alive. DONE completes the exchange with the payload; WORKING makes it
SENT on the port with a new answer wait; NOT SEEN ends the episode and makes a resend due, or at ATTEMPT LIMIT is TIMED OUT. -/
def Obligations.TraceRepliesSettle : Prop :=
  ∀ (s : State) (p : PortId) (tag : Tag) (attempt : Byte) (finding : Finding) (payload : List Byte),
    s.raised = [] → tracePayloadWf finding payload = true →
    let i := tagSlot tag
    let c : Instr := .traceReplyArrival p tag attempt finding payload
    let accepted := fun e => s.live i = some e ∧ tagGeneration tag = (s.record i).generation.val ∧
      (∃ q d at_, e.phase = .tracing q d at_) ∧ (finding = .done ∨ attempt.toNat = e.attempt)
    ((s.port p).state.linked = false → exec c s = .next s) ∧
    ((s.port p).state.linked = true → (∀ e, ¬ accepted e) →
      exec c s = .next (s.setPort p { s.port p with silenceEnds := some (s.timeBase + ms (linkSilence s.config)) })) ∧
    ((s.port p).state.linked = true → ∀ e, accepted e → s.NoDrain i (if finding = .working then some p else none) →
      ∃ t, exec c s = .next t ∧
        (∀ y q, t.cell y q = if y = e.target ∧ q = p ∧ s.monitored y q = true then { s.cell y q with misses := 0 } else s.cell y q) ∧
        (t.port p).silenceEnds = some (s.timeBase + ms (linkSilence s.config)) ∧ t.row = s.row ∧ t.view = s.view ∧
        match finding with
        | .done => s.Decided t i e .completed payload
        | .working => s.Moved t i { e with phase := .sent p (s.timeBase + ms (responseWait s.config)) s.timeBase }
        | .notSeen =>
          if e.attempt < attemptLimit s.config then
            s.Moved t i { e with
              traces := 0
              phase := if (s.pairPort e.session e.target).isSome then .waiting .resend else s.heldNow .resend }
          else s.Decided t i { e with traces := 0 } .timedOut [])

/-- R72: a QUIESCING port enters OFF at the event that empties its outstanding list, be it an answer, an expiry, a finding, an END, a
CANCEL or a step of the walk, and loses its link, with the change reported (R75). That a miss or an alive cell of the same event acts
before the port enters OFF is the model's choice (log 22). Moments are compared modulo 2^48 as log 16 says. -/
def Obligations.DrainedPortsEnterOff : Prop :=
  ∀ (s : State) (q : PortId) (i : Slot) (e : Exchange), s.raised = [] → (s.port q).state = .quiescing → s.outstanding q = [i] →
    (∀ r, r ≠ q → i ∉ s.outstanding r) → s.live i = some e → e.everSent = true →
    let tag := tagOf i (s.record i).generation
    let drains := fun (c : Instr) => ∃ t, exec c s = .next t ∧ (t.port q).state = .off ∧ (t.port q).credits = 0 ∧
      (t.port q).silenceEnds = none ∧ t.outstanding q = [] ∧ t.ready q = [] ∧ .portLoss q s.timeBase ∈ t.failover.work ∧
      (∀ x ∈ allTargets, x ∈ (s.port q).reach → (t.cell x q).state = .lost) ∧ s.reportedBy t ∧
      s.notifies t (.portChange q .quiescing .off (s.port q).identity .drained)
    (∀ p attempt payload, e.phase.isOpen = true → (s.port p).state.linked = true → payload.length ≤ 512 →
      drains (.answerArrival p tag attempt payload)) ∧
    (∀ d at_, e.phase = .sent q d at_ → reached s.timeBase d = true → drains (.answerWaitExpiry i)) ∧
    (∀ d at_, e.phase = .tracing q d at_ → reached s.timeBase d = true → drains (.traceWaitExpiry i)) ∧
    (∀ p d at_ attempt payload, e.phase = .tracing q d at_ → (s.port p).state.linked = true → payload.length ≤ 512 →
      drains (.traceReplyArrival p tag attempt .done payload)) ∧
    (∀ p d at_ attempt, e.phase = .tracing q d at_ → (s.port p).state.linked = true → attempt.toNat = e.attempt →
      drains (.traceReplyArrival p tag attempt .notSeen []) ∧ (p ≠ q → drains (.traceReplyArrival p tag attempt .working []))) ∧
    (∀ rest, s.ex.order.head? = some i → e.cls = 1#8 → e.phase.isOpen = true →
      (s.RequestAtHead 17 (bytesOf 4 e.hostRef.toNat) rest → drains .endExchange) ∧
      (s.RequestAtHead 18 (bytesOf 4 e.hostRef.toNat) rest → drains .cancel)) ∧
    (∀ scope horizon d at_, s.station.state ≠ .loading → s.failover.current = some (.walk scope horizon) → scope.portOf = q →
      e.phase = .sent q d at_ ∨ e.phase = .tracing q d at_ → scope.covers e.target = true → isBefore at_ horizon = true →
      drains .walkStep)

/-! ## Fabric ports (chapters 4 and 12) -/

/-- Signal and training. SIGNAL_ARRIVING and PORT_RESET_HOLD_EXPIRY (R60, R70): signal arriving in DOWN with the bar clear is a
detection, and so is the entry into DOWN at the end of the hold while signal is present; in every other state, and while the station
is LOADING, a port only notes the signal. The two ways out of TRAINING without an offer (R61), and a signal lost in DOWN, OFF or
RESET (R60). Each change of state is reported (R75). Moments are compared modulo 2^48 as log 16 says. Where a command's conditions
do not hold it changes nothing: log 6. -/
def Obligations.SignalAndTraining : Prop :=
  (∀ (s : State) (p : PortId), s.raised = [] →
    let x := s.port p
    let ends := some (s.timeBase + ms (trainingWait s.config))
    (x.state = .down → x.retryBar = false → x.signal = false → s.station.state ≠ .loading →
      ∃ t, exec (.signalArriving p) s = .next t ∧ t.failover = s.failover ∧
        s.PortSet t p { x with state := .training, signal := true, trainingEnds := ends } ∧
        s.reportedBy t ∧ s.notifies t (.portChange p .down .training x.identity .detected)) ∧
    (x.state ≠ .down ∨ x.retryBar = true ∨ x.signal = true ∨ s.station.state = .loading →
      ∃ t, exec (.signalArriving p) s = .next t ∧ s.PortSet t p { x with signal := true } ∧ s.onlyIn t [.ports, .ex]) ∧
    (x.state = .reset → expired s.timeBase x.holdEnds = true →
      ∃ t, exec (.portResetHoldExpiry p) s = .next t ∧ t.failover = s.failover ∧
        s.PortSet t p (if x.signal = true ∧ x.retryBar = false
          then { x with state := .training, holdEnds := none, trainingEnds := ends }
          else { x with state := .down, holdEnds := none }) ∧
        s.reportedBy t ∧ s.notifies t (.portChange p .reset .down x.identity .holdExpired)) ∧
    (x.state ≠ .reset ∨ expired s.timeBase x.holdEnds = false → exec (.portResetHoldExpiry p) s = .next s)) ∧
  (∀ (s : State) (p : PortId), s.raised = [] →
    let x := s.port p
    (x.state = .training → expired s.timeBase x.trainingEnds = true →
      ∃ t, exec (.trainingWaitExpiry p) s = .next t ∧ t.failover = s.failover ∧
        s.PortSet t p { x with state := .down, trainingEnds := none, retryBar := true } ∧
        s.reportedBy t ∧ s.notifies t (.portChange p .training .down x.identity .trainingExpired)) ∧
    (x.state ≠ .training ∨ expired s.timeBase x.trainingEnds = false → exec (.trainingWaitExpiry p) s = .next s) ∧
    (x.state = .training → ∃ t, exec (.signalLost p) s = .next t ∧ t.failover = s.failover ∧
        s.PortSet t p { x with state := .down, trainingEnds := none, signal := false, retryBar := false } ∧
        s.reportedBy t ∧ s.notifies t (.portChange p .training .down x.identity .signalLost)) ∧
    (x.state = .down ∨ x.state = .off ∨ x.state = .reset →
      exec (.signalLost p) s = .next (s.setPort p { x with signal := false, retryBar := false })))

/-- The losses of a working link to DOWN (R65 to R67): signal lost, LINK SILENCE expired, and the eighth damaged frame within 10 ms,
each with its cause; with signal still present the port passes on into TRAINING (R60). At every loss of a link the pending traces are
handed back one after another: the count is lowered, and the trace is taken as unanswered (R122), with its port chosen after those
before it. Moments are compared modulo 2^48 as log 16 says. Where a command's conditions do not hold it changes nothing: log 6. -/
def Obligations.LinksAreLost : Prop :=
  (∀ (s : State) (p : PortId) (entered : PortState) (before after : List Slot) (i : Slot) (e : Exchange),
    (s.port p).pendingTraces = before ++ i :: after → (s.port p).pendingTraces.Nodup → s.live i = some e →
    let u := before.foldl (State.handBack p) (s.cutLink p entered)
    let t := (u.handBack p i).close
    let traces := e.traces - 1
    (s.dropLink p entered).record i = t.record i ∧
    (if traceLimit s.config ≤ traces then u.Decided t i { e with traces := traces } .inDoubt []
      else match (u.detach i).traceChoice e.target (some p) with
        | some q => u.Moved t i { e with
            traces := traces + 1, phase := .tracing q (s.timeBase + ms (traceWait s.config)) s.timeBase }
        | none => u.Moved t i { e with traces := traces, phase := s.heldNow .trace })) ∧
  ∀ (s : State) (p : PortId), s.raised = [] → (s.port p).state.linked = true →
    let x := s.port p
    let falls := fun (c : Instr) (cause : PortCause) (signal : Bool) => ∃ t, exec c s = .next t ∧ s.LinkLost t p ∧
      (t.port p).signal = signal ∧
      (signal = true ∧ x.retryBar = false →
        (t.port p).state = .training ∧ (t.port p).trainingEnds = some (s.timeBase + ms (trainingWait s.config))) ∧
      (signal = false ∨ x.retryBar = true → (t.port p).state = .down) ∧
      s.notifies t (.portChange p x.state .down x.identity cause)
    falls (.signalLost p) .signalLost false ∧
    (expired s.timeBase x.silenceEnds = true → falls (.linkSilenceExpiry p) .silence x.signal) ∧
    (expired s.timeBase x.silenceEnds = false → exec (.linkSilenceExpiry p) s = .next s) ∧
    (7 ≤ (x.history.filter (fun at_ => (elapsed s.timeBase at_).toNat ≤ 10000)).length →
      falls (.damagedFrame p) .integrity x.signal)

/-- DAMAGED_FRAME short of the eighth (R66): in UP and QUIESCING the times more than 10 ms older leave the history and the arrival
joins it; in other states nothing is entered. The frames that R169 fails count as damaged frames whatever their kind. CREDIT and
idle ticks (R64, R65, R68): on a working link each restarts LINK SILENCE, and a CREDIT adds its count, up to 64 in all; without a
link these frames, ECHO and REACH are discarded. -/
def Obligations.FramesFromTheSwitch : Prop :=
  (∀ (s : State) (p : PortId), s.raised = [] →
    let kept := (s.port p).history.filter (fun at_ => (elapsed s.timeBase at_).toNat ≤ 10000)
    ((s.port p).state.linked = true → kept.length < 7 → ∃ t, exec (.damagedFrame p) s = .next t ∧
      s.PortSet t p { s.port p with history := kept ++ [s.timeBase] } ∧ s.onlyIn t [.ports, .ex]) ∧
    ((s.port p).state.linked = false → ∃ t, exec (.damagedFrame p) s = .next t ∧ s.sameTable t ∧ s.onlyIn t [.ex]) ∧
    (∀ tag attempt payload, 512 < payload.length →
      exec (.answerArrival p tag attempt payload) s = exec (.damagedFrame p) s) ∧
    (∀ tag attempt finding payload, tracePayloadWf finding payload = false →
      exec (.traceReplyArrival p tag attempt finding payload) s = exec (.damagedFrame p) s) ∧
    (∀ target number : Byte, target.toNat = 0 ∨ 63 < target.toNat → exec (.echo p target number) s = exec (.damagedFrame p) s)) ∧
  (∀ (s : State) (p : PortId) (count : Byte),
    let ends := some (s.timeBase + ms (linkSilence s.config))
    ((s.port p).state.linked = true →
      exec (.fabricCreditArrival p count) s = .next (s.setPort p { s.port p with
        silenceEnds := ends, credits := min ((s.port p).credits + count.toNat) 64 }) ∧
      exec (.idleTick p) s = .next (s.setPort p { s.port p with silenceEnds := ends })) ∧
    ((s.port p).state.linked = false →
      exec (.fabricCreditArrival p count) s = .next s ∧ exec (.idleTick p) s = .next s ∧
      (∀ reachList, exec (.reach p reachList) s = .next s) ∧
      (∀ target number : Byte, 1 ≤ target.toNat → target.toNat ≤ 63 → exec (.echo p target number) s = .next s)))

/-- LINK_OFFER (R61 to R63, R67): valid with switch identity 1 to 15 and grant 1 to 64. In TRAINING a valid offer trains the port;
in UP or QUIESCING it is a switch restart: the link is lost with its port-loss item, and the offer is the first of the new training.
Each change of state is reported (R75), and the port's ready list is filled in order of admission, at a restart too (R6). An invalid
offer is discarded, with the silence timer restarted on a working link; in DOWN, OFF and RESET every offer is. -/
def Obligations.LinkOffersTrainPorts : Prop :=
  ∀ (s : State) (p : PortId) (identity grant : Byte) (reachList : BitVec 64), s.raised = [] →
    let x := s.port p
    let c : Instr := .linkOffer p identity grant reachList
    let inOrder := fun t : State => t.ready p = t.ex.order.filter (fun i => decide (t.sendable i = some p))
    let valid := 1 ≤ identity.toNat ∧ identity.toNat ≤ 15 ∧ 1 ≤ grant.toNat ∧ grant.toNat ≤ 64
    (x.state = .training → valid → x.pendingProbes = [] → ∃ t, exec c s = .next t ∧ s.Trained t p identity grant reachList ∧
      (t.port p).pendingTraces = x.pendingTraces ∧ s.otherPorts t p ∧ s.sameTable t ∧ s.samePlacements t ∧ t.failover = s.failover ∧
      s.reportedBy t ∧ (s.ready p = [] → inOrder t) ∧
      s.notifies t (.portChange p .training .up (some identity.toNat) .trained)) ∧
    (x.state = .training → ¬ valid → exec c s = .next s) ∧
    (x.state = .up ∨ x.state = .quiescing → valid → x.signal = true → x.retryBar = false → ∃ t, exec c s = .next t ∧
      s.Trained t p identity grant reachList ∧ (t.port p).pendingTraces = [] ∧ .portLoss p s.timeBase ∈ t.failover.work ∧
      (∀ i, i ∉ x.pendingTraces → t.record i = s.record i ∧ (i ∈ t.outstanding p ↔ i ∈ s.outstanding p)) ∧
      (x.pendingTraces.Nodup → s.HandedBack t p) ∧ (s.cutLink p .down).reportCables.reportedBy t ∧ inOrder t ∧
      s.notifies t (.portChange p x.state .down x.identity .switchRestart)) ∧
    (x.state = .up ∨ x.state = .quiescing → ¬ valid →
      exec c s = .next (s.setPort p { x with silenceEnds := some (s.timeBase + ms (linkSilence s.config)) })) ∧
    (x.state = .down ∨ x.state = .off ∨ x.state = .reset → exec c s = .next s)

/-- REACH (R63, R78, R89): the list is replaced; each added target's cell is UNTESTED with a probe due, each dropped one's ABSENT,
the others as they were. A dropped cell that was GOOD or whose target the outstanding list held offers a cell-loss item, unless a
port-loss item for the port stands (R94), and the drop is noticed. The port's cable is reported where it is found lost or no longer
lost (R90). -/
def Obligations.ReachReplacesTheList : Prop :=
  ∀ (s : State) (p : PortId) (reachList : BitVec 64), s.raised = [] → (s.port p).state.linked = true →
    let x := s.port p
    let added := fun y => reachList.getLsbD y = true ∧ y ∉ x.reach
    let dropped := fun y => reachList.getLsbD y = false ∧ y ∈ x.reach
    ∃ t, exec (.reach p reachList) s = .next t ∧ s.sameTable t ∧ s.otherPorts t p ∧ s.samePlacements t ∧ s.lostnessReported t p ∧
      t.port p = { x with
        reach := reachTargets reachList, pendingProbes := (t.port p).pendingProbes
        silenceEnds := some (s.timeBase + ms (linkSilence s.config)) } ∧
      (∀ y ∈ allTargets,
        (added y → t.cell y p =
          ⟨.untested, 0, 0, 0, 0, (s.cell y p).probeNumber, none, true, none, some s.timeBase, none⟩ ∧ y ∈ (t.port p).pendingProbes) ∧
        (dropped y → t.cell y p = ⟨.absent, 0, 0, 0, 0, (s.cell y p).probeNumber, none, false, none, none, none⟩ ∧
          y ∉ (t.port p).pendingProbes) ∧
        (¬ added y → ¬ dropped y → t.cell y p = s.cell y p) ∧
        (dropped y → (s.cell y p).state = .good ∨ s.carries y p = true →
          .cellLoss y p ∈ t.failover.work ∨ s.portLossStands p = true)) ∧
      (∀ y q, q ≠ p → t.cell y q = s.cell y q) ∧
      (∀ y ∈ allTargets, dropped y → (s.cell y p).state ≠ .absent → (∀ z ∈ allTargets, z < y → ¬ dropped z) →
        s.notifies t (.cellChange y p (s.cell y p).state .absent .dropped 0 0))

/-! ## Route monitoring (chapter 5) -/

/-- PROBE_DUE and PROBE_SEND (R81, R82): a probe falls due for a monitored cell, with none in flight or pending, at its interval
after the last send: floor(BASE PROBE INTERVAL / 2^step) ms, 1 ms where that is 0, and that of step 0 for a LOST cell. The arbiter
sends the head of the pending probes with the next probe number, for one credit, and its PROBE WAIT starts. PROBE_WAIT_EXPIRY (R82,
R84): the probe in flight is resolved as a miss, which counts on a monitored cell. Moments are compared modulo 2^48 as log 16 says.
Where a command's conditions do not hold it changes nothing: log 6. -/
def Obligations.ProbesFallDueGoOutAndMiss : Prop :=
  ((∀ (s : State) (y : Nat) (p : PortId) (sentAt : Time),
    let x := s.cell y p
    let k := if x.state = .lost then 0 else x.step
    let interval := if baseProbeInterval s.config / 2 ^ k = 0 then 1 else baseProbeInterval s.config / 2 ^ k
    x.state ≠ .absent → (s.port p).state.linked = true → x.inFlight = none → x.pending = false → x.lastSend = some sentAt →
    y ∉ (s.port p).pendingProbes →
    (reached s.timeBase (sentAt + ms interval) = true → exec (.probeDue y p) s = .next ((s.setCell y p { x with pending := true }).setPort p
      { s.port p with pendingProbes := (s.port p).pendingProbes ++ [y] })) ∧
    (reached s.timeBase (sentAt + ms interval) = false → exec (.probeDue y p) s = .next s)) ∧
  (∀ (s : State) (y : Nat) (p : PortId) (rest : List Nat), y ∈ allTargets →
    (s.port p).state.linked = true → 1 ≤ (s.port p).credits → (s.port p).pendingProbes = y :: rest →
    let x := s.cell y p
    exec (.probeSend p) s = .next ((s.setCell y p { x with
        probeNumber := x.probeNumber + 1, pending := false, lastSend := some s.timeBase
        inFlight := some ⟨s.timeBase, s.timeBase + ms (probeWait s.config)⟩ }).setPort p { s.port p with
      pendingProbes := rest, credits := (s.port p).credits - 1, lastSent := some (.probe (BitVec.ofNat 8 y) (x.probeNumber + 1)) }))) ∧
  (∀ (s : State) (y : Nat) (p : PortId), s.raised = [] →
    (∀ flight, (s.cell y p).inFlight = some flight →
      (reached s.timeBase flight.waitEnds = false → exec (.probeWaitExpiry y p) s = .next s) ∧
      (reached s.timeBase flight.waitEnds = true → ∃ t, exec (.probeWaitExpiry y p) s = .next t ∧ (t.cell y p).inFlight = none ∧
        s.sameTable t ∧ s.samePlacements t ∧
        (s.monitored y p = true → s.Missed t y p) ∧
        (s.monitored y p = false → t.cell y p = { s.cell y p with inFlight := none } ∧ t.row = s.row ∧ t.view = s.view))) ∧
    ((s.cell y p).inFlight = none → exec (.probeWaitExpiry y p) s = .next s))

/-- ECHO (R82, R83, R86, R88): one that matches its cell's probe in flight resolves it. The step rises after a slow echo, up to 3,
and falls at the eighth quiet echo in a row, down to 0; the miss count is 0; an UNTESTED cell is GOOD, and a LOST one at RECOVER
COUNT, with its notice, and a placement item stands where an exchange of the target is HELD. The port's cable is reported where it
is no longer lost (R90). Any other ECHO is ignored. -/
def Obligations.EchoesResolveProbes : Prop :=
  ∀ (s : State) (p : PortId) (target number : Byte), s.raised = [] → 1 ≤ target.toNat → target.toNat ≤ 63 →
    (s.port p).state.linked = true →
    let y := target.toNat
    let x := s.cell y p
    let heard := s.setPort p { s.port p with silenceEnds := some (s.timeBase + ms (linkSilence s.config)) }
    (x.inFlight = none ∨ x.probeNumber ≠ number → exec (.echo p target number) s = .next heard) ∧
    (∀ flight, x.inFlight = some flight → x.probeNumber = number →
      let latency := elapsed s.timeBase flight.sentAt
      let slow := slowLatency s.config * 1000 < latency.toNat
      let quiet := ¬ slow ∧ latency.toNat ≤ quietLatency s.config * 1000
      let eighth := quiet ∧ 8 ≤ x.quiet + 1
      let recovers := x.state = .lost ∧ recoverCount s.config ≤ x.recovery + 1
      ∃ t, exec (.echo p target number) s = .next t ∧
        (slow → (t.cell y p).step = min (x.step + 1) 3 ∧ (t.cell y p).quiet = 0) ∧
        (eighth → (t.cell y p).step = x.step - 1 ∧ (t.cell y p).quiet = 0) ∧
        (quiet → ¬ eighth → (t.cell y p).step = x.step ∧ (t.cell y p).quiet = x.quiet + 1) ∧
        (¬ slow → ¬ quiet → (t.cell y p).step = x.step ∧ (t.cell y p).quiet = 0) ∧
        (t.cell y p).misses = 0 ∧ (t.cell y p).latency = some latency ∧ (t.cell y p).inFlight = none ∧
        (t.cell y p).probeNumber = x.probeNumber ∧ (t.cell y p).lastSend = x.lastSend ∧ (t.cell y p).testedSince = x.testedSince ∧
        (t.cell y p).state = (if x.state = .untested ∨ recovers then .good else x.state) ∧
        (t.cell y p).recovery = (if recovers then 0 else if x.state = .lost then x.recovery + 1 else x.recovery) ∧
        (∀ z q, ¬(z = y ∧ q = p) → t.cell z q = s.cell z q) ∧ s.sameTable t ∧ s.samePlacements t ∧ s.lostnessReported t p ∧
        (x.state = .untested ∨ recovers → s.someHeld y = true → .placement y ∈ t.failover.work) ∧
        (recovers → s.notifies t (.cellChange y p .lost .good .recovered (t.cell y p).step 0)))

/-! ## Failover and migration (chapter 6) -/

/-- WORK_ITEM_TAKEN_UP (R96, R97, R105): the idle engine takes the head of the list. A port-loss item begins its walk with its
horizon; a cell-loss item is finished at once where its cell is GOOD, and else begins its walk with the present moment as its
horizon; a placement item begins its pair phase with the unplaced entries of its target, or where there are none its held phase. A
busy engine and an empty list change nothing. That a cell-loss item with an UNTESTED cell runs, and that an empty phase is passed
through in the same step, is the model's reading (logs 11, 12 and 19). Where a command's conditions do not hold it changes nothing:
log 6. -/
def Obligations.WorkItemsAreTakenUp : Prop :=
  ∀ (s : State) (rest : List WorkItem), s.station.state ≠ .loading → s.failover.current = none →
    let takes := fun (current : Option InProgress) => exec .workItemTakenUp s = .next (s.setFailover ⟨rest, current⟩)
    (∀ p horizon, s.failover.work = .portLoss p horizon :: rest → takes (some (.walk (.port p) horizon))) ∧
    (∀ y p, s.failover.work = .cellLoss y p :: rest →
      takes (if (s.cell y p).state = .good then none else some (.walk (.cell y p) s.timeBase))) ∧
    (∀ y, s.failover.work = .placement y :: rest →
      let unplaced := (allPlaces.filterMap (fun pl => (s.entryAt pl).bind (fun e =>
        if e.target = y ∧ e.port = none then some (⟨pl, e.session, e.target⟩ : EntryRef) else none)))
      let held := (s.ex.order.filter (fun i => (s.live i).any (fun e =>
        e.target == y && e.isHeld && (s.pairPort e.session e.target).isSome))).map (fun i => (⟨i, (s.record i).generation⟩ : HeldRef))
      takes (if unplaced ≠ [] then some (.pairs y unplaced) else if held ≠ [] then some (.held y held) else none)) ∧
    (s.failover.work = [] → exec .workItemTakenUp s = .next s) ∧
    (∀ item, exec .workItemTakenUp (s.setFailover { s.failover with current := some item }) =
      .next (s.setFailover { s.failover with current := some item }))

/-- A re-placement (R34, R98 to R100) of a pair with an entry: with a port named, the entry names it without drain marks and every
HELD exchange of the pair is WAITING with its action, or traced on that port; with none, the entry names none and every WAITING
exchange of the pair is HELD with its action and a full HOLD LIMIT. Every other exchange and entry stands, and so do the tree
pointers. -/
def Obligations.ReplacementsMoveThePair : Prop :=
  ∀ (s : State) (session : Word32) (target : Nat) (pl : Place) (e : Entry),
    s.findPlace session target = some pl → s.entryAt pl = some e →
    let named := s.selectFor session target
    let t := s.replacePair session target
    let inPair := fun i => i ∈ s.ex.order ∧ ∃ x, s.live i = some x ∧ x.session = session ∧ x.target = target
    t.entryAt pl = some { e with port := named, quiesceMark := false, verdictMark := none } ∧
    (∀ pl', pl' ≠ pl → t.entryAt pl' = s.entryAt pl') ∧
    (∀ j, (t.cacheSet j).root = (s.cacheSet j).root ∧ (t.cacheSet j).left = (s.cacheSet j).left ∧
      (t.cacheSet j).right = (s.cacheSet j).right) ∧
    (∀ i, ¬ inPair i → t.record i = s.record i) ∧ t.ex.order = s.ex.order ∧ t.ex.results = s.ex.results ∧ t.ex.free = s.ex.free ∧
    (∀ i x, inPair i → s.live i = some x → t.record i = ⟨(s.record i).generation, some (match named, x.phase with
      | some q, .held .trace _ => { x with traces := x.traces + 1, phase := .tracing q (s.timeBase + ms (traceWait s.config)) s.timeBase }
      | some _, .held action _ => { x with phase := .waiting action }
      | none, .waiting action => { x with phase := s.heldNow action }
      | _, _ => x)⟩)

/-- WALK_STEP (R97, R98, R101, R102): the step takes the oldest exchange of the port's outstanding list that entered it before the
horizon and lies in the item's scope, re-places its pair if the pair names the port and the port is not eligible, and moves the
exchange: REPEATABLE to a resend, SENT SINGLE-SHOT to a trace, TRACING to its next trace, as R101 and R102 state. With none left the
walk gives way to the entries phase, and where that has nothing the item ends in the same step (log 19). Where a
SINGLE-SHOT exchange's pair names no port, R102 and R100 say HELD and Table 7-1 a trace choice: the model's free value decides (log 24),
and this holds for both its values. That a TRACING exchange of an unplaced pair gets a trace choice is the model's reading (log 28).
Moments are compared modulo 2^48 as log 16 says. -/
def Obligations.WalksMoveTheOldest : Prop :=
  ∀ (s : State) (scope : LossScope) (horizon : Time), s.raised = [] → s.station.state ≠ .loading →
    s.failover.current = some (.walk scope horizon) →
    let p := scope.portOf
    let qualifies := fun j => ∃ x at_, s.live j = some x ∧ scope.covers x.target = true ∧ isBefore at_ horizon = true ∧
      ∃ d, x.phase = .sent p d at_ ∨ x.phase = .tracing p d at_
    (∀ before i after e, s.outstanding p = before ++ i :: after → (∀ j ∈ s.outstanding p, s.slotPort j = some p) →
      qualifies i → (∀ j ∈ before, ¬ qualifies j) → s.live i = some e → s.NoDrain i →
      let moved := if s.pairPort e.session e.target = some p ∧ s.eligible e.target p = false
        then s.replacePair e.session e.target else s
      let traced := fun q => { e with traces := e.traces + 1, phase := .tracing q (s.timeBase + ms (traceWait s.config)) s.timeBase }
      let choose := fun (t : State) => match (moved.detach i).traceChoice e.target (some p) with
        | some q => moved.Moved t i (traced q)
        | none => moved.Moved t i { e with phase := s.heldNow .trace }
      ∃ t, exec .walkStep s = .next t ∧ t.failover.current = s.failover.current ∧ t.routes = s.routes ∧ t.row = s.row ∧ t.view = s.view ∧
        match e.phase with
        | .sent _ _ _ =>
          if e.cls = 1#8 then moved.Moved t i { e with phase :=
            if (moved.pairPort e.session e.target).isSome then .waiting .resend else s.heldNow .resend }
          else if traceLimit s.config ≤ e.traces then moved.Decided t i e .inDoubt []
          else match moved.pairPort e.session e.target with
            | none => if Config.tracesUnplaced = true then choose t else moved.Moved t i { e with phase := s.heldNow .trace }
            | some q => if moved.eligible e.target q = true then moved.Moved t i (traced q) else choose t
        | _ => if traceLimit s.config ≤ e.traces then moved.Decided t i e .inDoubt [] else choose t) ∧
    ((∀ j ∈ s.outstanding p, s.slotPort j = some p ∧ ¬ qualifies j) →
      let todo := allPlaces.filterMap (fun pl => (s.entryAt pl).bind (fun x =>
        if x.port = some p ∧ scope.covers x.target = true then some (⟨pl, x.session, x.target⟩ : EntryRef) else none))
      (todo ≠ [] → exec .walkStep s = .next (s.setFailover { s.failover with current := some (.entries scope horizon todo) })) ∧
      (todo = [] → exec .walkStep s = .next (s.finishLoss scope)))

/-- ENTRIES_STEP (R103): each entry taken is looked at as it then stands, and passed over where it is gone, holds another pair,
names another port, or its port is eligible again; an idle one is invalidated, and a pinned one's pair is re-placed. The item ends
with its last entry. The end of a loss item (R104): nothing is in progress, and at the end of a port-loss item whose port is UP a
cell-loss item stands for each LOST cell of the port with an exchange on its outstanding list or an entry that names it. That an
element passed over takes a step of its own is the model's reading (log 19). -/
def Obligations.EntriesAreHandledOneByOne : Prop :=
  (∀ (s : State) (scope : LossScope) (horizon : Time) (r : EntryRef) (rest : List EntryRef), s.raised = [] →
    s.station.state ≠ .loading → s.failover.current = some (.entries scope horizon (r :: rest)) →
    let p := scope.portOf
    let concerned := fun e => s.entryAt r.place = some e ∧ e.session = r.session ∧ e.target = r.target ∧ e.port = some p ∧
      ¬((s.port p).state = .up ∧ (s.cell e.target p).state = .good)
    let acts := fun (u : State) => ∃ t, exec .entriesStep s = .next t ∧
      t.ex.slots = u.ex.slots ∧ t.ex.outstanding = u.ex.outstanding ∧ t.ex.order = u.ex.order ∧ t.cache = u.cache ∧ t.ports = u.ports ∧
      (if rest = [] then t.failover = (u.finishLoss scope).failover
        else t.failover = ⟨u.failover.work, some (.entries scope horizon rest)⟩)
    ((∀ e, ¬ concerned e) → acts s) ∧
    (∀ e, concerned e → e.count = 0 → acts (s.setEntryAt r.place none)) ∧
    (∀ e, concerned e → 0 < e.count → acts (s.replacePair e.session e.target))) ∧
  (∀ (s : State) (p : PortId) (y : Nat),
    (s.finishLoss (.cell y p)) = s.setFailover { s.failover with current := none } ∧
    (s.finishLoss (.port p)).failover.current = none ∧
    s.onlyIn (s.finishLoss (.port p)) [.failover] ∧
    ((s.port p).state ≠ .up → (s.finishLoss (.port p)).failover.work = s.failover.work) ∧
    ((s.port p).state = .up → y ∈ allTargets → (s.cell y p).state = .lost →
      (s.carries y p = true ∨ ∃ pl e, s.entryAt pl = some e ∧ e.port = some p ∧ e.target = y) →
      (∀ horizon, .portLoss p horizon ∉ s.failover.work) → .cellLoss y p ∈ (s.finishLoss (.port p)).failover.work))

/-- PAIR_PHASE_STEP and HELD_PHASE_STEP (R105, R106): a pinned entry still unplaced is given the port of a selection, with its HELD
exchanges returned; an exchange still HELD whose pair names a port is WAITING with its action, or for TRACE traced on the port of a
trace choice with none left out. Whatever stands otherwise by then is passed over. The list of the held phase, and that an element
passed over takes a step of its own, are the model's reading (logs 12 and 19). -/
def Obligations.PlacementItemsPlaceAndReturn : Prop :=
  (∀ (s : State) (y : Nat) (r : EntryRef) (rest : List EntryRef), s.raised = [] → s.station.state ≠ .loading →
    s.failover.current = some (.pairs y (r :: rest)) →
    let concerned := fun e => s.entryAt r.place = some e ∧ e.session = r.session ∧ e.target = r.target ∧ 0 < e.count ∧ e.port = none
    let acts := fun (u : State) => ∃ t, exec .pairPhaseStep s = .next t ∧
      t.ex.slots = u.ex.slots ∧ t.ex.outstanding = u.ex.outstanding ∧ t.ex.order = u.ex.order ∧ t.cache = u.cache ∧ t.ports = u.ports ∧
      (if rest = [] then t.failover = (u.beginHeld y).failover
        else t.failover = ⟨u.failover.work, some (.pairs y rest)⟩)
    ((∀ e, ¬ concerned e) → acts s) ∧
    (∀ e, concerned e → s.selectFor e.session e.target = none → acts s) ∧
    (∀ e, concerned e → (s.selectFor e.session e.target).isSome = true → acts (s.replacePair e.session e.target))) ∧
  (∀ (s : State) (y : Nat) (r : HeldRef) (rest : List HeldRef), s.raised = [] → s.station.state ≠ .loading →
    s.failover.current = some (.held y (r :: rest)) →
    ∃ t, exec .heldPhaseStep s = .next t ∧ t.cache = s.cache ∧
      t.failover = ⟨s.failover.work, if rest = [] then none else some (.held y rest)⟩ ∧
      (∀ j, j ≠ r.slot → t.record j = s.record j) ∧
      (∀ e action d, s.live r.slot = some e → e.phase = .held action d → (s.record r.slot).generation = r.generation →
        (s.pairPort e.session e.target).isSome = true →
        (action ≠ .trace → t.record r.slot = ⟨r.generation, some { e with phase := .waiting action }⟩) ∧
        (∀ q, action = .trace → s.traceChoice e.target none = some q →
          t.record r.slot = ⟨r.generation, some { e with
            traces := e.traces + 1, phase := .tracing q (s.timeBase + ms (traceWait s.config)) s.timeBase }⟩ ∧
          t.outstanding q = s.outstanding q ++ [r.slot] ∧ (t.port q).pendingTraces = (s.port q).pendingTraces ++ [r.slot]) ∧
        (action = .trace → s.traceChoice e.target none = none → t.record r.slot = s.record r.slot)) ∧
      ((s.record r.slot).generation ≠ r.generation ∨ (∀ e action d, s.live r.slot = some e → e.phase ≠ .held action d) ∨
        (∀ e, s.live r.slot = some e → s.pairPort e.session e.target = none) → t.record r.slot = s.record r.slot))

/-! ## The row bus (chapter 8) -/

/-- ROW_FRAME_START and the ends of a frame of this station (R128, R129, R133, R134, R136, R137). With the line idle and a frame
pending, the controller composes the frame from the state as it stands and is SENDING, or, with the start bit read back recessive,
in DRIVE RETRY with one CANNOT DRIVE for a run of failures. A frame sent whole or aborted returns it to WAITING: a whole sighting
moves the times and the counts last sent on and is no longer pending, a whole WITHDRAW is no longer pending, and an aborted frame
stays pending. A frame that a host reset found on the line leaves a sighting pending either way. What becomes of a change reported
during a sighting is the model's reading (log 14). Where a command's conditions do not hold it changes nothing: log 6. -/
def Obligations.RowFramesAreSent : Prop :=
  (∀ (s : State) (f : RowFrame), s.raised = [] → s.station.state ≠ .loading → s.row.phase = .waiting → s.row.lineFault = .normal →
    s.row.receiving = false →
    (s.row.pending = .sighting ∧ f = .sighting s.station.id s.station.state s.sightingEntries) ∨
      (s.row.pending = .withdraw ∧ f = .withdraw s.station.id) →
    exec (.rowFrameStart true) s = .next (s.setRow { s.row with phase := .sending f, driveFaultReported := false }) ∧
    ∃ t, exec (.rowFrameStart false) s = .next t ∧ s.onlyIn t [.row, .link] ∧
      t.row = { s.row with
        phase := .driveRetry, retryAt := some (s.timeBase + ms (sightingPeriod s.config)), driveFaultReported := true } ∧
      (s.row.driveFaultReported = true → t.link = s.link) ∧
      (s.row.driveFaultReported = false → s.notifies t (.rowFault .cannotDrive none))) ∧
  (∀ (s : State) (b : Bool), s.row.phase ≠ .waiting ∨ s.row.pending = .none ∨ s.row.lineFault = .heldLow ∨ s.row.receiving = true →
    exec (.rowFrameStart b) s = .next s) ∧
  (∀ (s : State) (f : RowFrame), s.row.phase = .sending f →
    let r := s.row
    (r.dueAtEnd = false → ∀ c ∈ [Instr.lostArbitration, Instr.bitError], exec c s = .next (s.setRow { r with
      phase := .waiting, receiving := true, changeWanted := r.changeWanted || r.wantedNext, wantedNext := false })) ∧
    (r.dueAtEnd = true → r.withdrawn = false → ∀ c ∈ [Instr.lostArbitration, Instr.bitError, Instr.rowFrameSentWhole],
      ∃ t, exec c s = .next t ∧ t.row.phase = .waiting ∧ t.row.pending = .sighting ∧ t.row.dueAtEnd = false ∧ s.onlyIn t [.row]) ∧
    (∀ id state entries, f = .sighting id state entries → r.dueAtEnd = false →
      exec .rowFrameSentWhole s = .next (s.setRow { r with
        phase := .waiting, pending := if r.pending = .withdraw then .withdraw else .none
        lastSent := some s.timeBase, lastCounts := sightingCounts entries, changeWanted := r.wantedNext, wantedNext := false
        changeEarliest := some (s.timeBase + ms (sightingSpacing s.config))
        periodicDue := some (s.timeBase + ms (sightingPeriod s.config)) })) ∧
    (∀ id, f = .withdraw id → r.dueAtEnd = false →
      exec .rowFrameSentWhole s = .next (s.setRow { r with phase := .waiting, pending := .none })))

/-- Frames received (R131, R139, R140): outside LOADING and while no frame of its own is on the line, a good SIGHTING of another
station becomes its entry with the time of arrival and a WITHDRAW removes the entry, and the verdicts of the switches that the old
and the new entry list are recomputed, and no others (R146); a frame of this station's own ID is a conflict, reported unless one was
within the last SIGHTING PERIOD; a sighting that fails the content checks and a frame broken off are discarded, and the line is idle
again. -/
def Obligations.RowFramesAreReceived : Prop :=
  ∀ (s : State) (sender : StationId) (state : StationState) (entries : List SwitchEntry), s.raised = [] →
    s.station.state ≠ .loading → (∀ f, s.row.phase ≠ .sending f) →
    let ended := { s.row with receiving := false }
    let conflict := fun (c : Instr) => ∃ t, exec c s = .next t ∧ s.onlyIn t [.row, .link] ∧
      if s.row.lastConflict.any (fun last => (elapsed s.timeBase last).toNat ≤ sightingPeriod s.config * 1000) = true
      then t.row = ended ∧ t.link = s.link
      else t.row = { ended with lastConflict := some s.timeBase } ∧ s.notifies t (.rowFault .idConflict (some sender))
    let lists := fun (x : Option PeerEntry) (sw : Nat) => x.any (fun y => y.switches.any (fun e => e.switch == sw))
    let takes := fun (entry : Option PeerEntry) (t : State) =>
      t.peer sender = entry ∧ (∀ i, i ≠ sender → t.peer i = s.peer i) ∧ t.view.own = s.view.own ∧ t.row = ended ∧
      ∀ sw ∈ allSwitches, t.verdict sw =
        if lists (s.peer sender) sw = true ∨ lists entry sw = true
        then ((s.setPeer sender entry).recompute sw).verdict sw else s.verdict sw
    (sightingWf state entries = false → exec (.sightingReceived sender state entries) s = .next (s.setRow ended)) ∧
    (sightingWf state entries = true → sender = s.station.id → conflict (.sightingReceived sender state entries)) ∧
    (sender = s.station.id → conflict (.withdrawReceived sender)) ∧
    (sender ≠ s.station.id → sightingWf state entries = true → ∃ t, exec (.sightingReceived sender state entries) s = .next t ∧
      takes (some ⟨state, s.timeBase, entries⟩) t) ∧
    (sender ≠ s.station.id → ∃ t, exec (.withdrawReceived sender) s = .next t ∧ takes none t) ∧
    exec .frameBrokenOff s = .next (s.setRow ended)

/-- Line faults, the drive retry and the sightings that fall due (R132, R133, R135): LINE_HELD_LOW and its CLEARED are taken once
each and noticed, and a frame being sent is aborted and stays pending; the retry time returns the controller to WAITING; and at
periodic due, or with a change wanted at change earliest, a sighting is pending unless one may not be. What becomes of a change
reported during a sighting is the model's reading (log 14). Moments are compared modulo 2^48 as log 16 says. Where a command's
conditions do not hold it changes nothing: log 6. -/
def Obligations.RowTimersAndFaults : Prop :=
  ∀ s : State, s.raised = [] →
    let becomes := fun (c : Instr) (r : RowBus) (kind : RowFaultKind) =>
      ∃ t, exec c s = .next t ∧ t.row = r ∧ s.onlyIn t [.row, .link] ∧ s.notifies t (.rowFault kind none)
    let pended := { s.row with pending := if s.row.pending = .none ∧ s.row.withdrawn = false ∧ s.row.phase ≠ .silent then .sighting
      else s.row.pending }
    (s.station.state ≠ .loading → s.row.lineFault = .normal → (∀ f, s.row.phase ≠ .sending f) →
      becomes .lineHeldLow { s.row with lineFault := .heldLow, receiving := false } .lineHeldLow) ∧
    (s.station.state ≠ .loading → s.row.lineFault = .normal → s.row.dueAtEnd = false → ∀ f, s.row.phase = .sending f →
      becomes .lineHeldLow { s.row with
        phase := .waiting, lineFault := .heldLow, receiving := false
        changeWanted := s.row.changeWanted || s.row.wantedNext, wantedNext := false } .lineHeldLow) ∧
    (s.row.lineFault = .heldLow → exec .lineHeldLow s = .next s) ∧
    (s.station.state ≠ .loading → s.row.lineFault = .heldLow →
      becomes .cleared { s.row with lineFault := .normal, receiving := false } .cleared) ∧
    (s.row.lineFault = .normal → exec .cleared s = .next s) ∧
    (s.row.phase = .driveRetry → expired s.timeBase s.row.retryAt = true →
      exec .driveRetryExpiry s = .next (s.setRow { s.row with phase := .waiting, retryAt := none })) ∧
    (s.row.phase ≠ .driveRetry ∨ expired s.timeBase s.row.retryAt = false → exec .driveRetryExpiry s = .next s) ∧
    (expired s.timeBase s.row.periodicDue = true → exec .periodicSightingDue s = .next (s.setRow pended)) ∧
    (expired s.timeBase s.row.periodicDue = false → exec .periodicSightingDue s = .next s) ∧
    (s.row.changeWanted = true → s.row.changeEarliest = none ∨ expired s.timeBase s.row.changeEarliest = true →
      exec .changeSightingDue s = .next (s.setRow pended)) ∧
    (s.row.changeWanted = false ∨ (∃ due, s.row.changeEarliest = some due ∧ reached s.timeBase due = false) →
      exec .changeSightingDue s = .next s)

/-! ## Peer views and verdicts (chapter 9) -/

/-- PEER_ENTRY_STALE and PEER_ENTRY_EXPIRED (R141): past the expiry threshold the entry is removed, and short of it a stale entry
stays; the verdicts of the switches it lists are recomputed without it, and the others stand. A fresh entry, and no entry, give
nothing. CLEAR_HOLD_EXPIRY and STAGGER_EXPIRY (R36, R145, R147, R148, R150): at the end of the clear timer the verdict is SOUND, its
stagger is cancelled and the marks for the switch leave every entry; at the end of the stagger the applied verdict is FAILING and
every entry whose port is cabled to the switch takes the mark. Each is noticed with the number of entries. Moments are compared
modulo 2^48 as log 16 says. Where a command's conditions do not hold it changes nothing: log 6. -/
def Obligations.PeerEntriesAgeAndVerdictTimersAct : Prop :=
  (∀ (s : State) (i : StationId), s.raised = [] →
    (∀ e, s.peer i = some e →
      let age := (elapsed s.timeBase e.time).toNat
      let past := expiryLimit s.config * sightingPeriod s.config * 1000 < age
      let stale := staleLimit s.config * sightingPeriod s.config * 1000 < age
      let leaves := fun (c : Instr) (entry : Option PeerEntry) => ∃ t, exec c s = .next t ∧ t.peer i = entry ∧
        (∀ j, j ≠ i → t.peer j = s.peer j) ∧
        (∀ sw ∈ allSwitches, (∀ x ∈ e.switches, x.switch ≠ sw) → t.verdict sw = s.verdict sw) ∧
        (∀ sw ∈ allSwitches, (∃ x ∈ e.switches, x.switch = sw) →
          t.verdict sw = ((s.setPeer i entry).recompute sw).verdict sw ∧
          (t.verdict sw).c = (t.withCounts sw (s.verdict sw)).c ∧ (t.verdict sw).d = (t.withCounts sw (s.verdict sw)).d)
      (past → leaves (.peerEntryExpired i) none) ∧ (¬ past → exec (.peerEntryExpired i) s = .next s) ∧
      (stale → past → leaves (.peerEntryStale i) none) ∧ (stale → ¬ past → leaves (.peerEntryStale i) (some e)) ∧
      (¬ stale → exec (.peerEntryStale i) s = .next s)) ∧
    (s.peer i = none → exec (.peerEntryStale i) s = .next s ∧ exec (.peerEntryExpired i) s = .next s)) ∧
  (∀ (s : State) (sw : Nat), s.raised = [] → sw ∈ allSwitches →
    let v := s.verdict sw
    let counted := fun (test : Entry → Bool) => (allPlaces.filter (fun pl => (s.entryAt pl).any test)).length
    (expired s.timeBase v.clearEnds = true → ∃ t, exec (.clearHoldExpiry sw) s = .next t ∧ s.onlyIn t [.link, .cache, .view] ∧
      t.verdict sw = { v with verdict := .sound, clearEnds := none, staggerEnds := none, staggerExpired := false } ∧
      (∀ x ∈ allSwitches, x ≠ sw → t.verdict x = s.verdict x) ∧
      (∀ pl, t.entryAt pl = (s.entryAt pl).map (fun e => if e.verdictMark = some sw then { e with verdictMark := none } else e)) ∧
      s.notifies t (.verdictChange sw .failing .sound .sound v.c v.d (counted (fun e => e.verdictMark == some sw)))) ∧
    (expired s.timeBase v.clearEnds = false → exec (.clearHoldExpiry sw) s = .next s) ∧
    (v.verdict = .failing → expired s.timeBase v.staggerEnds = true → ∃ t, exec (.staggerExpiry sw) s = .next t ∧
      s.onlyIn t [.link, .cache, .view] ∧ t.verdict sw = { v with staggerEnds := none, staggerExpired := true } ∧
      (t.verdict sw).applied = .failing ∧ (∀ x ∈ allSwitches, x ≠ sw → t.verdict x = s.verdict x) ∧
      (∀ pl, t.entryAt pl = (s.entryAt pl).map (fun e =>
        if e.port.any (fun p => (s.port p).identity == some sw) then { e with verdictMark := some sw } else e)) ∧
      s.notifies t (.verdictChange sw .failing .failing .failing v.c v.d
        (counted (fun e => e.port.any (fun p => (s.port p).identity == some sw))))) ∧
    (v.verdict ≠ .failing ∨ expired s.timeBase v.staggerEnds = false → exec (.staggerExpiry sw) s = .next s))

/-- The counts and the verdict at a recomputation (R143 to R147): C and D count this station where it has a cable, and a lost cable,
and every peer whose fresh entry lists the switch, with L and N over those peers. From SOUND or SUSPECT the verdict is FAILING,
SUSPECT or SOUND by MIN WITNESS and QUORUM, and a new FAILING starts the stagger of this station's ID times STAGGER UNIT, expired at
once where that is 0. FAILING holds; its clear timer is cancelled while D is at least 1, and else runs on or starts. And what the
report of a changed cable does (R75, R90, R135, R142): this station's counts are those of its cables as they stand, the verdicts of
the switches whose counts changed are recomputed, and where the counts differ from those last sent, a change is wanted and at change
earliest a sighting is pending where one may be; while withdrawn is set the row bus takes no note. What becomes of a change reported
during a sighting is the model's reading (log 14). Moments are compared modulo 2^48 as log 16 says. -/
def Obligations.VerdictsFollowTheFreshView : Prop :=
  (∀ s : State,
    let t := s.reportCables
    let sighting := ∃ id state entries, s.row.phase = .sending (.sighting id state entries)
    s.onlyIn t [.cache, .row, .view] ∧ s.samePlacements t ∧ t.view.peers = s.view.peers ∧
    (∀ sw ∈ allSwitches, t.ownCount sw = s.countCables sw ∧
      t.verdict sw = if s.ownCount sw = s.countCables sw then s.verdict sw
        else (({ s with view := { s.view with own := t.view.own } } : State).recompute sw).verdict sw) ∧
    (s.row.withdrawn = true → t.row = s.row) ∧
    (s.row.withdrawn = false → ¬ sighting →
      if t.view.own = s.row.lastCounts then t.row = s.row
      else t.row = { s.row with
        changeWanted := true
        pending := if (s.row.changeEarliest = none ∨ expired s.timeBase s.row.changeEarliest = true) ∧ s.row.pending = .none ∧
          s.row.phase ≠ .silent then .sighting else s.row.pending }) ∧
    (s.row.withdrawn = false → ∀ id state entries, s.row.phase = .sending (.sighting id state entries) →
      if t.view.own = sightingCounts entries then t.row = s.row else t.row = { s.row with wantedNext := true })) ∧
  ∀ (s : State) (sw : Nat), sw ∈ allSwitches →
    let v := s.verdict sw
    let t := s.recompute sw
    let w := t.verdict sw
    let listing := (List.finRange 32).filterMap (fun i => (s.peer i).bind (fun e =>
      if (elapsed s.timeBase e.time).toNat ≤ staleLimit s.config * sightingPeriod s.config * 1000
      then e.switches.find? (fun x => x.switch == sw) else none))
    let own := s.ownCount sw
    let stagger := s.station.id.val * staggerUnit s.config
    w.n = listing.length ∧ w.l = (listing.map (·.load)).sum ∧
    w.c = listing.length + (if 1 ≤ own.cables then 1 else 0) ∧
    w.d = (listing.filter (fun x => 1 ≤ x.lost)).length + (if 1 ≤ own.cables ∧ 1 ≤ own.lost then 1 else 0) ∧
    (∀ x ∈ allSwitches, x ≠ sw → t.verdict x = s.verdict x) ∧
    (v.verdict ≠ .failing →
      w.verdict = (if minWitness s.config ≤ w.d ∧ quorum s.config * w.c ≤ 8 * w.d then .failing else if 1 ≤ w.d then .suspect else .sound) ∧
      (w.verdict = .failing → w.clearEnds = none ∧
        (stagger = 0 → w.staggerEnds = none ∧ w.staggerExpired = true ∧
          (∀ pl e, s.entryAt pl = some e → t.entryAt pl =
            some (if e.port.any (fun p => (s.port p).identity == some sw) then { e with verdictMark := some sw } else e))) ∧
        (stagger ≠ 0 → w.staggerEnds = some (s.timeBase + ms stagger) ∧ w.staggerExpired = false)) ∧
      (w.verdict = v.verdict → t.raised = s.raised) ∧ (stagger ≠ 0 ∨ w.verdict ≠ .failing → t.cache = s.cache)) ∧
    (v.verdict = .failing → w.verdict = .failing ∧ w.staggerEnds = v.staggerEnds ∧ w.staggerExpired = v.staggerExpired ∧
      (1 ≤ w.d → w.clearEnds = none) ∧ (w.d = 0 → w.clearEnds = some (v.clearEnds.getD (s.timeBase + ms (clearHold s.config)))) ∧
      t.raised = s.raised ∧ t.cache = s.cache)

/-! ## Path selection (chapter 3) -/

/-- R52 and R53: a placement names, of the eligible ports not on a FAILING switch, or of all eligible ports where there is none, the
one of least cost, the lowest port number among equals, and none where none is eligible. A trace choice does the same among the
ports but the one excluded, and names that one, if eligible, where no other is. -/
def Obligations.SelectionsNameTheCheapest : Prop :=
  ∀ (s : State) (session : Word32) (y : Nat),
    let eligible := fun p : PortId => (s.port p).state = .up ∧ (s.cell y p).state = .good
    let failing := fun p : PortId => (s.portVerdict p).applied = .failing
    let best := fun (among : PortId → Prop) (cost : PortId → Nat) (p : PortId) =>
      let candidate := fun q => among q ∧ eligible q ∧ (failing q → ∀ r, among r → eligible r → failing r)
      candidate p ∧ ∀ q, candidate q → cost p < cost q ∨ (cost p = cost q ∧ p ≤ q)
    (∀ p, s.selectFor session y = some p ↔ best (fun _ => True) (s.cost y (some (session, y))) p) ∧
    (s.selectFor session y = none ↔ ∀ p, ¬ eligible p) ∧
    (∀ p, s.traceChoice y none = some p ↔ best (fun _ => True) (s.cost y none) p) ∧
    (∀ x p, s.traceChoice y (some x) = some p ↔
      best (· ≠ x) (s.cost y none) p ∨ ((∀ q, q ≠ x → ¬ eligible q) ∧ eligible x ∧ p = x)) ∧
    (∀ x, s.traceChoice y x = none ↔ ∀ p, ¬ eligible p)

/-- R51: every path cost lies in 0 to 7169, a candidate whose switch's applied verdict is not FAILING costs at most 3328 and one
whose applied verdict is FAILING at least 4096, so that the selection is the one by cost alone. The bound of 0 is reached. -/
def Obligations.PathCostsAreBounded : Prop :=
  (∀ (s : State) (y : Nat) (placing : Option (Word32 × Nat)) (p : PortId), s.Sound →
    s.cost y placing p ≤ 7169 ∧
    ((s.portVerdict p).applied ≠ .failing → s.cost y placing p ≤ 3328) ∧
    ((s.portVerdict p).applied = .failing → 4096 ≤ s.cost y placing p) ∧
    (s.outstanding p = [] → s.boundPairs p placing = 0 → (s.portVerdict p).l = 0 → (s.cell y p).step = 0 →
      (s.portVerdict p).applied = .sound → s.cost y placing p = 0)) ∧
  (∀ (s : State) (session : Word32) (y : Nat), s.Sound →
    s.selectFor session y = cheapest (s.cost y (some (session, y))) (allPorts.filter (s.eligible y)))

/-! ## Frame formats (chapter 12) -/

/-- Every well-formed fabric frame is read back from its bytes on the lane, whatever its fields, and no two have the same bytes. -/
def Obligations.FabricFramesAreReadBack : Prop :=
  (∀ f : FabricFrame, f.wf = true → readFabricFrame f.onLane = .frame f) ∧
  (∀ f g : FabricFrame, f.wf = true → g.wf = true → f.onLane = g.onLane → f = g)

/-- Every well-formed frame of the row bus is read back from its bits on the line, separators, CRC and end mark included, and every
well-formed host frame from its bytes; and a sighting that the part composes is well formed (R134, R170). The command of a frame on
the row bus is that of its contents, and a frame that fails a check of R130 or R170 is discarded as one broken off (log 25): a wrong
CRC, a kind of 00 or 11, a station state of 11, a count of 5 to 7, and a WITHDRAW whose fill is 1. -/
def Obligations.RowAndHostFramesAreReadBack : Prop :=
  (∀ f : RowFrame, f.wf = true → readRowFrame f.onLine = some f) ∧
  (∀ f : RowFrame, f.wf = true → rowCommand f.onLine = match f with
    | .sighting sender state entries => .sightingReceived sender state entries
    | .withdraw sender => .withdrawReceived sender) ∧
  (∀ line : List Bool, readRowFrame line = none → rowCommand line = .frameBrokenOff) ∧
  (∀ data : List Bool, data.drop (data.length - 16) ≠ bitsOf 16 (crcBits (data.take (data.length - 16))).toNat →
    rowCommand (false :: (separate data ++ [false])) = .frameBrokenOff) ∧
  (∀ content : List Bool,
    let kind := bitsVal ((content.drop 5).take 2)
    kind = 0 ∨ kind = 3 ∨ (kind = 1 ∧ (bitsVal ((content.drop 7).take 2) = 3 ∨ 5 ≤ bitsVal ((content.drop 9).take 3))) ∨
      (kind = 2 ∧ content.drop 7 ≠ [false]) →
    rowCommand (false :: (separate (content ++ bitsOf 16 (crcBits content).toNat) ++ [false])) = .frameBrokenOff) ∧
  (∀ f : HostFrame, f.wf = true → readHostFrame (sealFrame f.bytes) = .frame f) ∧
  (∀ (s : State) (f : RowFrame), s.Sound → s.station.state ≠ .loading → s.composeFrame = some f → f.wf = true)

/-! ## Invariants -/

/-- The host link's queues and counts stay within their bounds, and a credit return is due
whenever R153 makes it so, with the count at CREDIT BATCH or at 1 or more beside an empty ingress queue, and never with the count
at 0. -/
def Obligations.HostLinkStaysBounded : Prop := ∀ s t : State, s.Sound → step s = .next t → t.LinkBounded

/-- Ports, cells and configuration stay within their bounds, and the lists of the ports and the cells keep agreeing. -/
def Obligations.PortsAndRoutesStaySound : Prop := ∀ s t : State, s.Sound → step s = .next t → t.Bounded ∧ t.RoutesAgree

/-- Every list of the Exchange Manager keeps holding what R3 to R7 say, each slot once, and the affinity cache keeps one entry for
each pair with open exchanges, with their number as its count (R28, R33). -/
def Obligations.ExchangeListsAndCacheStayTrue : Prop :=
  ∀ s t : State, s.Sound → step s = .next t → t.TableAgrees ∧ t.CacheAgrees

/-- Every exchange keeps to what its class and state allow: attempts, traces and payload within their ranges, and a TRACING exchange
always a SINGLE-SHOT one that has been sent (1.2). -/
def Obligations.ExchangesStaySound : Prop := ∀ s t : State, s.Sound → step s = .next t → t.ExchangesSound

/-- Verdict records, peer entries and own counts stay sound (R139, R142 to R147), and so do the work list, the transmit phase and
the station's record. -/
def Obligations.ViewsWorkAndStationStaySound : Prop :=
  ∀ s t : State, s.Sound → step s = .next t →
    t.VerdictsSound ∧ t.PeersSound ∧ t.OwnCounted ∧ t.WorkSound ∧ t.RowSound ∧ t.StationSound

/-- Every invariant holds of the machine right after reset. -/
def Obligations.ResetStateIsSound : Prop := State.reset.Sound

/-- Under the invariants the migration work list holds at most 4 port-loss items, 252 cell-loss items and 63 placement items (R92).
-/
def Obligations.WorkListIsBounded : Prop :=
  ∀ s : State, s.WorkSound →
    (s.failover.work.filter (fun w => allPorts.any (w.isPortLoss ·))).length ≤ 4 ∧
    (s.failover.work.filter (fun w => allPorts.any (w.isCellLossOn ·))).length ≤ 252 ∧
    (s.failover.work.filter (fun w => w matches .placement _)).length ≤ 63 ∧ s.failover.work.length ≤ 319
end

