-- ==== Sys2Proof/Laws/State.lean ====
section
/-! SUPPORT. What each named update of the state leaves as it was, one lemma for each field, and what it puts in the place it
writes. -/

namespace Sys2Proof.Machine

open Sys2Proof

/-! ### setRec -/

@[simp] theorem State.setRec_timeBase (s : State) (i : Slot) (r : SlotRecord) : (s.setRec i r).timeBase = s.timeBase := rfl
@[simp] theorem State.setRec_station (s : State) (i : Slot) (r : SlotRecord) : (s.setRec i r).station = s.station := rfl
@[simp] theorem State.setRec_config (s : State) (i : Slot) (r : SlotRecord) : (s.setRec i r).config = s.config := rfl
@[simp] theorem State.setRec_link (s : State) (i : Slot) (r : SlotRecord) : (s.setRec i r).link = s.link := rfl
@[simp] theorem State.setRec_cache (s : State) (i : Slot) (r : SlotRecord) : (s.setRec i r).cache = s.cache := rfl
@[simp] theorem State.setRec_ports (s : State) (i : Slot) (r : SlotRecord) : (s.setRec i r).ports = s.ports := rfl
@[simp] theorem State.setRec_routes (s : State) (i : Slot) (r : SlotRecord) : (s.setRec i r).routes = s.routes := rfl
@[simp] theorem State.setRec_failover (s : State) (i : Slot) (r : SlotRecord) : (s.setRec i r).failover = s.failover := rfl
@[simp] theorem State.setRec_row (s : State) (i : Slot) (r : SlotRecord) : (s.setRec i r).row = s.row := rfl
@[simp] theorem State.setRec_view (s : State) (i : Slot) (r : SlotRecord) : (s.setRec i r).view = s.view := rfl
@[simp] theorem State.setRec_i2c (s : State) (i : Slot) (r : SlotRecord) : (s.setRec i r).i2c = s.i2c := rfl
@[simp] theorem State.setRec_raised (s : State) (i : Slot) (r : SlotRecord) : (s.setRec i r).raised = s.raised := rfl
@[simp] theorem State.setRec_pending (s : State) (i : Slot) (r : SlotRecord) : (s.setRec i r).pending = s.pending := rfl

/-! ### modLive -/

@[simp] theorem State.modLive_timeBase (s : State) (i : Slot) (f : Exchange → Exchange) : (s.modLive i f).timeBase = s.timeBase := rfl
@[simp] theorem State.modLive_station (s : State) (i : Slot) (f : Exchange → Exchange) : (s.modLive i f).station = s.station := rfl
@[simp] theorem State.modLive_config (s : State) (i : Slot) (f : Exchange → Exchange) : (s.modLive i f).config = s.config := rfl
@[simp] theorem State.modLive_link (s : State) (i : Slot) (f : Exchange → Exchange) : (s.modLive i f).link = s.link := rfl
@[simp] theorem State.modLive_cache (s : State) (i : Slot) (f : Exchange → Exchange) : (s.modLive i f).cache = s.cache := rfl
@[simp] theorem State.modLive_ports (s : State) (i : Slot) (f : Exchange → Exchange) : (s.modLive i f).ports = s.ports := rfl
@[simp] theorem State.modLive_routes (s : State) (i : Slot) (f : Exchange → Exchange) : (s.modLive i f).routes = s.routes := rfl
@[simp] theorem State.modLive_failover (s : State) (i : Slot) (f : Exchange → Exchange) : (s.modLive i f).failover = s.failover := rfl
@[simp] theorem State.modLive_row (s : State) (i : Slot) (f : Exchange → Exchange) : (s.modLive i f).row = s.row := rfl
@[simp] theorem State.modLive_view (s : State) (i : Slot) (f : Exchange → Exchange) : (s.modLive i f).view = s.view := rfl
@[simp] theorem State.modLive_i2c (s : State) (i : Slot) (f : Exchange → Exchange) : (s.modLive i f).i2c = s.i2c := rfl
@[simp] theorem State.modLive_raised (s : State) (i : Slot) (f : Exchange → Exchange) : (s.modLive i f).raised = s.raised := rfl
@[simp] theorem State.modLive_pending (s : State) (i : Slot) (f : Exchange → Exchange) : (s.modLive i f).pending = s.pending := rfl

/-! ### setPhase -/

@[simp] theorem State.setPhase_timeBase (s : State) (i : Slot) (ph : Phase) : (s.setPhase i ph).timeBase = s.timeBase := rfl
@[simp] theorem State.setPhase_station (s : State) (i : Slot) (ph : Phase) : (s.setPhase i ph).station = s.station := rfl
@[simp] theorem State.setPhase_config (s : State) (i : Slot) (ph : Phase) : (s.setPhase i ph).config = s.config := rfl
@[simp] theorem State.setPhase_link (s : State) (i : Slot) (ph : Phase) : (s.setPhase i ph).link = s.link := rfl
@[simp] theorem State.setPhase_cache (s : State) (i : Slot) (ph : Phase) : (s.setPhase i ph).cache = s.cache := rfl
@[simp] theorem State.setPhase_ports (s : State) (i : Slot) (ph : Phase) : (s.setPhase i ph).ports = s.ports := rfl
@[simp] theorem State.setPhase_routes (s : State) (i : Slot) (ph : Phase) : (s.setPhase i ph).routes = s.routes := rfl
@[simp] theorem State.setPhase_failover (s : State) (i : Slot) (ph : Phase) : (s.setPhase i ph).failover = s.failover := rfl
@[simp] theorem State.setPhase_row (s : State) (i : Slot) (ph : Phase) : (s.setPhase i ph).row = s.row := rfl
@[simp] theorem State.setPhase_view (s : State) (i : Slot) (ph : Phase) : (s.setPhase i ph).view = s.view := rfl
@[simp] theorem State.setPhase_i2c (s : State) (i : Slot) (ph : Phase) : (s.setPhase i ph).i2c = s.i2c := rfl
@[simp] theorem State.setPhase_raised (s : State) (i : Slot) (ph : Phase) : (s.setPhase i ph).raised = s.raised := rfl
@[simp] theorem State.setPhase_pending (s : State) (i : Slot) (ph : Phase) : (s.setPhase i ph).pending = s.pending := rfl

/-! ### setOutstanding -/

@[simp] theorem State.setOutstanding_timeBase (s : State) (p : PortId) (l : List Slot) : (s.setOutstanding p l).timeBase = s.timeBase := rfl
@[simp] theorem State.setOutstanding_station (s : State) (p : PortId) (l : List Slot) : (s.setOutstanding p l).station = s.station := rfl
@[simp] theorem State.setOutstanding_config (s : State) (p : PortId) (l : List Slot) : (s.setOutstanding p l).config = s.config := rfl
@[simp] theorem State.setOutstanding_link (s : State) (p : PortId) (l : List Slot) : (s.setOutstanding p l).link = s.link := rfl
@[simp] theorem State.setOutstanding_cache (s : State) (p : PortId) (l : List Slot) : (s.setOutstanding p l).cache = s.cache := rfl
@[simp] theorem State.setOutstanding_ports (s : State) (p : PortId) (l : List Slot) : (s.setOutstanding p l).ports = s.ports := rfl
@[simp] theorem State.setOutstanding_routes (s : State) (p : PortId) (l : List Slot) : (s.setOutstanding p l).routes = s.routes := rfl
@[simp] theorem State.setOutstanding_failover (s : State) (p : PortId) (l : List Slot) : (s.setOutstanding p l).failover = s.failover := rfl
@[simp] theorem State.setOutstanding_row (s : State) (p : PortId) (l : List Slot) : (s.setOutstanding p l).row = s.row := rfl
@[simp] theorem State.setOutstanding_view (s : State) (p : PortId) (l : List Slot) : (s.setOutstanding p l).view = s.view := rfl
@[simp] theorem State.setOutstanding_i2c (s : State) (p : PortId) (l : List Slot) : (s.setOutstanding p l).i2c = s.i2c := rfl
@[simp] theorem State.setOutstanding_raised (s : State) (p : PortId) (l : List Slot) : (s.setOutstanding p l).raised = s.raised := rfl
@[simp] theorem State.setOutstanding_pending (s : State) (p : PortId) (l : List Slot) : (s.setOutstanding p l).pending = s.pending := rfl

/-! ### setFree -/

@[simp] theorem State.setFree_timeBase (s : State) (l : List Slot) : (s.setFree l).timeBase = s.timeBase := rfl
@[simp] theorem State.setFree_station (s : State) (l : List Slot) : (s.setFree l).station = s.station := rfl
@[simp] theorem State.setFree_config (s : State) (l : List Slot) : (s.setFree l).config = s.config := rfl
@[simp] theorem State.setFree_link (s : State) (l : List Slot) : (s.setFree l).link = s.link := rfl
@[simp] theorem State.setFree_cache (s : State) (l : List Slot) : (s.setFree l).cache = s.cache := rfl
@[simp] theorem State.setFree_ports (s : State) (l : List Slot) : (s.setFree l).ports = s.ports := rfl
@[simp] theorem State.setFree_routes (s : State) (l : List Slot) : (s.setFree l).routes = s.routes := rfl
@[simp] theorem State.setFree_failover (s : State) (l : List Slot) : (s.setFree l).failover = s.failover := rfl
@[simp] theorem State.setFree_row (s : State) (l : List Slot) : (s.setFree l).row = s.row := rfl
@[simp] theorem State.setFree_view (s : State) (l : List Slot) : (s.setFree l).view = s.view := rfl
@[simp] theorem State.setFree_i2c (s : State) (l : List Slot) : (s.setFree l).i2c = s.i2c := rfl
@[simp] theorem State.setFree_raised (s : State) (l : List Slot) : (s.setFree l).raised = s.raised := rfl
@[simp] theorem State.setFree_pending (s : State) (l : List Slot) : (s.setFree l).pending = s.pending := rfl

/-! ### setOrder -/

@[simp] theorem State.setOrder_timeBase (s : State) (l : List Slot) : (s.setOrder l).timeBase = s.timeBase := rfl
@[simp] theorem State.setOrder_station (s : State) (l : List Slot) : (s.setOrder l).station = s.station := rfl
@[simp] theorem State.setOrder_config (s : State) (l : List Slot) : (s.setOrder l).config = s.config := rfl
@[simp] theorem State.setOrder_link (s : State) (l : List Slot) : (s.setOrder l).link = s.link := rfl
@[simp] theorem State.setOrder_cache (s : State) (l : List Slot) : (s.setOrder l).cache = s.cache := rfl
@[simp] theorem State.setOrder_ports (s : State) (l : List Slot) : (s.setOrder l).ports = s.ports := rfl
@[simp] theorem State.setOrder_routes (s : State) (l : List Slot) : (s.setOrder l).routes = s.routes := rfl
@[simp] theorem State.setOrder_failover (s : State) (l : List Slot) : (s.setOrder l).failover = s.failover := rfl
@[simp] theorem State.setOrder_row (s : State) (l : List Slot) : (s.setOrder l).row = s.row := rfl
@[simp] theorem State.setOrder_view (s : State) (l : List Slot) : (s.setOrder l).view = s.view := rfl
@[simp] theorem State.setOrder_i2c (s : State) (l : List Slot) : (s.setOrder l).i2c = s.i2c := rfl
@[simp] theorem State.setOrder_raised (s : State) (l : List Slot) : (s.setOrder l).raised = s.raised := rfl
@[simp] theorem State.setOrder_pending (s : State) (l : List Slot) : (s.setOrder l).pending = s.pending := rfl

/-! ### setResults -/

@[simp] theorem State.setResults_timeBase (s : State) (l : List Slot) : (s.setResults l).timeBase = s.timeBase := rfl
@[simp] theorem State.setResults_station (s : State) (l : List Slot) : (s.setResults l).station = s.station := rfl
@[simp] theorem State.setResults_config (s : State) (l : List Slot) : (s.setResults l).config = s.config := rfl
@[simp] theorem State.setResults_link (s : State) (l : List Slot) : (s.setResults l).link = s.link := rfl
@[simp] theorem State.setResults_cache (s : State) (l : List Slot) : (s.setResults l).cache = s.cache := rfl
@[simp] theorem State.setResults_ports (s : State) (l : List Slot) : (s.setResults l).ports = s.ports := rfl
@[simp] theorem State.setResults_routes (s : State) (l : List Slot) : (s.setResults l).routes = s.routes := rfl
@[simp] theorem State.setResults_failover (s : State) (l : List Slot) : (s.setResults l).failover = s.failover := rfl
@[simp] theorem State.setResults_row (s : State) (l : List Slot) : (s.setResults l).row = s.row := rfl
@[simp] theorem State.setResults_view (s : State) (l : List Slot) : (s.setResults l).view = s.view := rfl
@[simp] theorem State.setResults_i2c (s : State) (l : List Slot) : (s.setResults l).i2c = s.i2c := rfl
@[simp] theorem State.setResults_raised (s : State) (l : List Slot) : (s.setResults l).raised = s.raised := rfl
@[simp] theorem State.setResults_pending (s : State) (l : List Slot) : (s.setResults l).pending = s.pending := rfl

/-! ### settleReady -/

@[simp] theorem State.settleReady_timeBase (s : State) : (s.settleReady).timeBase = s.timeBase := rfl
@[simp] theorem State.settleReady_station (s : State) : (s.settleReady).station = s.station := rfl
@[simp] theorem State.settleReady_config (s : State) : (s.settleReady).config = s.config := rfl
@[simp] theorem State.settleReady_link (s : State) : (s.settleReady).link = s.link := rfl
@[simp] theorem State.settleReady_cache (s : State) : (s.settleReady).cache = s.cache := rfl
@[simp] theorem State.settleReady_ports (s : State) : (s.settleReady).ports = s.ports := rfl
@[simp] theorem State.settleReady_routes (s : State) : (s.settleReady).routes = s.routes := rfl
@[simp] theorem State.settleReady_failover (s : State) : (s.settleReady).failover = s.failover := rfl
@[simp] theorem State.settleReady_row (s : State) : (s.settleReady).row = s.row := rfl
@[simp] theorem State.settleReady_view (s : State) : (s.settleReady).view = s.view := rfl
@[simp] theorem State.settleReady_i2c (s : State) : (s.settleReady).i2c = s.i2c := rfl
@[simp] theorem State.settleReady_raised (s : State) : (s.settleReady).raised = s.raised := rfl
@[simp] theorem State.settleReady_pending (s : State) : (s.settleReady).pending = s.pending := rfl

/-! ### setPort -/

@[simp] theorem State.setPort_timeBase (s : State) (p : PortId) (x : Port) : (s.setPort p x).timeBase = s.timeBase := rfl
@[simp] theorem State.setPort_station (s : State) (p : PortId) (x : Port) : (s.setPort p x).station = s.station := rfl
@[simp] theorem State.setPort_config (s : State) (p : PortId) (x : Port) : (s.setPort p x).config = s.config := rfl
@[simp] theorem State.setPort_link (s : State) (p : PortId) (x : Port) : (s.setPort p x).link = s.link := rfl
@[simp] theorem State.setPort_ex (s : State) (p : PortId) (x : Port) : (s.setPort p x).ex = s.ex := rfl
@[simp] theorem State.setPort_cache (s : State) (p : PortId) (x : Port) : (s.setPort p x).cache = s.cache := rfl
@[simp] theorem State.setPort_routes (s : State) (p : PortId) (x : Port) : (s.setPort p x).routes = s.routes := rfl
@[simp] theorem State.setPort_failover (s : State) (p : PortId) (x : Port) : (s.setPort p x).failover = s.failover := rfl
@[simp] theorem State.setPort_row (s : State) (p : PortId) (x : Port) : (s.setPort p x).row = s.row := rfl
@[simp] theorem State.setPort_view (s : State) (p : PortId) (x : Port) : (s.setPort p x).view = s.view := rfl
@[simp] theorem State.setPort_i2c (s : State) (p : PortId) (x : Port) : (s.setPort p x).i2c = s.i2c := rfl
@[simp] theorem State.setPort_raised (s : State) (p : PortId) (x : Port) : (s.setPort p x).raised = s.raised := rfl
@[simp] theorem State.setPort_pending (s : State) (p : PortId) (x : Port) : (s.setPort p x).pending = s.pending := rfl

/-! ### modPort -/

@[simp] theorem State.modPort_timeBase (s : State) (p : PortId) (f : Port → Port) : (s.modPort p f).timeBase = s.timeBase := rfl
@[simp] theorem State.modPort_station (s : State) (p : PortId) (f : Port → Port) : (s.modPort p f).station = s.station := rfl
@[simp] theorem State.modPort_config (s : State) (p : PortId) (f : Port → Port) : (s.modPort p f).config = s.config := rfl
@[simp] theorem State.modPort_link (s : State) (p : PortId) (f : Port → Port) : (s.modPort p f).link = s.link := rfl
@[simp] theorem State.modPort_ex (s : State) (p : PortId) (f : Port → Port) : (s.modPort p f).ex = s.ex := rfl
@[simp] theorem State.modPort_cache (s : State) (p : PortId) (f : Port → Port) : (s.modPort p f).cache = s.cache := rfl
@[simp] theorem State.modPort_routes (s : State) (p : PortId) (f : Port → Port) : (s.modPort p f).routes = s.routes := rfl
@[simp] theorem State.modPort_failover (s : State) (p : PortId) (f : Port → Port) : (s.modPort p f).failover = s.failover := rfl
@[simp] theorem State.modPort_row (s : State) (p : PortId) (f : Port → Port) : (s.modPort p f).row = s.row := rfl
@[simp] theorem State.modPort_view (s : State) (p : PortId) (f : Port → Port) : (s.modPort p f).view = s.view := rfl
@[simp] theorem State.modPort_i2c (s : State) (p : PortId) (f : Port → Port) : (s.modPort p f).i2c = s.i2c := rfl
@[simp] theorem State.modPort_raised (s : State) (p : PortId) (f : Port → Port) : (s.modPort p f).raised = s.raised := rfl
@[simp] theorem State.modPort_pending (s : State) (p : PortId) (f : Port → Port) : (s.modPort p f).pending = s.pending := rfl

/-! ### setVerdict -/

@[simp] theorem State.setVerdict_timeBase (s : State) (sw : Nat) (v : VerdictRecord) : (s.setVerdict sw v).timeBase = s.timeBase := rfl
@[simp] theorem State.setVerdict_station (s : State) (sw : Nat) (v : VerdictRecord) : (s.setVerdict sw v).station = s.station := rfl
@[simp] theorem State.setVerdict_config (s : State) (sw : Nat) (v : VerdictRecord) : (s.setVerdict sw v).config = s.config := rfl
@[simp] theorem State.setVerdict_link (s : State) (sw : Nat) (v : VerdictRecord) : (s.setVerdict sw v).link = s.link := rfl
@[simp] theorem State.setVerdict_ex (s : State) (sw : Nat) (v : VerdictRecord) : (s.setVerdict sw v).ex = s.ex := rfl
@[simp] theorem State.setVerdict_cache (s : State) (sw : Nat) (v : VerdictRecord) : (s.setVerdict sw v).cache = s.cache := rfl
@[simp] theorem State.setVerdict_ports (s : State) (sw : Nat) (v : VerdictRecord) : (s.setVerdict sw v).ports = s.ports := rfl
@[simp] theorem State.setVerdict_routes (s : State) (sw : Nat) (v : VerdictRecord) : (s.setVerdict sw v).routes = s.routes := rfl
@[simp] theorem State.setVerdict_failover (s : State) (sw : Nat) (v : VerdictRecord) : (s.setVerdict sw v).failover = s.failover := rfl
@[simp] theorem State.setVerdict_row (s : State) (sw : Nat) (v : VerdictRecord) : (s.setVerdict sw v).row = s.row := rfl
@[simp] theorem State.setVerdict_i2c (s : State) (sw : Nat) (v : VerdictRecord) : (s.setVerdict sw v).i2c = s.i2c := rfl
@[simp] theorem State.setVerdict_raised (s : State) (sw : Nat) (v : VerdictRecord) : (s.setVerdict sw v).raised = s.raised := rfl
@[simp] theorem State.setVerdict_pending (s : State) (sw : Nat) (v : VerdictRecord) : (s.setVerdict sw v).pending = s.pending := rfl

/-! ### setPeer -/

@[simp] theorem State.setPeer_timeBase (s : State) (i : StationId) (e : Option PeerEntry) : (s.setPeer i e).timeBase = s.timeBase := rfl
@[simp] theorem State.setPeer_station (s : State) (i : StationId) (e : Option PeerEntry) : (s.setPeer i e).station = s.station := rfl
@[simp] theorem State.setPeer_config (s : State) (i : StationId) (e : Option PeerEntry) : (s.setPeer i e).config = s.config := rfl
@[simp] theorem State.setPeer_link (s : State) (i : StationId) (e : Option PeerEntry) : (s.setPeer i e).link = s.link := rfl
@[simp] theorem State.setPeer_ex (s : State) (i : StationId) (e : Option PeerEntry) : (s.setPeer i e).ex = s.ex := rfl
@[simp] theorem State.setPeer_cache (s : State) (i : StationId) (e : Option PeerEntry) : (s.setPeer i e).cache = s.cache := rfl
@[simp] theorem State.setPeer_ports (s : State) (i : StationId) (e : Option PeerEntry) : (s.setPeer i e).ports = s.ports := rfl
@[simp] theorem State.setPeer_routes (s : State) (i : StationId) (e : Option PeerEntry) : (s.setPeer i e).routes = s.routes := rfl
@[simp] theorem State.setPeer_failover (s : State) (i : StationId) (e : Option PeerEntry) : (s.setPeer i e).failover = s.failover := rfl
@[simp] theorem State.setPeer_row (s : State) (i : StationId) (e : Option PeerEntry) : (s.setPeer i e).row = s.row := rfl
@[simp] theorem State.setPeer_i2c (s : State) (i : StationId) (e : Option PeerEntry) : (s.setPeer i e).i2c = s.i2c := rfl
@[simp] theorem State.setPeer_raised (s : State) (i : StationId) (e : Option PeerEntry) : (s.setPeer i e).raised = s.raised := rfl
@[simp] theorem State.setPeer_pending (s : State) (i : StationId) (e : Option PeerEntry) : (s.setPeer i e).pending = s.pending := rfl

/-! ### setCacheSet -/

@[simp] theorem State.setCacheSet_timeBase (s : State) (i : Fin 64) (x : CacheSet) : (s.setCacheSet i x).timeBase = s.timeBase := rfl
@[simp] theorem State.setCacheSet_station (s : State) (i : Fin 64) (x : CacheSet) : (s.setCacheSet i x).station = s.station := rfl
@[simp] theorem State.setCacheSet_config (s : State) (i : Fin 64) (x : CacheSet) : (s.setCacheSet i x).config = s.config := rfl
@[simp] theorem State.setCacheSet_link (s : State) (i : Fin 64) (x : CacheSet) : (s.setCacheSet i x).link = s.link := rfl
@[simp] theorem State.setCacheSet_ex (s : State) (i : Fin 64) (x : CacheSet) : (s.setCacheSet i x).ex = s.ex := rfl
@[simp] theorem State.setCacheSet_ports (s : State) (i : Fin 64) (x : CacheSet) : (s.setCacheSet i x).ports = s.ports := rfl
@[simp] theorem State.setCacheSet_routes (s : State) (i : Fin 64) (x : CacheSet) : (s.setCacheSet i x).routes = s.routes := rfl
@[simp] theorem State.setCacheSet_failover (s : State) (i : Fin 64) (x : CacheSet) : (s.setCacheSet i x).failover = s.failover := rfl
@[simp] theorem State.setCacheSet_row (s : State) (i : Fin 64) (x : CacheSet) : (s.setCacheSet i x).row = s.row := rfl
@[simp] theorem State.setCacheSet_view (s : State) (i : Fin 64) (x : CacheSet) : (s.setCacheSet i x).view = s.view := rfl
@[simp] theorem State.setCacheSet_i2c (s : State) (i : Fin 64) (x : CacheSet) : (s.setCacheSet i x).i2c = s.i2c := rfl
@[simp] theorem State.setCacheSet_raised (s : State) (i : Fin 64) (x : CacheSet) : (s.setCacheSet i x).raised = s.raised := rfl
@[simp] theorem State.setCacheSet_pending (s : State) (i : Fin 64) (x : CacheSet) : (s.setCacheSet i x).pending = s.pending := rfl

/-! ### setEntryAt -/

@[simp] theorem State.setEntryAt_timeBase (s : State) (pl : Place) (e : Option Entry) : (s.setEntryAt pl e).timeBase = s.timeBase := rfl
@[simp] theorem State.setEntryAt_station (s : State) (pl : Place) (e : Option Entry) : (s.setEntryAt pl e).station = s.station := rfl
@[simp] theorem State.setEntryAt_config (s : State) (pl : Place) (e : Option Entry) : (s.setEntryAt pl e).config = s.config := rfl
@[simp] theorem State.setEntryAt_link (s : State) (pl : Place) (e : Option Entry) : (s.setEntryAt pl e).link = s.link := rfl
@[simp] theorem State.setEntryAt_ex (s : State) (pl : Place) (e : Option Entry) : (s.setEntryAt pl e).ex = s.ex := rfl
@[simp] theorem State.setEntryAt_ports (s : State) (pl : Place) (e : Option Entry) : (s.setEntryAt pl e).ports = s.ports := rfl
@[simp] theorem State.setEntryAt_routes (s : State) (pl : Place) (e : Option Entry) : (s.setEntryAt pl e).routes = s.routes := rfl
@[simp] theorem State.setEntryAt_failover (s : State) (pl : Place) (e : Option Entry) : (s.setEntryAt pl e).failover = s.failover := rfl
@[simp] theorem State.setEntryAt_row (s : State) (pl : Place) (e : Option Entry) : (s.setEntryAt pl e).row = s.row := rfl
@[simp] theorem State.setEntryAt_view (s : State) (pl : Place) (e : Option Entry) : (s.setEntryAt pl e).view = s.view := rfl
@[simp] theorem State.setEntryAt_i2c (s : State) (pl : Place) (e : Option Entry) : (s.setEntryAt pl e).i2c = s.i2c := rfl
@[simp] theorem State.setEntryAt_raised (s : State) (pl : Place) (e : Option Entry) : (s.setEntryAt pl e).raised = s.raised := rfl
@[simp] theorem State.setEntryAt_pending (s : State) (pl : Place) (e : Option Entry) : (s.setEntryAt pl e).pending = s.pending := rfl

/-! ### useWay -/

@[simp] theorem State.useWay_timeBase (s : State) (pl : Place) : (s.useWay pl).timeBase = s.timeBase := rfl
@[simp] theorem State.useWay_station (s : State) (pl : Place) : (s.useWay pl).station = s.station := rfl
@[simp] theorem State.useWay_config (s : State) (pl : Place) : (s.useWay pl).config = s.config := rfl
@[simp] theorem State.useWay_link (s : State) (pl : Place) : (s.useWay pl).link = s.link := rfl
@[simp] theorem State.useWay_ex (s : State) (pl : Place) : (s.useWay pl).ex = s.ex := rfl
@[simp] theorem State.useWay_ports (s : State) (pl : Place) : (s.useWay pl).ports = s.ports := rfl
@[simp] theorem State.useWay_routes (s : State) (pl : Place) : (s.useWay pl).routes = s.routes := rfl
@[simp] theorem State.useWay_failover (s : State) (pl : Place) : (s.useWay pl).failover = s.failover := rfl
@[simp] theorem State.useWay_row (s : State) (pl : Place) : (s.useWay pl).row = s.row := rfl
@[simp] theorem State.useWay_view (s : State) (pl : Place) : (s.useWay pl).view = s.view := rfl
@[simp] theorem State.useWay_i2c (s : State) (pl : Place) : (s.useWay pl).i2c = s.i2c := rfl
@[simp] theorem State.useWay_raised (s : State) (pl : Place) : (s.useWay pl).raised = s.raised := rfl
@[simp] theorem State.useWay_pending (s : State) (pl : Place) : (s.useWay pl).pending = s.pending := rfl

/-! ### mapEntries -/

@[simp] theorem State.mapEntries_timeBase (s : State) (f : Entry → Entry) : (s.mapEntries f).timeBase = s.timeBase := rfl
@[simp] theorem State.mapEntries_station (s : State) (f : Entry → Entry) : (s.mapEntries f).station = s.station := rfl
@[simp] theorem State.mapEntries_config (s : State) (f : Entry → Entry) : (s.mapEntries f).config = s.config := rfl
@[simp] theorem State.mapEntries_link (s : State) (f : Entry → Entry) : (s.mapEntries f).link = s.link := rfl
@[simp] theorem State.mapEntries_ex (s : State) (f : Entry → Entry) : (s.mapEntries f).ex = s.ex := rfl
@[simp] theorem State.mapEntries_ports (s : State) (f : Entry → Entry) : (s.mapEntries f).ports = s.ports := rfl
@[simp] theorem State.mapEntries_routes (s : State) (f : Entry → Entry) : (s.mapEntries f).routes = s.routes := rfl
@[simp] theorem State.mapEntries_failover (s : State) (f : Entry → Entry) : (s.mapEntries f).failover = s.failover := rfl
@[simp] theorem State.mapEntries_row (s : State) (f : Entry → Entry) : (s.mapEntries f).row = s.row := rfl
@[simp] theorem State.mapEntries_view (s : State) (f : Entry → Entry) : (s.mapEntries f).view = s.view := rfl
@[simp] theorem State.mapEntries_i2c (s : State) (f : Entry → Entry) : (s.mapEntries f).i2c = s.i2c := rfl
@[simp] theorem State.mapEntries_raised (s : State) (f : Entry → Entry) : (s.mapEntries f).raised = s.raised := rfl
@[simp] theorem State.mapEntries_pending (s : State) (f : Entry → Entry) : (s.mapEntries f).pending = s.pending := rfl

/-! ### setLink -/

@[simp] theorem State.setLink_timeBase (s : State) (l : HostLink) : (s.setLink l).timeBase = s.timeBase := rfl
@[simp] theorem State.setLink_station (s : State) (l : HostLink) : (s.setLink l).station = s.station := rfl
@[simp] theorem State.setLink_config (s : State) (l : HostLink) : (s.setLink l).config = s.config := rfl
@[simp] theorem State.setLink_ex (s : State) (l : HostLink) : (s.setLink l).ex = s.ex := rfl
@[simp] theorem State.setLink_cache (s : State) (l : HostLink) : (s.setLink l).cache = s.cache := rfl
@[simp] theorem State.setLink_ports (s : State) (l : HostLink) : (s.setLink l).ports = s.ports := rfl
@[simp] theorem State.setLink_routes (s : State) (l : HostLink) : (s.setLink l).routes = s.routes := rfl
@[simp] theorem State.setLink_failover (s : State) (l : HostLink) : (s.setLink l).failover = s.failover := rfl
@[simp] theorem State.setLink_row (s : State) (l : HostLink) : (s.setLink l).row = s.row := rfl
@[simp] theorem State.setLink_view (s : State) (l : HostLink) : (s.setLink l).view = s.view := rfl
@[simp] theorem State.setLink_i2c (s : State) (l : HostLink) : (s.setLink l).i2c = s.i2c := rfl
@[simp] theorem State.setLink_raised (s : State) (l : HostLink) : (s.setLink l).raised = s.raised := rfl
@[simp] theorem State.setLink_pending (s : State) (l : HostLink) : (s.setLink l).pending = s.pending := rfl

/-! ### setHeadWait -/

@[simp] theorem State.setHeadWait_timeBase (s : State) (w : HeadWait) : (s.setHeadWait w).timeBase = s.timeBase := rfl
@[simp] theorem State.setHeadWait_station (s : State) (w : HeadWait) : (s.setHeadWait w).station = s.station := rfl
@[simp] theorem State.setHeadWait_config (s : State) (w : HeadWait) : (s.setHeadWait w).config = s.config := rfl
@[simp] theorem State.setHeadWait_ex (s : State) (w : HeadWait) : (s.setHeadWait w).ex = s.ex := rfl
@[simp] theorem State.setHeadWait_cache (s : State) (w : HeadWait) : (s.setHeadWait w).cache = s.cache := rfl
@[simp] theorem State.setHeadWait_ports (s : State) (w : HeadWait) : (s.setHeadWait w).ports = s.ports := rfl
@[simp] theorem State.setHeadWait_routes (s : State) (w : HeadWait) : (s.setHeadWait w).routes = s.routes := rfl
@[simp] theorem State.setHeadWait_failover (s : State) (w : HeadWait) : (s.setHeadWait w).failover = s.failover := rfl
@[simp] theorem State.setHeadWait_row (s : State) (w : HeadWait) : (s.setHeadWait w).row = s.row := rfl
@[simp] theorem State.setHeadWait_view (s : State) (w : HeadWait) : (s.setHeadWait w).view = s.view := rfl
@[simp] theorem State.setHeadWait_i2c (s : State) (w : HeadWait) : (s.setHeadWait w).i2c = s.i2c := rfl
@[simp] theorem State.setHeadWait_raised (s : State) (w : HeadWait) : (s.setHeadWait w).raised = s.raised := rfl
@[simp] theorem State.setHeadWait_pending (s : State) (w : HeadWait) : (s.setHeadWait w).pending = s.pending := rfl

/-! ### popIngress -/

@[simp] theorem State.popIngress_timeBase (s : State) : (s.popIngress).timeBase = s.timeBase := rfl
@[simp] theorem State.popIngress_station (s : State) : (s.popIngress).station = s.station := rfl
@[simp] theorem State.popIngress_config (s : State) : (s.popIngress).config = s.config := rfl
@[simp] theorem State.popIngress_ex (s : State) : (s.popIngress).ex = s.ex := rfl
@[simp] theorem State.popIngress_cache (s : State) : (s.popIngress).cache = s.cache := rfl
@[simp] theorem State.popIngress_ports (s : State) : (s.popIngress).ports = s.ports := rfl
@[simp] theorem State.popIngress_routes (s : State) : (s.popIngress).routes = s.routes := rfl
@[simp] theorem State.popIngress_failover (s : State) : (s.popIngress).failover = s.failover := rfl
@[simp] theorem State.popIngress_row (s : State) : (s.popIngress).row = s.row := rfl
@[simp] theorem State.popIngress_view (s : State) : (s.popIngress).view = s.view := rfl
@[simp] theorem State.popIngress_i2c (s : State) : (s.popIngress).i2c = s.i2c := rfl
@[simp] theorem State.popIngress_raised (s : State) : (s.popIngress).raised = s.raised := rfl
@[simp] theorem State.popIngress_pending (s : State) : (s.popIngress).pending = s.pending := rfl

/-! ### pushReply -/

@[simp] theorem State.pushReply_timeBase (s : State) (r : Reply) : (s.pushReply r).timeBase = s.timeBase := rfl
@[simp] theorem State.pushReply_station (s : State) (r : Reply) : (s.pushReply r).station = s.station := rfl
@[simp] theorem State.pushReply_config (s : State) (r : Reply) : (s.pushReply r).config = s.config := rfl
@[simp] theorem State.pushReply_ex (s : State) (r : Reply) : (s.pushReply r).ex = s.ex := rfl
@[simp] theorem State.pushReply_cache (s : State) (r : Reply) : (s.pushReply r).cache = s.cache := rfl
@[simp] theorem State.pushReply_ports (s : State) (r : Reply) : (s.pushReply r).ports = s.ports := rfl
@[simp] theorem State.pushReply_routes (s : State) (r : Reply) : (s.pushReply r).routes = s.routes := rfl
@[simp] theorem State.pushReply_failover (s : State) (r : Reply) : (s.pushReply r).failover = s.failover := rfl
@[simp] theorem State.pushReply_row (s : State) (r : Reply) : (s.pushReply r).row = s.row := rfl
@[simp] theorem State.pushReply_view (s : State) (r : Reply) : (s.pushReply r).view = s.view := rfl
@[simp] theorem State.pushReply_i2c (s : State) (r : Reply) : (s.pushReply r).i2c = s.i2c := rfl
@[simp] theorem State.pushReply_raised (s : State) (r : Reply) : (s.pushReply r).raised = s.raised := rfl
@[simp] theorem State.pushReply_pending (s : State) (r : Reply) : (s.pushReply r).pending = s.pending := rfl

/-! ### setRow -/

@[simp] theorem State.setRow_timeBase (s : State) (r : RowBus) : (s.setRow r).timeBase = s.timeBase := rfl
@[simp] theorem State.setRow_station (s : State) (r : RowBus) : (s.setRow r).station = s.station := rfl
@[simp] theorem State.setRow_config (s : State) (r : RowBus) : (s.setRow r).config = s.config := rfl
@[simp] theorem State.setRow_link (s : State) (r : RowBus) : (s.setRow r).link = s.link := rfl
@[simp] theorem State.setRow_ex (s : State) (r : RowBus) : (s.setRow r).ex = s.ex := rfl
@[simp] theorem State.setRow_cache (s : State) (r : RowBus) : (s.setRow r).cache = s.cache := rfl
@[simp] theorem State.setRow_ports (s : State) (r : RowBus) : (s.setRow r).ports = s.ports := rfl
@[simp] theorem State.setRow_routes (s : State) (r : RowBus) : (s.setRow r).routes = s.routes := rfl
@[simp] theorem State.setRow_failover (s : State) (r : RowBus) : (s.setRow r).failover = s.failover := rfl
@[simp] theorem State.setRow_view (s : State) (r : RowBus) : (s.setRow r).view = s.view := rfl
@[simp] theorem State.setRow_i2c (s : State) (r : RowBus) : (s.setRow r).i2c = s.i2c := rfl
@[simp] theorem State.setRow_raised (s : State) (r : RowBus) : (s.setRow r).raised = s.raised := rfl
@[simp] theorem State.setRow_pending (s : State) (r : RowBus) : (s.setRow r).pending = s.pending := rfl

/-! ### setStation -/

@[simp] theorem State.setStation_timeBase (s : State) (x : Station) : (s.setStation x).timeBase = s.timeBase := rfl
@[simp] theorem State.setStation_config (s : State) (x : Station) : (s.setStation x).config = s.config := rfl
@[simp] theorem State.setStation_link (s : State) (x : Station) : (s.setStation x).link = s.link := rfl
@[simp] theorem State.setStation_ex (s : State) (x : Station) : (s.setStation x).ex = s.ex := rfl
@[simp] theorem State.setStation_cache (s : State) (x : Station) : (s.setStation x).cache = s.cache := rfl
@[simp] theorem State.setStation_ports (s : State) (x : Station) : (s.setStation x).ports = s.ports := rfl
@[simp] theorem State.setStation_routes (s : State) (x : Station) : (s.setStation x).routes = s.routes := rfl
@[simp] theorem State.setStation_failover (s : State) (x : Station) : (s.setStation x).failover = s.failover := rfl
@[simp] theorem State.setStation_row (s : State) (x : Station) : (s.setStation x).row = s.row := rfl
@[simp] theorem State.setStation_view (s : State) (x : Station) : (s.setStation x).view = s.view := rfl
@[simp] theorem State.setStation_i2c (s : State) (x : Station) : (s.setStation x).i2c = s.i2c := rfl
@[simp] theorem State.setStation_raised (s : State) (x : Station) : (s.setStation x).raised = s.raised := rfl
@[simp] theorem State.setStation_pending (s : State) (x : Station) : (s.setStation x).pending = s.pending := rfl

/-! ### setFailover -/

@[simp] theorem State.setFailover_timeBase (s : State) (x : Failover) : (s.setFailover x).timeBase = s.timeBase := rfl
@[simp] theorem State.setFailover_station (s : State) (x : Failover) : (s.setFailover x).station = s.station := rfl
@[simp] theorem State.setFailover_config (s : State) (x : Failover) : (s.setFailover x).config = s.config := rfl
@[simp] theorem State.setFailover_link (s : State) (x : Failover) : (s.setFailover x).link = s.link := rfl
@[simp] theorem State.setFailover_ex (s : State) (x : Failover) : (s.setFailover x).ex = s.ex := rfl
@[simp] theorem State.setFailover_cache (s : State) (x : Failover) : (s.setFailover x).cache = s.cache := rfl
@[simp] theorem State.setFailover_ports (s : State) (x : Failover) : (s.setFailover x).ports = s.ports := rfl
@[simp] theorem State.setFailover_routes (s : State) (x : Failover) : (s.setFailover x).routes = s.routes := rfl
@[simp] theorem State.setFailover_row (s : State) (x : Failover) : (s.setFailover x).row = s.row := rfl
@[simp] theorem State.setFailover_view (s : State) (x : Failover) : (s.setFailover x).view = s.view := rfl
@[simp] theorem State.setFailover_i2c (s : State) (x : Failover) : (s.setFailover x).i2c = s.i2c := rfl
@[simp] theorem State.setFailover_raised (s : State) (x : Failover) : (s.setFailover x).raised = s.raised := rfl
@[simp] theorem State.setFailover_pending (s : State) (x : Failover) : (s.setFailover x).pending = s.pending := rfl

/-! ### setWork -/

@[simp] theorem State.setWork_timeBase (s : State) (l : List WorkItem) : (s.setWork l).timeBase = s.timeBase := rfl
@[simp] theorem State.setWork_station (s : State) (l : List WorkItem) : (s.setWork l).station = s.station := rfl
@[simp] theorem State.setWork_config (s : State) (l : List WorkItem) : (s.setWork l).config = s.config := rfl
@[simp] theorem State.setWork_link (s : State) (l : List WorkItem) : (s.setWork l).link = s.link := rfl
@[simp] theorem State.setWork_ex (s : State) (l : List WorkItem) : (s.setWork l).ex = s.ex := rfl
@[simp] theorem State.setWork_cache (s : State) (l : List WorkItem) : (s.setWork l).cache = s.cache := rfl
@[simp] theorem State.setWork_ports (s : State) (l : List WorkItem) : (s.setWork l).ports = s.ports := rfl
@[simp] theorem State.setWork_routes (s : State) (l : List WorkItem) : (s.setWork l).routes = s.routes := rfl
@[simp] theorem State.setWork_row (s : State) (l : List WorkItem) : (s.setWork l).row = s.row := rfl
@[simp] theorem State.setWork_view (s : State) (l : List WorkItem) : (s.setWork l).view = s.view := rfl
@[simp] theorem State.setWork_i2c (s : State) (l : List WorkItem) : (s.setWork l).i2c = s.i2c := rfl
@[simp] theorem State.setWork_raised (s : State) (l : List WorkItem) : (s.setWork l).raised = s.raised := rfl
@[simp] theorem State.setWork_pending (s : State) (l : List WorkItem) : (s.setWork l).pending = s.pending := rfl

/-! ### setCurrent -/

@[simp] theorem State.setCurrent_timeBase (s : State) (x : Option InProgress) : (s.setCurrent x).timeBase = s.timeBase := rfl
@[simp] theorem State.setCurrent_station (s : State) (x : Option InProgress) : (s.setCurrent x).station = s.station := rfl
@[simp] theorem State.setCurrent_config (s : State) (x : Option InProgress) : (s.setCurrent x).config = s.config := rfl
@[simp] theorem State.setCurrent_link (s : State) (x : Option InProgress) : (s.setCurrent x).link = s.link := rfl
@[simp] theorem State.setCurrent_ex (s : State) (x : Option InProgress) : (s.setCurrent x).ex = s.ex := rfl
@[simp] theorem State.setCurrent_cache (s : State) (x : Option InProgress) : (s.setCurrent x).cache = s.cache := rfl
@[simp] theorem State.setCurrent_ports (s : State) (x : Option InProgress) : (s.setCurrent x).ports = s.ports := rfl
@[simp] theorem State.setCurrent_routes (s : State) (x : Option InProgress) : (s.setCurrent x).routes = s.routes := rfl
@[simp] theorem State.setCurrent_row (s : State) (x : Option InProgress) : (s.setCurrent x).row = s.row := rfl
@[simp] theorem State.setCurrent_view (s : State) (x : Option InProgress) : (s.setCurrent x).view = s.view := rfl
@[simp] theorem State.setCurrent_i2c (s : State) (x : Option InProgress) : (s.setCurrent x).i2c = s.i2c := rfl
@[simp] theorem State.setCurrent_raised (s : State) (x : Option InProgress) : (s.setCurrent x).raised = s.raised := rfl
@[simp] theorem State.setCurrent_pending (s : State) (x : Option InProgress) : (s.setCurrent x).pending = s.pending := rfl

/-! ### raise -/

@[simp] theorem State.raise_timeBase (s : State) (b : NoticeBody) : (s.raise b).timeBase = s.timeBase := rfl
@[simp] theorem State.raise_station (s : State) (b : NoticeBody) : (s.raise b).station = s.station := rfl
@[simp] theorem State.raise_config (s : State) (b : NoticeBody) : (s.raise b).config = s.config := rfl
@[simp] theorem State.raise_link (s : State) (b : NoticeBody) : (s.raise b).link = s.link := rfl
@[simp] theorem State.raise_ex (s : State) (b : NoticeBody) : (s.raise b).ex = s.ex := rfl
@[simp] theorem State.raise_cache (s : State) (b : NoticeBody) : (s.raise b).cache = s.cache := rfl
@[simp] theorem State.raise_ports (s : State) (b : NoticeBody) : (s.raise b).ports = s.ports := rfl
@[simp] theorem State.raise_routes (s : State) (b : NoticeBody) : (s.raise b).routes = s.routes := rfl
@[simp] theorem State.raise_failover (s : State) (b : NoticeBody) : (s.raise b).failover = s.failover := rfl
@[simp] theorem State.raise_row (s : State) (b : NoticeBody) : (s.raise b).row = s.row := rfl
@[simp] theorem State.raise_view (s : State) (b : NoticeBody) : (s.raise b).view = s.view := rfl
@[simp] theorem State.raise_i2c (s : State) (b : NoticeBody) : (s.raise b).i2c = s.i2c := rfl
@[simp] theorem State.raise_pending (s : State) (b : NoticeBody) : (s.raise b).pending = s.pending := rfl

/-! ### setCell -/

@[simp] theorem State.setCell_timeBase (s : State) (t : Nat) (p : PortId) (x : Cell) : (s.setCell t p x).timeBase = s.timeBase := by unfold State.setCell; split <;> rfl
@[simp] theorem State.setCell_station (s : State) (t : Nat) (p : PortId) (x : Cell) : (s.setCell t p x).station = s.station := by unfold State.setCell; split <;> rfl
@[simp] theorem State.setCell_config (s : State) (t : Nat) (p : PortId) (x : Cell) : (s.setCell t p x).config = s.config := by unfold State.setCell; split <;> rfl
@[simp] theorem State.setCell_link (s : State) (t : Nat) (p : PortId) (x : Cell) : (s.setCell t p x).link = s.link := by unfold State.setCell; split <;> rfl
@[simp] theorem State.setCell_ex (s : State) (t : Nat) (p : PortId) (x : Cell) : (s.setCell t p x).ex = s.ex := by unfold State.setCell; split <;> rfl
@[simp] theorem State.setCell_cache (s : State) (t : Nat) (p : PortId) (x : Cell) : (s.setCell t p x).cache = s.cache := by unfold State.setCell; split <;> rfl
@[simp] theorem State.setCell_ports (s : State) (t : Nat) (p : PortId) (x : Cell) : (s.setCell t p x).ports = s.ports := by unfold State.setCell; split <;> rfl
@[simp] theorem State.setCell_failover (s : State) (t : Nat) (p : PortId) (x : Cell) : (s.setCell t p x).failover = s.failover := by unfold State.setCell; split <;> rfl
@[simp] theorem State.setCell_row (s : State) (t : Nat) (p : PortId) (x : Cell) : (s.setCell t p x).row = s.row := by unfold State.setCell; split <;> rfl
@[simp] theorem State.setCell_view (s : State) (t : Nat) (p : PortId) (x : Cell) : (s.setCell t p x).view = s.view := by unfold State.setCell; split <;> rfl
@[simp] theorem State.setCell_i2c (s : State) (t : Nat) (p : PortId) (x : Cell) : (s.setCell t p x).i2c = s.i2c := by unfold State.setCell; split <;> rfl
@[simp] theorem State.setCell_raised (s : State) (t : Nat) (p : PortId) (x : Cell) : (s.setCell t p x).raised = s.raised := by unfold State.setCell; split <;> rfl
@[simp] theorem State.setCell_pending (s : State) (t : Nat) (p : PortId) (x : Cell) : (s.setCell t p x).pending = s.pending := by unfold State.setCell; split <;> rfl

/-! ### modCell -/

@[simp] theorem State.modCell_timeBase (s : State) (t : Nat) (p : PortId) (f : Cell → Cell) : (s.modCell t p f).timeBase = s.timeBase := by simp [State.modCell]
@[simp] theorem State.modCell_station (s : State) (t : Nat) (p : PortId) (f : Cell → Cell) : (s.modCell t p f).station = s.station := by simp [State.modCell]
@[simp] theorem State.modCell_config (s : State) (t : Nat) (p : PortId) (f : Cell → Cell) : (s.modCell t p f).config = s.config := by simp [State.modCell]
@[simp] theorem State.modCell_link (s : State) (t : Nat) (p : PortId) (f : Cell → Cell) : (s.modCell t p f).link = s.link := by simp [State.modCell]
@[simp] theorem State.modCell_ex (s : State) (t : Nat) (p : PortId) (f : Cell → Cell) : (s.modCell t p f).ex = s.ex := by simp [State.modCell]
@[simp] theorem State.modCell_cache (s : State) (t : Nat) (p : PortId) (f : Cell → Cell) : (s.modCell t p f).cache = s.cache := by simp [State.modCell]
@[simp] theorem State.modCell_ports (s : State) (t : Nat) (p : PortId) (f : Cell → Cell) : (s.modCell t p f).ports = s.ports := by simp [State.modCell]
@[simp] theorem State.modCell_failover (s : State) (t : Nat) (p : PortId) (f : Cell → Cell) : (s.modCell t p f).failover = s.failover := by simp [State.modCell]
@[simp] theorem State.modCell_row (s : State) (t : Nat) (p : PortId) (f : Cell → Cell) : (s.modCell t p f).row = s.row := by simp [State.modCell]
@[simp] theorem State.modCell_view (s : State) (t : Nat) (p : PortId) (f : Cell → Cell) : (s.modCell t p f).view = s.view := by simp [State.modCell]
@[simp] theorem State.modCell_i2c (s : State) (t : Nat) (p : PortId) (f : Cell → Cell) : (s.modCell t p f).i2c = s.i2c := by simp [State.modCell]
@[simp] theorem State.modCell_raised (s : State) (t : Nat) (p : PortId) (f : Cell → Cell) : (s.modCell t p f).raised = s.raised := by simp [State.modCell]
@[simp] theorem State.modCell_pending (s : State) (t : Nat) (p : PortId) (f : Cell → Cell) : (s.modCell t p f).pending = s.pending := by simp [State.modCell]

/-! ### detach and flush -/

@[simp] theorem State.detach_timeBase (s : State) (i : Slot) : (s.detach i).timeBase = s.timeBase := rfl
@[simp] theorem State.detach_station (s : State) (i : Slot) : (s.detach i).station = s.station := rfl
@[simp] theorem State.detach_config (s : State) (i : Slot) : (s.detach i).config = s.config := rfl
@[simp] theorem State.detach_link (s : State) (i : Slot) : (s.detach i).link = s.link := rfl
@[simp] theorem State.detach_cache (s : State) (i : Slot) : (s.detach i).cache = s.cache := rfl
@[simp] theorem State.detach_routes (s : State) (i : Slot) : (s.detach i).routes = s.routes := rfl
@[simp] theorem State.detach_failover (s : State) (i : Slot) : (s.detach i).failover = s.failover := rfl
@[simp] theorem State.detach_row (s : State) (i : Slot) : (s.detach i).row = s.row := rfl
@[simp] theorem State.detach_view (s : State) (i : Slot) : (s.detach i).view = s.view := rfl
@[simp] theorem State.detach_i2c (s : State) (i : Slot) : (s.detach i).i2c = s.i2c := rfl
@[simp] theorem State.detach_raised (s : State) (i : Slot) : (s.detach i).raised = s.raised := rfl
@[simp] theorem State.detach_pending (s : State) (i : Slot) : (s.detach i).pending = s.pending := rfl

@[simp] theorem State.flush_timeBase (s : State) : (s.flush).timeBase = s.timeBase := rfl
@[simp] theorem State.flush_station (s : State) : (s.flush).station = s.station := rfl
@[simp] theorem State.flush_config (s : State) : (s.flush).config = s.config := rfl
@[simp] theorem State.flush_ex (s : State) : (s.flush).ex = s.ex := rfl
@[simp] theorem State.flush_cache (s : State) : (s.flush).cache = s.cache := rfl
@[simp] theorem State.flush_ports (s : State) : (s.flush).ports = s.ports := rfl
@[simp] theorem State.flush_routes (s : State) : (s.flush).routes = s.routes := rfl
@[simp] theorem State.flush_failover (s : State) : (s.flush).failover = s.failover := rfl
@[simp] theorem State.flush_row (s : State) : (s.flush).row = s.row := rfl
@[simp] theorem State.flush_view (s : State) : (s.flush).view = s.view := rfl
@[simp] theorem State.flush_i2c (s : State) : (s.flush).i2c = s.i2c := rfl
@[simp] theorem State.flush_pending (s : State) : (s.flush).pending = s.pending := rfl
@[simp] theorem State.flush_raised (s : State) : s.flush.raised = [] := rfl

/-! ### What is read back -/

theorem State.port_setPort (s : State) (p q : PortId) (x : Port) : (s.setPort p x).port q = if p = q then x else s.port q := by
  by_cases h : p = q
  · subst h; simp [State.port, State.setPort]
  · have h' : p.val ≠ q.val := fun e => h (Fin.ext e)
    simp [State.port, State.setPort, h, h']

@[simp] theorem State.port_setPort_self (s : State) (p : PortId) (x : Port) : (s.setPort p x).port p = x := by
  simp [State.port_setPort]

theorem State.port_modPort (s : State) (p q : PortId) (f : Port → Port) :
    (s.modPort p f).port q = if p = q then f (s.port p) else s.port q := by
  simp [State.modPort, State.port_setPort]

theorem State.record_setRec (s : State) (i j : Slot) (r : SlotRecord) :
    (s.setRec i r).record j = if i = j then r else s.record j := by
  by_cases h : i = j
  · subst h; simp [State.record, State.setRec]
  · have h' : i.val ≠ j.val := fun e => h (Fin.ext e)
    simp [State.record, State.setRec, h, h']

theorem State.live_modLive (s : State) (i j : Slot) (f : Exchange → Exchange) :
    (s.modLive i f).live j = if i = j then (s.live i).map f else s.live j := by
  simp only [State.modLive, State.live, State.record_setRec]
  split <;> rfl

theorem State.live_setPhase (s : State) (i j : Slot) (ph : Phase) :
    (s.setPhase i ph).live j = if i = j then (s.live i).map (fun e => { e with phase := ph }) else s.live j := by
  simp [State.setPhase, State.live_modLive]

theorem State.outstanding_setOutstanding (s : State) (p q : PortId) (l : List Slot) :
    (s.setOutstanding p l).outstanding q = if p = q then l else s.outstanding q := by
  by_cases h : p = q
  · subst h; simp [State.outstanding, State.setOutstanding]
  · have h' : p.val ≠ q.val := fun e => h (Fin.ext e)
    simp [State.outstanding, State.setOutstanding, h, h']

theorem State.cacheSet_setCacheSet (s : State) (i j : Fin 64) (x : CacheSet) :
    (s.setCacheSet i x).cacheSet j = if i = j then x else s.cacheSet j := by
  by_cases h : i = j
  · subst h; simp [State.cacheSet, State.setCacheSet]
  · have h' : i.val ≠ j.val := fun e => h (Fin.ext e)
    simp [State.cacheSet, State.setCacheSet, h, h']

theorem State.entryAt_setEntryAt (s : State) (pl pl' : Place) (e : Option Entry) :
    (s.setEntryAt pl e).entryAt pl' = if pl = pl' then e else s.entryAt pl' := by
  obtain ⟨i, w⟩ := pl
  obtain ⟨j, v⟩ := pl'
  simp only [State.entryAt, State.setEntryAt, State.cacheSet_setCacheSet, Place.mk.injEq]
  by_cases h : i = j
  · subst h
    by_cases hw : w = v
    · subst hw; simp
    · have hw' : w.val ≠ v.val := fun x => hw (Fin.ext x)
      simp [hw, hw']
  · simp [h]

theorem State.peer_setPeer (s : State) (i j : StationId) (e : Option PeerEntry) :
    (s.setPeer i e).peer j = if i = j then e else s.peer j := by
  by_cases h : i = j
  · subst h; simp [State.peer, State.setPeer]
  · have h' : i.val ≠ j.val := fun x => h (Fin.ext x)
    simp [State.peer, State.setPeer, h, h']

/-- The cell of a target and a port after a write, for a target that exists. -/
theorem State.cell_setCell (s : State) (t u : Nat) (p q : PortId) (x : Cell) (ht : 1 ≤ t ∧ t ≤ 63) :
    (s.setCell t p x).cell u q = if t = u ∧ p = q then x else s.cell u q := by
  unfold State.cell State.setCell
  by_cases hu : 1 ≤ u ∧ u ≤ 63
  · have e : ((t - 1) * 4 + p.val = (u - 1) * 4 + q.val) ↔ (t = u ∧ p = q) := by
      constructor
      · intro h
        refine ⟨by omega, Fin.ext (by omega)⟩
      · rintro ⟨rfl, rfl⟩; rfl
    simp [ht, hu, Vector.getElem_set, e]
  · have : ¬ (t = u ∧ p = q) := fun h => hu (h.1 ▸ ht)
    simp [hu, this]

/-- The verdict record of a switch after a write, for a switch that exists. -/
theorem State.verdict_setVerdict (s : State) (a b : Nat) (v : VerdictRecord) (ha : 1 ≤ a ∧ a ≤ 15) :
    (s.setVerdict a v).verdict b = if a = b then v else s.verdict b := by
  unfold State.verdict State.setVerdict bySwitch setBySwitch
  by_cases hb : 1 ≤ b ∧ b ≤ 15
  · have e : (a - 1 = b - 1) ↔ a = b := by omega
    simp [ha, hb, Vector.getElem_set, e]
  · have : a ≠ b := fun h => hb (h ▸ ha)
    simp [hb, this]

end Sys2Proof.Machine
end

