-- ==== Sys2Proof/Laws/Frames.lean ====
section
/-! SUPPORT. What each shared operation leaves as it was: one lemma for each, naming the fields of the state that it cannot touch. -/

namespace Sys2Proof.Machine

open Sys2Proof

/-- A field that each step of a fold keeps is kept by the fold. -/
theorem foldl_keeps {α β : Type} (g : State → β) (f : State → α → State) (h : ∀ u x, g (f u x) = g u) (l : List α) (s : State) :
    g (l.foldl f s) = g s := by
  induction l generalizing s with
  | nil => rfl
  | cons x l ih => rw [List.foldl_cons, ih, h]

@[simp] theorem State.modEntryOf_frame (s : State) (a : Word32) (t : Nat) (f : Entry → Entry) :
    (s.modEntryOf a t f).timeBase = s.timeBase ∧ (s.modEntryOf a t f).station = s.station ∧ (s.modEntryOf a t f).config = s.config ∧ (s.modEntryOf a t f).link = s.link ∧ (s.modEntryOf a t f).ex = s.ex ∧ (s.modEntryOf a t f).ports = s.ports ∧ (s.modEntryOf a t f).routes = s.routes ∧ (s.modEntryOf a t f).failover = s.failover ∧ (s.modEntryOf a t f).row = s.row ∧ (s.modEntryOf a t f).view = s.view ∧ (s.modEntryOf a t f).raised = s.raised ∧ (s.modEntryOf a t f).i2c = s.i2c ∧ (s.modEntryOf a t f).pending = s.pending := by unfold State.modEntryOf; (repeat' split) <;> simp

@[simp] theorem State.raiseCount_frame (s : State) (a : Word32) (t : Nat) :
    (s.raiseCount a t).timeBase = s.timeBase ∧ (s.raiseCount a t).station = s.station ∧ (s.raiseCount a t).config = s.config ∧ (s.raiseCount a t).link = s.link ∧ (s.raiseCount a t).ex = s.ex ∧ (s.raiseCount a t).ports = s.ports ∧ (s.raiseCount a t).routes = s.routes ∧ (s.raiseCount a t).failover = s.failover ∧ (s.raiseCount a t).row = s.row ∧ (s.raiseCount a t).view = s.view ∧ (s.raiseCount a t).raised = s.raised ∧ (s.raiseCount a t).i2c = s.i2c ∧ (s.raiseCount a t).pending = s.pending := by unfold State.raiseCount; simp

@[simp] theorem State.placePair_frame (s : State) (a : Word32) (t : Nat) (p : Option PortId) :
    (s.placePair a t p).timeBase = s.timeBase ∧ (s.placePair a t p).station = s.station ∧ (s.placePair a t p).config = s.config ∧ (s.placePair a t p).link = s.link ∧ (s.placePair a t p).ex = s.ex ∧ (s.placePair a t p).ports = s.ports ∧ (s.placePair a t p).routes = s.routes ∧ (s.placePair a t p).failover = s.failover ∧ (s.placePair a t p).row = s.row ∧ (s.placePair a t p).view = s.view ∧ (s.placePair a t p).raised = s.raised ∧ (s.placePair a t p).i2c = s.i2c ∧ (s.placePair a t p).pending = s.pending := by unfold State.placePair; simp

@[simp] theorem State.endSetWait_frame (s : State) (i : Fin 64) :
    (s.endSetWait i).timeBase = s.timeBase ∧ (s.endSetWait i).station = s.station ∧ (s.endSetWait i).config = s.config ∧ (s.endSetWait i).ex = s.ex ∧ (s.endSetWait i).cache = s.cache ∧ (s.endSetWait i).ports = s.ports ∧ (s.endSetWait i).routes = s.routes ∧ (s.endSetWait i).failover = s.failover ∧ (s.endSetWait i).row = s.row ∧ (s.endSetWait i).view = s.view ∧ (s.endSetWait i).raised = s.raised ∧ (s.endSetWait i).i2c = s.i2c ∧ (s.endSetWait i).pending = s.pending := by unfold State.endSetWait; (repeat' split) <;> simp

@[simp] theorem State.lowerCount_frame (s : State) (a : Word32) (t : Nat) :
    (s.lowerCount a t).timeBase = s.timeBase ∧ (s.lowerCount a t).station = s.station ∧ (s.lowerCount a t).config = s.config ∧ (s.lowerCount a t).ex = s.ex ∧ (s.lowerCount a t).ports = s.ports ∧ (s.lowerCount a t).routes = s.routes ∧ (s.lowerCount a t).failover = s.failover ∧ (s.lowerCount a t).row = s.row ∧ (s.lowerCount a t).view = s.view ∧ (s.lowerCount a t).raised = s.raised ∧ (s.lowerCount a t).i2c = s.i2c ∧ (s.lowerCount a t).pending = s.pending := by unfold State.lowerCount; dsimp only; split <;> simp

@[simp] theorem State.setQuiesceMarks_frame (s : State) (p : PortId) :
    (s.setQuiesceMarks p).timeBase = s.timeBase ∧ (s.setQuiesceMarks p).station = s.station ∧ (s.setQuiesceMarks p).config = s.config ∧ (s.setQuiesceMarks p).link = s.link ∧ (s.setQuiesceMarks p).ex = s.ex ∧ (s.setQuiesceMarks p).ports = s.ports ∧ (s.setQuiesceMarks p).routes = s.routes ∧ (s.setQuiesceMarks p).failover = s.failover ∧ (s.setQuiesceMarks p).row = s.row ∧ (s.setQuiesceMarks p).view = s.view ∧ (s.setQuiesceMarks p).raised = s.raised ∧ (s.setQuiesceMarks p).i2c = s.i2c ∧ (s.setQuiesceMarks p).pending = s.pending := by unfold State.setQuiesceMarks; simp

@[simp] theorem State.clearQuiesceMarks_frame (s : State) (p : PortId) :
    (s.clearQuiesceMarks p).timeBase = s.timeBase ∧ (s.clearQuiesceMarks p).station = s.station ∧ (s.clearQuiesceMarks p).config = s.config ∧ (s.clearQuiesceMarks p).link = s.link ∧ (s.clearQuiesceMarks p).ex = s.ex ∧ (s.clearQuiesceMarks p).ports = s.ports ∧ (s.clearQuiesceMarks p).routes = s.routes ∧ (s.clearQuiesceMarks p).failover = s.failover ∧ (s.clearQuiesceMarks p).row = s.row ∧ (s.clearQuiesceMarks p).view = s.view ∧ (s.clearQuiesceMarks p).raised = s.raised ∧ (s.clearQuiesceMarks p).i2c = s.i2c ∧ (s.clearQuiesceMarks p).pending = s.pending := by unfold State.clearQuiesceMarks; simp

@[simp] theorem State.setVerdictMarks_frame (s : State) (sw : Nat) :
    (s.setVerdictMarks sw).timeBase = s.timeBase ∧ (s.setVerdictMarks sw).station = s.station ∧ (s.setVerdictMarks sw).config = s.config ∧ (s.setVerdictMarks sw).link = s.link ∧ (s.setVerdictMarks sw).ex = s.ex ∧ (s.setVerdictMarks sw).ports = s.ports ∧ (s.setVerdictMarks sw).routes = s.routes ∧ (s.setVerdictMarks sw).failover = s.failover ∧ (s.setVerdictMarks sw).row = s.row ∧ (s.setVerdictMarks sw).view = s.view ∧ (s.setVerdictMarks sw).raised = s.raised ∧ (s.setVerdictMarks sw).i2c = s.i2c ∧ (s.setVerdictMarks sw).pending = s.pending := by unfold State.setVerdictMarks; simp

@[simp] theorem State.clearVerdictMarks_frame (s : State) (sw : Nat) :
    (s.clearVerdictMarks sw).timeBase = s.timeBase ∧ (s.clearVerdictMarks sw).station = s.station ∧ (s.clearVerdictMarks sw).config = s.config ∧ (s.clearVerdictMarks sw).link = s.link ∧ (s.clearVerdictMarks sw).ex = s.ex ∧ (s.clearVerdictMarks sw).ports = s.ports ∧ (s.clearVerdictMarks sw).routes = s.routes ∧ (s.clearVerdictMarks sw).failover = s.failover ∧ (s.clearVerdictMarks sw).row = s.row ∧ (s.clearVerdictMarks sw).view = s.view ∧ (s.clearVerdictMarks sw).raised = s.raised ∧ (s.clearVerdictMarks sw).i2c = s.i2c ∧ (s.clearVerdictMarks sw).pending = s.pending := by unfold State.clearVerdictMarks; simp

@[simp] theorem State.offerPortLoss_frame (s : State) (p : PortId) :
    (s.offerPortLoss p).timeBase = s.timeBase ∧ (s.offerPortLoss p).station = s.station ∧ (s.offerPortLoss p).config = s.config ∧ (s.offerPortLoss p).link = s.link ∧ (s.offerPortLoss p).ex = s.ex ∧ (s.offerPortLoss p).cache = s.cache ∧ (s.offerPortLoss p).ports = s.ports ∧ (s.offerPortLoss p).routes = s.routes ∧ (s.offerPortLoss p).row = s.row ∧ (s.offerPortLoss p).view = s.view ∧ (s.offerPortLoss p).raised = s.raised ∧ (s.offerPortLoss p).i2c = s.i2c ∧ (s.offerPortLoss p).pending = s.pending := by unfold State.offerPortLoss; (repeat' split) <;> simp

@[simp] theorem State.offerCellLoss_frame (s : State) (t : Nat) (p : PortId) :
    (s.offerCellLoss t p).timeBase = s.timeBase ∧ (s.offerCellLoss t p).station = s.station ∧ (s.offerCellLoss t p).config = s.config ∧ (s.offerCellLoss t p).link = s.link ∧ (s.offerCellLoss t p).ex = s.ex ∧ (s.offerCellLoss t p).cache = s.cache ∧ (s.offerCellLoss t p).ports = s.ports ∧ (s.offerCellLoss t p).routes = s.routes ∧ (s.offerCellLoss t p).row = s.row ∧ (s.offerCellLoss t p).view = s.view ∧ (s.offerCellLoss t p).raised = s.raised ∧ (s.offerCellLoss t p).i2c = s.i2c ∧ (s.offerCellLoss t p).pending = s.pending := by unfold State.offerCellLoss; (repeat' split) <;> simp

@[simp] theorem State.offerPlacement_frame (s : State) (t : Nat) :
    (s.offerPlacement t).timeBase = s.timeBase ∧ (s.offerPlacement t).station = s.station ∧ (s.offerPlacement t).config = s.config ∧ (s.offerPlacement t).link = s.link ∧ (s.offerPlacement t).ex = s.ex ∧ (s.offerPlacement t).cache = s.cache ∧ (s.offerPlacement t).ports = s.ports ∧ (s.offerPlacement t).routes = s.routes ∧ (s.offerPlacement t).row = s.row ∧ (s.offerPlacement t).view = s.view ∧ (s.offerPlacement t).raised = s.raised ∧ (s.offerPlacement t).i2c = s.i2c ∧ (s.offerPlacement t).pending = s.pending := by unfold State.offerPlacement; (repeat' split) <;> simp

@[simp] theorem State.expireStagger_frame (s : State) (sw : Nat) :
    (s.expireStagger sw).timeBase = s.timeBase ∧ (s.expireStagger sw).station = s.station ∧ (s.expireStagger sw).config = s.config ∧ (s.expireStagger sw).link = s.link ∧ (s.expireStagger sw).ex = s.ex ∧ (s.expireStagger sw).ports = s.ports ∧ (s.expireStagger sw).routes = s.routes ∧ (s.expireStagger sw).failover = s.failover ∧ (s.expireStagger sw).row = s.row ∧ (s.expireStagger sw).i2c = s.i2c ∧ (s.expireStagger sw).pending = s.pending := by unfold State.expireStagger; simp

@[simp] theorem State.becomeFailing_frame (s : State) (sw : Nat) (b : Verdict) (v : VerdictRecord) :
    (s.becomeFailing sw b v).timeBase = s.timeBase ∧ (s.becomeFailing sw b v).station = s.station ∧ (s.becomeFailing sw b v).config = s.config ∧ (s.becomeFailing sw b v).link = s.link ∧ (s.becomeFailing sw b v).ex = s.ex ∧ (s.becomeFailing sw b v).ports = s.ports ∧ (s.becomeFailing sw b v).routes = s.routes ∧ (s.becomeFailing sw b v).failover = s.failover ∧ (s.becomeFailing sw b v).row = s.row ∧ (s.becomeFailing sw b v).i2c = s.i2c ∧ (s.becomeFailing sw b v).pending = s.pending := by unfold State.becomeFailing; dsimp only; split <;> simp

@[simp] theorem State.recompute_frame (s : State) (sw : Nat) :
    (s.recompute sw).timeBase = s.timeBase ∧ (s.recompute sw).station = s.station ∧ (s.recompute sw).config = s.config ∧ (s.recompute sw).link = s.link ∧ (s.recompute sw).ex = s.ex ∧ (s.recompute sw).ports = s.ports ∧ (s.recompute sw).routes = s.routes ∧ (s.recompute sw).failover = s.failover ∧ (s.recompute sw).row = s.row ∧ (s.recompute sw).i2c = s.i2c ∧ (s.recompute sw).pending = s.pending := by unfold State.recompute; dsimp only; (repeat' split) <;> simp

@[simp] theorem State.recomputeThose_frame (s : State) (which : Nat → Bool) :
    (s.recomputeThose which).timeBase = s.timeBase ∧ (s.recomputeThose which).station = s.station ∧ (s.recomputeThose which).config = s.config ∧ (s.recomputeThose which).link = s.link ∧ (s.recomputeThose which).ex = s.ex ∧ (s.recomputeThose which).ports = s.ports ∧ (s.recomputeThose which).routes = s.routes ∧ (s.recomputeThose which).failover = s.failover ∧ (s.recomputeThose which).row = s.row ∧ (s.recomputeThose which).i2c = s.i2c ∧ (s.recomputeThose which).pending = s.pending := by
  unfold State.recomputeThose
  refine ⟨foldl_keeps (·.timeBase) _ (by intro u x; simp) _ _, foldl_keeps (·.station) _ (by intro u x; simp) _ _, foldl_keeps (·.config) _ (by intro u x; simp) _ _, foldl_keeps (·.link) _ (by intro u x; simp) _ _, foldl_keeps (·.ex) _ (by intro u x; simp) _ _, foldl_keeps (·.ports) _ (by intro u x; simp) _ _, foldl_keeps (·.routes) _ (by intro u x; simp) _ _, foldl_keeps (·.failover) _ (by intro u x; simp) _ _, foldl_keeps (·.row) _ (by intro u x; simp) _ _, foldl_keeps (·.i2c) _ (by intro u x; simp) _ _, foldl_keeps (·.pending) _ (by intro u x; simp) _ _⟩

@[simp] theorem State.clearVerdict_frame (s : State) (sw : Nat) :
    (s.clearVerdict sw).timeBase = s.timeBase ∧ (s.clearVerdict sw).station = s.station ∧ (s.clearVerdict sw).config = s.config ∧ (s.clearVerdict sw).link = s.link ∧ (s.clearVerdict sw).ex = s.ex ∧ (s.clearVerdict sw).ports = s.ports ∧ (s.clearVerdict sw).routes = s.routes ∧ (s.clearVerdict sw).failover = s.failover ∧ (s.clearVerdict sw).row = s.row ∧ (s.clearVerdict sw).i2c = s.i2c ∧ (s.clearVerdict sw).pending = s.pending := by unfold State.clearVerdict; simp

@[simp] theorem State.reportCables_frame (s : State) :
    (s.reportCables).timeBase = s.timeBase ∧ (s.reportCables).station = s.station ∧ (s.reportCables).config = s.config ∧ (s.reportCables).link = s.link ∧ (s.reportCables).ex = s.ex ∧ (s.reportCables).ports = s.ports ∧ (s.reportCables).routes = s.routes ∧ (s.reportCables).failover = s.failover ∧ (s.reportCables).i2c = s.i2c ∧ (s.reportCables).pending = s.pending := by unfold State.reportCables; simp

@[simp] theorem State.joinProbe_frame (s : State) (t : Nat) (p : PortId) :
    (s.joinProbe t p).timeBase = s.timeBase ∧ (s.joinProbe t p).station = s.station ∧ (s.joinProbe t p).config = s.config ∧ (s.joinProbe t p).link = s.link ∧ (s.joinProbe t p).ex = s.ex ∧ (s.joinProbe t p).cache = s.cache ∧ (s.joinProbe t p).failover = s.failover ∧ (s.joinProbe t p).row = s.row ∧ (s.joinProbe t p).view = s.view ∧ (s.joinProbe t p).raised = s.raised ∧ (s.joinProbe t p).i2c = s.i2c ∧ (s.joinProbe t p).pending = s.pending := by unfold State.joinProbe; simp

@[simp] theorem State.fallDue_frame (s : State) (t : Nat) (p : PortId) :
    (s.fallDue t p).timeBase = s.timeBase ∧ (s.fallDue t p).station = s.station ∧ (s.fallDue t p).config = s.config ∧ (s.fallDue t p).link = s.link ∧ (s.fallDue t p).ex = s.ex ∧ (s.fallDue t p).cache = s.cache ∧ (s.fallDue t p).failover = s.failover ∧ (s.fallDue t p).row = s.row ∧ (s.fallDue t p).view = s.view ∧ (s.fallDue t p).raised = s.raised ∧ (s.fallDue t p).i2c = s.i2c ∧ (s.fallDue t p).pending = s.pending := by unfold State.fallDue; (repeat' split) <;> simp

@[simp] theorem State.reportIfLostness_frame (s : State) (b : Bool) (p : PortId) :
    (State.reportIfLostness b p s).timeBase = s.timeBase ∧ (State.reportIfLostness b p s).station = s.station ∧ (State.reportIfLostness b p s).config = s.config ∧ (State.reportIfLostness b p s).link = s.link ∧ (State.reportIfLostness b p s).ex = s.ex ∧ (State.reportIfLostness b p s).ports = s.ports ∧ (State.reportIfLostness b p s).routes = s.routes ∧ (State.reportIfLostness b p s).failover = s.failover ∧ (State.reportIfLostness b p s).i2c = s.i2c ∧ (State.reportIfLostness b p s).pending = s.pending := by unfold State.reportIfLostness; (repeat' split) <;> simp

@[simp] theorem State.raiseCell_frame (s : State) (t : Nat) (p : PortId) (l : CellState) (c : CellCause) :
    (s.raiseCell t p l c).timeBase = s.timeBase ∧ (s.raiseCell t p l c).station = s.station ∧ (s.raiseCell t p l c).config = s.config ∧ (s.raiseCell t p l c).link = s.link ∧ (s.raiseCell t p l c).ex = s.ex ∧ (s.raiseCell t p l c).cache = s.cache ∧ (s.raiseCell t p l c).ports = s.ports ∧ (s.raiseCell t p l c).routes = s.routes ∧ (s.raiseCell t p l c).failover = s.failover ∧ (s.raiseCell t p l c).row = s.row ∧ (s.raiseCell t p l c).view = s.view ∧ (s.raiseCell t p l c).i2c = s.i2c ∧ (s.raiseCell t p l c).pending = s.pending := by unfold State.raiseCell; simp

@[simp] theorem State.enterUntested_frame (s : State) (t : Nat) (p : PortId) :
    (s.enterUntested t p).timeBase = s.timeBase ∧ (s.enterUntested t p).station = s.station ∧ (s.enterUntested t p).config = s.config ∧ (s.enterUntested t p).link = s.link ∧ (s.enterUntested t p).ex = s.ex ∧ (s.enterUntested t p).cache = s.cache ∧ (s.enterUntested t p).failover = s.failover ∧ (s.enterUntested t p).row = s.row ∧ (s.enterUntested t p).view = s.view ∧ (s.enterUntested t p).raised = s.raised ∧ (s.enterUntested t p).i2c = s.i2c ∧ (s.enterUntested t p).pending = s.pending := by unfold State.enterUntested; simp

@[simp] theorem State.enterAbsent_frame (s : State) (t : Nat) (p : PortId) :
    (s.enterAbsent t p).timeBase = s.timeBase ∧ (s.enterAbsent t p).station = s.station ∧ (s.enterAbsent t p).config = s.config ∧ (s.enterAbsent t p).link = s.link ∧ (s.enterAbsent t p).ex = s.ex ∧ (s.enterAbsent t p).cache = s.cache ∧ (s.enterAbsent t p).failover = s.failover ∧ (s.enterAbsent t p).row = s.row ∧ (s.enterAbsent t p).view = s.view ∧ (s.enterAbsent t p).raised = s.raised ∧ (s.enterAbsent t p).i2c = s.i2c ∧ (s.enterAbsent t p).pending = s.pending := by unfold State.enterAbsent; simp

@[simp] theorem State.trainCells_frame (s : State) (p : PortId) (l : List Nat) :
    (s.trainCells p l).timeBase = s.timeBase ∧ (s.trainCells p l).station = s.station ∧ (s.trainCells p l).config = s.config ∧ (s.trainCells p l).link = s.link ∧ (s.trainCells p l).ex = s.ex ∧ (s.trainCells p l).cache = s.cache ∧ (s.trainCells p l).failover = s.failover ∧ (s.trainCells p l).row = s.row ∧ (s.trainCells p l).view = s.view ∧ (s.trainCells p l).raised = s.raised ∧ (s.trainCells p l).i2c = s.i2c ∧ (s.trainCells p l).pending = s.pending := by
  unfold State.trainCells
  refine ⟨foldl_keeps (·.timeBase) _ (by intro u x; split <;> simp) _ _, foldl_keeps (·.station) _ (by intro u x; split <;> simp) _ _, foldl_keeps (·.config) _ (by intro u x; split <;> simp) _ _, foldl_keeps (·.link) _ (by intro u x; split <;> simp) _ _, foldl_keeps (·.ex) _ (by intro u x; split <;> simp) _ _, foldl_keeps (·.cache) _ (by intro u x; split <;> simp) _ _, foldl_keeps (·.failover) _ (by intro u x; split <;> simp) _ _, foldl_keeps (·.row) _ (by intro u x; split <;> simp) _ _, foldl_keeps (·.view) _ (by intro u x; split <;> simp) _ _, foldl_keeps (·.raised) _ (by intro u x; split <;> simp) _ _, foldl_keeps (·.i2c) _ (by intro u x; split <;> simp) _ _, foldl_keeps (·.pending) _ (by intro u x; split <;> simp) _ _⟩

@[simp] theorem State.loseCells_frame (s : State) (p : PortId) :
    (s.loseCells p).timeBase = s.timeBase ∧ (s.loseCells p).station = s.station ∧ (s.loseCells p).config = s.config ∧ (s.loseCells p).link = s.link ∧ (s.loseCells p).ex = s.ex ∧ (s.loseCells p).cache = s.cache ∧ (s.loseCells p).ports = s.ports ∧ (s.loseCells p).failover = s.failover ∧ (s.loseCells p).row = s.row ∧ (s.loseCells p).view = s.view ∧ (s.loseCells p).raised = s.raised ∧ (s.loseCells p).i2c = s.i2c ∧ (s.loseCells p).pending = s.pending := by
  unfold State.loseCells
  refine ⟨foldl_keeps (·.timeBase) _ (by intro u x; simp) _ _, foldl_keeps (·.station) _ (by intro u x; simp) _ _, foldl_keeps (·.config) _ (by intro u x; simp) _ _, foldl_keeps (·.link) _ (by intro u x; simp) _ _, foldl_keeps (·.ex) _ (by intro u x; simp) _ _, foldl_keeps (·.cache) _ (by intro u x; simp) _ _, foldl_keeps (·.ports) _ (by intro u x; simp) _ _, foldl_keeps (·.failover) _ (by intro u x; simp) _ _, foldl_keeps (·.row) _ (by intro u x; simp) _ _, foldl_keeps (·.view) _ (by intro u x; simp) _ _, foldl_keeps (·.raised) _ (by intro u x; simp) _ _, foldl_keeps (·.i2c) _ (by intro u x; simp) _ _, foldl_keeps (·.pending) _ (by intro u x; simp) _ _⟩

@[simp] theorem State.miss_frame (s : State) (t : Nat) (p : PortId) :
    (s.miss t p).timeBase = s.timeBase ∧ (s.miss t p).station = s.station ∧ (s.miss t p).config = s.config ∧ (s.miss t p).link = s.link ∧ (s.miss t p).ex = s.ex ∧ (s.miss t p).i2c = s.i2c ∧ (s.miss t p).pending = s.pending := by unfold State.miss; dsimp only; (repeat' split) <;> simp

@[simp] theorem State.exchangeMiss_frame (s : State) (t : Nat) (p : PortId) (at_ : Time) :
    (s.exchangeMiss t p at_).timeBase = s.timeBase ∧ (s.exchangeMiss t p at_).station = s.station ∧ (s.exchangeMiss t p at_).config = s.config ∧ (s.exchangeMiss t p at_).link = s.link ∧ (s.exchangeMiss t p at_).ex = s.ex ∧ (s.exchangeMiss t p at_).i2c = s.i2c ∧ (s.exchangeMiss t p at_).pending = s.pending := by unfold State.exchangeMiss; (repeat' split) <;> simp

@[simp] theorem State.offerIfHeld_frame (s : State) (t : Nat) :
    (s.offerIfHeld t).timeBase = s.timeBase ∧ (s.offerIfHeld t).station = s.station ∧ (s.offerIfHeld t).config = s.config ∧ (s.offerIfHeld t).link = s.link ∧ (s.offerIfHeld t).ex = s.ex ∧ (s.offerIfHeld t).cache = s.cache ∧ (s.offerIfHeld t).ports = s.ports ∧ (s.offerIfHeld t).routes = s.routes ∧ (s.offerIfHeld t).row = s.row ∧ (s.offerIfHeld t).view = s.view ∧ (s.offerIfHeld t).raised = s.raised ∧ (s.offerIfHeld t).i2c = s.i2c ∧ (s.offerIfHeld t).pending = s.pending := by unfold State.offerIfHeld; (repeat' split) <;> simp

@[simp] theorem State.echoState_frame (s : State) (t : Nat) (p : PortId) :
    (s.echoState t p).timeBase = s.timeBase ∧ (s.echoState t p).station = s.station ∧ (s.echoState t p).config = s.config ∧ (s.echoState t p).link = s.link ∧ (s.echoState t p).ex = s.ex ∧ (s.echoState t p).i2c = s.i2c ∧ (s.echoState t p).pending = s.pending := by unfold State.echoState; dsimp only; (repeat' split) <;> simp

@[simp] theorem State.resolveEcho_frame (s : State) (t : Nat) (p : PortId) (f : Flight) :
    (s.resolveEcho t p f).timeBase = s.timeBase ∧ (s.resolveEcho t p f).station = s.station ∧ (s.resolveEcho t p f).config = s.config ∧ (s.resolveEcho t p f).link = s.link ∧ (s.resolveEcho t p f).ex = s.ex ∧ (s.resolveEcho t p f).i2c = s.i2c ∧ (s.resolveEcho t p f).pending = s.pending := by unfold State.resolveEcho; simp

@[simp] theorem State.alive_frame (s : State) (t : Nat) (p : PortId) :
    (s.alive t p).timeBase = s.timeBase ∧ (s.alive t p).station = s.station ∧ (s.alive t p).config = s.config ∧ (s.alive t p).link = s.link ∧ (s.alive t p).ex = s.ex ∧ (s.alive t p).cache = s.cache ∧ (s.alive t p).ports = s.ports ∧ (s.alive t p).failover = s.failover ∧ (s.alive t p).row = s.row ∧ (s.alive t p).view = s.view ∧ (s.alive t p).raised = s.raised ∧ (s.alive t p).i2c = s.i2c ∧ (s.alive t p).pending = s.pending := by unfold State.alive; (repeat' split) <;> simp

@[simp] theorem State.leavePair_frame (s : State) (i : Slot) (e : Exchange) :
    (s.leavePair i e).timeBase = s.timeBase ∧ (s.leavePair i e).station = s.station ∧ (s.leavePair i e).config = s.config ∧ (s.leavePair i e).ports = s.ports ∧ (s.leavePair i e).routes = s.routes ∧ (s.leavePair i e).failover = s.failover ∧ (s.leavePair i e).row = s.row ∧ (s.leavePair i e).view = s.view ∧ (s.leavePair i e).raised = s.raised ∧ (s.leavePair i e).i2c = s.i2c ∧ (s.leavePair i e).pending = s.pending := by unfold State.leavePair; simp

@[simp] theorem State.answer_frame (s : State) (i : Slot) (st : ResultStatus) (l : List Byte) :
    (s.answer i st l).timeBase = s.timeBase ∧ (s.answer i st l).station = s.station ∧ (s.answer i st l).config = s.config ∧ (s.answer i st l).link = s.link ∧ (s.answer i st l).cache = s.cache ∧ (s.answer i st l).ports = s.ports ∧ (s.answer i st l).routes = s.routes ∧ (s.answer i st l).failover = s.failover ∧ (s.answer i st l).row = s.row ∧ (s.answer i st l).view = s.view ∧ (s.answer i st l).raised = s.raised ∧ (s.answer i st l).i2c = s.i2c ∧ (s.answer i st l).pending = s.pending := by unfold State.answer; (repeat' split) <;> simp

@[simp] theorem State.decideResult_frame (s : State) (i : Slot) (st : ResultStatus) (l : List Byte) :
    (s.decideResult i st l).timeBase = s.timeBase ∧ (s.decideResult i st l).station = s.station ∧ (s.decideResult i st l).config = s.config ∧ (s.decideResult i st l).routes = s.routes ∧ (s.decideResult i st l).failover = s.failover ∧ (s.decideResult i st l).row = s.row ∧ (s.decideResult i st l).view = s.view ∧ (s.decideResult i st l).raised = s.raised ∧ (s.decideResult i st l).i2c = s.i2c ∧ (s.decideResult i st l).pending = s.pending := by unfold State.decideResult; (repeat' split) <;> simp

@[simp] theorem State.endTableWait_frame (s : State) :
    (s.endTableWait).timeBase = s.timeBase ∧ (s.endTableWait).station = s.station ∧ (s.endTableWait).config = s.config ∧ (s.endTableWait).ex = s.ex ∧ (s.endTableWait).cache = s.cache ∧ (s.endTableWait).ports = s.ports ∧ (s.endTableWait).routes = s.routes ∧ (s.endTableWait).failover = s.failover ∧ (s.endTableWait).row = s.row ∧ (s.endTableWait).view = s.view ∧ (s.endTableWait).raised = s.raised ∧ (s.endTableWait).i2c = s.i2c ∧ (s.endTableWait).pending = s.pending := by unfold State.endTableWait; (repeat' split) <;> simp

@[simp] theorem State.freeSlot_frame (s : State) (i : Slot) :
    (s.freeSlot i).timeBase = s.timeBase ∧ (s.freeSlot i).station = s.station ∧ (s.freeSlot i).config = s.config ∧ (s.freeSlot i).cache = s.cache ∧ (s.freeSlot i).ports = s.ports ∧ (s.freeSlot i).routes = s.routes ∧ (s.freeSlot i).failover = s.failover ∧ (s.freeSlot i).row = s.row ∧ (s.freeSlot i).view = s.view ∧ (s.freeSlot i).raised = s.raised ∧ (s.freeSlot i).i2c = s.i2c ∧ (s.freeSlot i).pending = s.pending := by unfold State.freeSlot; simp

@[simp] theorem State.hold_frame (s : State) (i : Slot) (a : Action) :
    (s.hold i a).timeBase = s.timeBase ∧ (s.hold i a).station = s.station ∧ (s.hold i a).config = s.config ∧ (s.hold i a).link = s.link ∧ (s.hold i a).cache = s.cache ∧ (s.hold i a).ports = s.ports ∧ (s.hold i a).routes = s.routes ∧ (s.hold i a).row = s.row ∧ (s.hold i a).view = s.view ∧ (s.hold i a).raised = s.raised ∧ (s.hold i a).i2c = s.i2c ∧ (s.hold i a).pending = s.pending := by unfold State.hold; dsimp only; (repeat' split) <;> simp

@[simp] theorem State.becomeSent_frame (s : State) (i : Slot) (p : PortId) :
    (s.becomeSent i p).timeBase = s.timeBase ∧ (s.becomeSent i p).station = s.station ∧ (s.becomeSent i p).config = s.config ∧ (s.becomeSent i p).link = s.link ∧ (s.becomeSent i p).cache = s.cache ∧ (s.becomeSent i p).ports = s.ports ∧ (s.becomeSent i p).routes = s.routes ∧ (s.becomeSent i p).failover = s.failover ∧ (s.becomeSent i p).row = s.row ∧ (s.becomeSent i p).view = s.view ∧ (s.becomeSent i p).raised = s.raised ∧ (s.becomeSent i p).i2c = s.i2c ∧ (s.becomeSent i p).pending = s.pending := by unfold State.becomeSent; simp

@[simp] theorem State.placeTrace_frame (s : State) (i : Slot) (q : PortId) :
    (s.placeTrace i q).timeBase = s.timeBase ∧ (s.placeTrace i q).station = s.station ∧ (s.placeTrace i q).config = s.config ∧ (s.placeTrace i q).link = s.link ∧ (s.placeTrace i q).cache = s.cache ∧ (s.placeTrace i q).routes = s.routes ∧ (s.placeTrace i q).failover = s.failover ∧ (s.placeTrace i q).row = s.row ∧ (s.placeTrace i q).view = s.view ∧ (s.placeTrace i q).raised = s.raised ∧ (s.placeTrace i q).i2c = s.i2c ∧ (s.placeTrace i q).pending = s.pending := by unfold State.placeTrace; simp

@[simp] theorem State.traceOrHold_frame (s : State) (i : Slot) (t : Nat) (x : Option PortId) :
    (s.traceOrHold i t x).timeBase = s.timeBase ∧ (s.traceOrHold i t x).station = s.station ∧ (s.traceOrHold i t x).config = s.config ∧ (s.traceOrHold i t x).link = s.link ∧ (s.traceOrHold i t x).cache = s.cache ∧ (s.traceOrHold i t x).routes = s.routes ∧ (s.traceOrHold i t x).row = s.row ∧ (s.traceOrHold i t x).view = s.view ∧ (s.traceOrHold i t x).raised = s.raised ∧ (s.traceOrHold i t x).i2c = s.i2c ∧ (s.traceOrHold i t x).pending = s.pending := by unfold State.traceOrHold; (repeat' split) <;> simp

@[simp] theorem State.seekFate_frame (s : State) (i : Slot) (x : Option PortId) :
    (s.seekFate i x).timeBase = s.timeBase ∧ (s.seekFate i x).station = s.station ∧ (s.seekFate i x).config = s.config ∧ (s.seekFate i x).routes = s.routes ∧ (s.seekFate i x).row = s.row ∧ (s.seekFate i x).view = s.view ∧ (s.seekFate i x).raised = s.raised ∧ (s.seekFate i x).i2c = s.i2c ∧ (s.seekFate i x).pending = s.pending := by unfold State.seekFate; (repeat' split) <;> simp

@[simp] theorem State.unanswered_frame (s : State) (p : PortId) (i : Slot) :
    (s.unanswered p i).timeBase = s.timeBase ∧ (s.unanswered p i).station = s.station ∧ (s.unanswered p i).config = s.config ∧ (s.unanswered p i).routes = s.routes ∧ (s.unanswered p i).row = s.row ∧ (s.unanswered p i).view = s.view ∧ (s.unanswered p i).raised = s.raised ∧ (s.unanswered p i).i2c = s.i2c ∧ (s.unanswered p i).pending = s.pending := by unfold State.unanswered; simp

@[simp] theorem State.handBack_frame (s : State) (p : PortId) (i : Slot) :
    (State.handBack p s i).timeBase = s.timeBase ∧ (State.handBack p s i).station = s.station ∧ (State.handBack p s i).config = s.config ∧ (State.handBack p s i).routes = s.routes ∧ (State.handBack p s i).row = s.row ∧ (State.handBack p s i).view = s.view ∧ (State.handBack p s i).raised = s.raised ∧ (State.handBack p s i).i2c = s.i2c ∧ (State.handBack p s i).pending = s.pending := by unfold State.handBack; simp

@[simp] theorem State.announce_frame (s : State) (p : PortId) (l : PortState) (c : PortCause) :
    (s.announce p l c).timeBase = s.timeBase ∧ (s.announce p l c).station = s.station ∧ (s.announce p l c).config = s.config ∧ (s.announce p l c).link = s.link ∧ (s.announce p l c).ex = s.ex ∧ (s.announce p l c).ports = s.ports ∧ (s.announce p l c).routes = s.routes ∧ (s.announce p l c).failover = s.failover ∧ (s.announce p l c).i2c = s.i2c ∧ (s.announce p l c).pending = s.pending := by unfold State.announce; simp

@[simp] theorem State.detect_frame (s : State) (p : PortId) :
    (s.detect p).timeBase = s.timeBase ∧ (s.detect p).station = s.station ∧ (s.detect p).config = s.config ∧ (s.detect p).link = s.link ∧ (s.detect p).ex = s.ex ∧ (s.detect p).routes = s.routes ∧ (s.detect p).failover = s.failover ∧ (s.detect p).i2c = s.i2c ∧ (s.detect p).pending = s.pending := by unfold State.detect; (repeat' split) <;> simp

@[simp] theorem State.heard_frame (s : State) (p : PortId) :
    (s.heard p).timeBase = s.timeBase ∧ (s.heard p).station = s.station ∧ (s.heard p).config = s.config ∧ (s.heard p).link = s.link ∧ (s.heard p).ex = s.ex ∧ (s.heard p).cache = s.cache ∧ (s.heard p).routes = s.routes ∧ (s.heard p).failover = s.failover ∧ (s.heard p).row = s.row ∧ (s.heard p).view = s.view ∧ (s.heard p).raised = s.raised ∧ (s.heard p).i2c = s.i2c ∧ (s.heard p).pending = s.pending := by unfold State.heard; (repeat' split) <;> simp

@[simp] theorem State.cutLink_frame (s : State) (p : PortId) (st : PortState) :
    (s.cutLink p st).timeBase = s.timeBase ∧ (s.cutLink p st).station = s.station ∧ (s.cutLink p st).config = s.config ∧ (s.cutLink p st).link = s.link ∧ (s.cutLink p st).ex = s.ex ∧ (s.cutLink p st).cache = s.cache ∧ (s.cutLink p st).failover = s.failover ∧ (s.cutLink p st).row = s.row ∧ (s.cutLink p st).view = s.view ∧ (s.cutLink p st).raised = s.raised ∧ (s.cutLink p st).i2c = s.i2c ∧ (s.cutLink p st).pending = s.pending := by unfold State.cutLink; simp

/-- The port at the loss of its link, and the other ports (R67). -/
theorem State.port_cutLink (s : State) (p q : PortId) (st : PortState) : (s.cutLink p st).port q =
    if p = q then { s.port p with state := st, credits := 0, silenceEnds := none, pendingProbes := [], pendingTraces := [] } else s.port q := by
  have h : (s.cutLink p st).ports = (s.modPort p (fun x =>
      { x with state := st, credits := 0, silenceEnds := none, pendingProbes := [], pendingTraces := [] })).ports := by
    unfold State.cutLink; simp
  exact (congrArg (fun v : Vector Port 4 => v[q]) h).trans (State.port_modPort s p q _)

@[simp] theorem State.dropLink_frame (s : State) (p : PortId) (st : PortState) :
    (s.dropLink p st).timeBase = s.timeBase ∧ (s.dropLink p st).station = s.station ∧ (s.dropLink p st).config = s.config ∧ (s.dropLink p st).row = s.row ∧ (s.dropLink p st).view = s.view ∧ (s.dropLink p st).raised = s.raised ∧ (s.dropLink p st).i2c = s.i2c ∧ (s.dropLink p st).pending = s.pending := by
  unfold State.dropLink
  have h : ∀ (l : List Slot) (u : State), (l.foldl (State.handBack p) u).timeBase = u.timeBase ∧ (l.foldl (State.handBack p) u).station = u.station ∧ (l.foldl (State.handBack p) u).config = u.config ∧ (l.foldl (State.handBack p) u).row = u.row ∧ (l.foldl (State.handBack p) u).view = u.view ∧ (l.foldl (State.handBack p) u).raised = u.raised ∧ (l.foldl (State.handBack p) u).i2c = u.i2c ∧ (l.foldl (State.handBack p) u).pending = u.pending :=
    fun l u => ⟨foldl_keeps (·.timeBase) _ (by intro u x; simp) _ _, foldl_keeps (·.station) _ (by intro u x; simp) _ _, foldl_keeps (·.config) _ (by intro u x; simp) _ _, foldl_keeps (·.row) _ (by intro u x; simp) _ _, foldl_keeps (·.view) _ (by intro u x; simp) _ _, foldl_keeps (·.raised) _ (by intro u x; simp) _ _, foldl_keeps (·.i2c) _ (by intro u x; simp) _ _, foldl_keeps (·.pending) _ (by intro u x; simp) _ _⟩
  simp [h]

@[simp] theorem State.loseLink_frame (s : State) (p : PortId) (c : PortCause) :
    (s.loseLink p c).timeBase = s.timeBase ∧ (s.loseLink p c).station = s.station ∧ (s.loseLink p c).config = s.config ∧ (s.loseLink p c).i2c = s.i2c ∧ (s.loseLink p c).pending = s.pending := by unfold State.loseLink; simp

@[simp] theorem State.offerIfWork_frame (s : State) (p : PortId) :
    (s.offerIfWork p).timeBase = s.timeBase ∧ (s.offerIfWork p).station = s.station ∧ (s.offerIfWork p).config = s.config ∧ (s.offerIfWork p).link = s.link ∧ (s.offerIfWork p).ex = s.ex ∧ (s.offerIfWork p).cache = s.cache ∧ (s.offerIfWork p).ports = s.ports ∧ (s.offerIfWork p).routes = s.routes ∧ (s.offerIfWork p).row = s.row ∧ (s.offerIfWork p).view = s.view ∧ (s.offerIfWork p).raised = s.raised ∧ (s.offerIfWork p).i2c = s.i2c ∧ (s.offerIfWork p).pending = s.pending := by unfold State.offerIfWork; (repeat' split) <;> simp

@[simp] theorem State.takeDamaged_frame (s : State) (p : PortId) :
    (s.takeDamaged p).timeBase = s.timeBase ∧ (s.takeDamaged p).station = s.station ∧ (s.takeDamaged p).config = s.config ∧ (s.takeDamaged p).i2c = s.i2c ∧ (s.takeDamaged p).pending = s.pending := by unfold State.takeDamaged; dsimp only; (repeat' split) <;> simp

@[simp] theorem State.comeUp_frame (s : State) (p : PortId) (a b : Byte) (l : BitVec 64) :
    (s.comeUp p a b l).timeBase = s.timeBase ∧ (s.comeUp p a b l).station = s.station ∧ (s.comeUp p a b l).config = s.config ∧ (s.comeUp p a b l).link = s.link ∧ (s.comeUp p a b l).ex = s.ex ∧ (s.comeUp p a b l).failover = s.failover ∧ (s.comeUp p a b l).i2c = s.i2c ∧ (s.comeUp p a b l).pending = s.pending := by unfold State.comeUp; simp

@[simp] theorem State.reachTarget_frame (s : State) (p : PortId) (o n : List Nat) (t : Nat) :
    (State.reachTarget p o n s t).timeBase = s.timeBase ∧ (State.reachTarget p o n s t).station = s.station ∧ (State.reachTarget p o n s t).config = s.config ∧ (State.reachTarget p o n s t).link = s.link ∧ (State.reachTarget p o n s t).ex = s.ex ∧ (State.reachTarget p o n s t).cache = s.cache ∧ (State.reachTarget p o n s t).row = s.row ∧ (State.reachTarget p o n s t).view = s.view ∧ (State.reachTarget p o n s t).i2c = s.i2c ∧ (State.reachTarget p o n s t).pending = s.pending := by unfold State.reachTarget; dsimp only; (repeat' split) <;> simp

@[simp] theorem State.takeReach_frame (s : State) (p : PortId) (n : List Nat) :
    (s.takeReach p n).timeBase = s.timeBase ∧ (s.takeReach p n).station = s.station ∧ (s.takeReach p n).config = s.config ∧ (s.takeReach p n).link = s.link ∧ (s.takeReach p n).ex = s.ex ∧ (s.takeReach p n).i2c = s.i2c ∧ (s.takeReach p n).pending = s.pending := by
  unfold State.takeReach
  have h : ∀ (o : List Nat) (l : List Nat) (u : State), (l.foldl (State.reachTarget p o n) u).timeBase = u.timeBase ∧ (l.foldl (State.reachTarget p o n) u).station = u.station ∧ (l.foldl (State.reachTarget p o n) u).config = u.config ∧ (l.foldl (State.reachTarget p o n) u).link = u.link ∧ (l.foldl (State.reachTarget p o n) u).ex = u.ex ∧ (l.foldl (State.reachTarget p o n) u).i2c = u.i2c ∧ (l.foldl (State.reachTarget p o n) u).pending = u.pending :=
    fun o l u => ⟨foldl_keeps (·.timeBase) _ (by intro u x; simp) _ _, foldl_keeps (·.station) _ (by intro u x; simp) _ _, foldl_keeps (·.config) _ (by intro u x; simp) _ _, foldl_keeps (·.link) _ (by intro u x; simp) _ _, foldl_keeps (·.ex) _ (by intro u x; simp) _ _, foldl_keeps (·.i2c) _ (by intro u x; simp) _ _, foldl_keeps (·.pending) _ (by intro u x; simp) _ _⟩
  simp [h]

@[simp] theorem State.resetPort_frame (s : State) (p : PortId) :
    (s.resetPort p).timeBase = s.timeBase ∧ (s.resetPort p).station = s.station ∧ (s.resetPort p).config = s.config ∧ (s.resetPort p).i2c = s.i2c ∧ (s.resetPort p).pending = s.pending := by unfold State.resetPort; dsimp only; split <;> simp

@[simp] theorem State.portOff_frame (s : State) (p : PortId) :
    (s.portOff p).timeBase = s.timeBase ∧ (s.portOff p).station = s.station ∧ (s.portOff p).config = s.config ∧ (s.portOff p).i2c = s.i2c ∧ (s.portOff p).pending = s.pending := by unfold State.portOff; dsimp only; split <;> simp

@[simp] theorem State.drain_frame (s : State) (p : PortId) :
    (s.drain p).timeBase = s.timeBase ∧ (s.drain p).station = s.station ∧ (s.drain p).config = s.config ∧ (s.drain p).i2c = s.i2c ∧ (s.drain p).pending = s.pending := by unfold State.drain; simp

@[simp] theorem State.quiesce_frame (s : State) (p : PortId) :
    (s.quiesce p).timeBase = s.timeBase ∧ (s.quiesce p).station = s.station ∧ (s.quiesce p).config = s.config ∧ (s.quiesce p).i2c = s.i2c ∧ (s.quiesce p).pending = s.pending := by unfold State.quiesce; dsimp only; split <;> simp

@[simp] theorem State.resume_frame (s : State) (p : PortId) :
    (s.resume p).timeBase = s.timeBase ∧ (s.resume p).station = s.station ∧ (s.resume p).config = s.config ∧ (s.resume p).link = s.link ∧ (s.resume p).ex = s.ex ∧ (s.resume p).routes = s.routes ∧ (s.resume p).i2c = s.i2c ∧ (s.resume p).pending = s.pending := by
  unfold State.resume
  have h : ∀ (l : List Nat) (u : State), (l.foldl State.offerPlacement u).timeBase = u.timeBase ∧ (l.foldl State.offerPlacement u).station = u.station ∧ (l.foldl State.offerPlacement u).config = u.config ∧ (l.foldl State.offerPlacement u).link = u.link ∧ (l.foldl State.offerPlacement u).ex = u.ex ∧ (l.foldl State.offerPlacement u).routes = u.routes ∧ (l.foldl State.offerPlacement u).i2c = u.i2c ∧ (l.foldl State.offerPlacement u).pending = u.pending :=
    fun l u => ⟨foldl_keeps (·.timeBase) _ (by intro u x; simp) _ _, foldl_keeps (·.station) _ (by intro u x; simp) _ _, foldl_keeps (·.config) _ (by intro u x; simp) _ _, foldl_keeps (·.link) _ (by intro u x; simp) _ _, foldl_keeps (·.ex) _ (by intro u x; simp) _ _, foldl_keeps (·.routes) _ (by intro u x; simp) _ _, foldl_keeps (·.i2c) _ (by intro u x; simp) _ _, foldl_keeps (·.pending) _ (by intro u x; simp) _ _⟩
  simp [h]

@[simp] theorem State.switchOn_frame (s : State) (p : PortId) :
    (s.switchOn p).timeBase = s.timeBase ∧ (s.switchOn p).station = s.station ∧ (s.switchOn p).config = s.config ∧ (s.switchOn p).link = s.link ∧ (s.switchOn p).ex = s.ex ∧ (s.switchOn p).routes = s.routes ∧ (s.switchOn p).failover = s.failover ∧ (s.switchOn p).i2c = s.i2c ∧ (s.switchOn p).pending = s.pending := by unfold State.switchOn; simp

@[simp] theorem State.transmit_frame (s : State) (p : PortId) (f : FabricFrame) :
    (s.transmit p f).timeBase = s.timeBase ∧ (s.transmit p f).station = s.station ∧ (s.transmit p f).config = s.config ∧ (s.transmit p f).link = s.link ∧ (s.transmit p f).ex = s.ex ∧ (s.transmit p f).cache = s.cache ∧ (s.transmit p f).routes = s.routes ∧ (s.transmit p f).failover = s.failover ∧ (s.transmit p f).row = s.row ∧ (s.transmit p f).view = s.view ∧ (s.transmit p f).raised = s.raised ∧ (s.transmit p f).i2c = s.i2c ∧ (s.transmit p f).pending = s.pending := by unfold State.transmit; simp

@[simp] theorem State.drainEmptied_frame (s : State) (u : State) :
    (State.drainEmptied u s).timeBase = s.timeBase ∧ (State.drainEmptied u s).station = s.station ∧ (State.drainEmptied u s).config = s.config ∧ (State.drainEmptied u s).i2c = s.i2c ∧ (State.drainEmptied u s).pending = s.pending := by
  unfold State.drainEmptied
  refine ⟨foldl_keeps (·.timeBase) _ (by intro u x; split <;> simp) _ _, foldl_keeps (·.station) _ (by intro u x; split <;> simp) _ _, foldl_keeps (·.config) _ (by intro u x; split <;> simp) _ _, foldl_keeps (·.i2c) _ (by intro u x; split <;> simp) _ _, foldl_keeps (·.pending) _ (by intro u x; split <;> simp) _ _⟩

@[simp] theorem State.close_frame (s : State) :
    (s.close).timeBase = s.timeBase ∧ (s.close).station = s.station ∧ (s.close).config = s.config ∧ (s.close).cache = s.cache ∧ (s.close).ports = s.ports ∧ (s.close).routes = s.routes ∧ (s.close).failover = s.failover ∧ (s.close).row = s.row ∧ (s.close).view = s.view ∧ (s.close).i2c = s.i2c ∧ (s.close).pending = s.pending := by unfold State.close; simp

@[simp] theorem State.closeFrom_frame (s : State) (u : State) :
    (State.closeFrom u s).timeBase = s.timeBase ∧ (State.closeFrom u s).station = s.station ∧ (State.closeFrom u s).config = s.config ∧ (State.closeFrom u s).i2c = s.i2c ∧ (State.closeFrom u s).pending = s.pending := by unfold State.closeFrom; simp

@[simp] theorem State.returnHeld_frame (s : State) (a : Word32) (t : Nat) (q : PortId) :
    (s.returnHeld a t q).timeBase = s.timeBase ∧ (s.returnHeld a t q).station = s.station ∧ (s.returnHeld a t q).config = s.config ∧ (s.returnHeld a t q).link = s.link ∧ (s.returnHeld a t q).cache = s.cache ∧ (s.returnHeld a t q).routes = s.routes ∧ (s.returnHeld a t q).failover = s.failover ∧ (s.returnHeld a t q).row = s.row ∧ (s.returnHeld a t q).view = s.view ∧ (s.returnHeld a t q).raised = s.raised ∧ (s.returnHeld a t q).i2c = s.i2c ∧ (s.returnHeld a t q).pending = s.pending := by
  unfold State.returnHeld
  refine ⟨foldl_keeps (·.timeBase) _ (by intro u x; (repeat' split) <;> simp) _ _, foldl_keeps (·.station) _ (by intro u x; (repeat' split) <;> simp) _ _, foldl_keeps (·.config) _ (by intro u x; (repeat' split) <;> simp) _ _, foldl_keeps (·.link) _ (by intro u x; (repeat' split) <;> simp) _ _, foldl_keeps (·.cache) _ (by intro u x; (repeat' split) <;> simp) _ _, foldl_keeps (·.routes) _ (by intro u x; (repeat' split) <;> simp) _ _, foldl_keeps (·.failover) _ (by intro u x; (repeat' split) <;> simp) _ _, foldl_keeps (·.row) _ (by intro u x; (repeat' split) <;> simp) _ _, foldl_keeps (·.view) _ (by intro u x; (repeat' split) <;> simp) _ _, foldl_keeps (·.raised) _ (by intro u x; (repeat' split) <;> simp) _ _, foldl_keeps (·.i2c) _ (by intro u x; (repeat' split) <;> simp) _ _, foldl_keeps (·.pending) _ (by intro u x; (repeat' split) <;> simp) _ _⟩

@[simp] theorem State.holdWaiting_frame (s : State) (a : Word32) (t : Nat) :
    (s.holdWaiting a t).timeBase = s.timeBase ∧ (s.holdWaiting a t).station = s.station ∧ (s.holdWaiting a t).config = s.config ∧ (s.holdWaiting a t).link = s.link ∧ (s.holdWaiting a t).cache = s.cache ∧ (s.holdWaiting a t).ports = s.ports ∧ (s.holdWaiting a t).routes = s.routes ∧ (s.holdWaiting a t).row = s.row ∧ (s.holdWaiting a t).view = s.view ∧ (s.holdWaiting a t).raised = s.raised ∧ (s.holdWaiting a t).i2c = s.i2c ∧ (s.holdWaiting a t).pending = s.pending := by
  unfold State.holdWaiting
  refine ⟨foldl_keeps (·.timeBase) _ (by intro u x; (repeat' split) <;> simp) _ _, foldl_keeps (·.station) _ (by intro u x; (repeat' split) <;> simp) _ _, foldl_keeps (·.config) _ (by intro u x; (repeat' split) <;> simp) _ _, foldl_keeps (·.link) _ (by intro u x; (repeat' split) <;> simp) _ _, foldl_keeps (·.cache) _ (by intro u x; (repeat' split) <;> simp) _ _, foldl_keeps (·.ports) _ (by intro u x; (repeat' split) <;> simp) _ _, foldl_keeps (·.routes) _ (by intro u x; (repeat' split) <;> simp) _ _, foldl_keeps (·.row) _ (by intro u x; (repeat' split) <;> simp) _ _, foldl_keeps (·.view) _ (by intro u x; (repeat' split) <;> simp) _ _, foldl_keeps (·.raised) _ (by intro u x; (repeat' split) <;> simp) _ _, foldl_keeps (·.i2c) _ (by intro u x; (repeat' split) <;> simp) _ _, foldl_keeps (·.pending) _ (by intro u x; (repeat' split) <;> simp) _ _⟩

@[simp] theorem State.replacePair_frame (s : State) (a : Word32) (t : Nat) :
    (s.replacePair a t).timeBase = s.timeBase ∧ (s.replacePair a t).station = s.station ∧ (s.replacePair a t).config = s.config ∧ (s.replacePair a t).link = s.link ∧ (s.replacePair a t).routes = s.routes ∧ (s.replacePair a t).row = s.row ∧ (s.replacePair a t).view = s.view ∧ (s.replacePair a t).raised = s.raised ∧ (s.replacePair a t).i2c = s.i2c ∧ (s.replacePair a t).pending = s.pending := by unfold State.replacePair; (repeat' split) <;> simp

@[simp] theorem State.moveSent_frame (s : State) (p : PortId) (i : Slot) (e : Exchange) :
    (s.moveSent p i e).timeBase = s.timeBase ∧ (s.moveSent p i e).station = s.station ∧ (s.moveSent p i e).config = s.config ∧ (s.moveSent p i e).routes = s.routes ∧ (s.moveSent p i e).row = s.row ∧ (s.moveSent p i e).view = s.view ∧ (s.moveSent p i e).raised = s.raised ∧ (s.moveSent p i e).i2c = s.i2c ∧ (s.moveSent p i e).pending = s.pending := by unfold State.moveSent; (repeat' split) <;> simp

@[simp] theorem State.walkOne_frame (s : State) (p : PortId) (i : Slot) (e : Exchange) :
    (s.walkOne p i e).timeBase = s.timeBase ∧ (s.walkOne p i e).station = s.station ∧ (s.walkOne p i e).config = s.config ∧ (s.walkOne p i e).routes = s.routes ∧ (s.walkOne p i e).row = s.row ∧ (s.walkOne p i e).view = s.view ∧ (s.walkOne p i e).raised = s.raised ∧ (s.walkOne p i e).i2c = s.i2c ∧ (s.walkOne p i e).pending = s.pending := by unfold State.walkOne; dsimp only; (repeat' split) <;> simp

@[simp] theorem State.finishLoss_frame (s : State) (x : LossScope) :
    (s.finishLoss x).timeBase = s.timeBase ∧ (s.finishLoss x).station = s.station ∧ (s.finishLoss x).config = s.config ∧ (s.finishLoss x).link = s.link ∧ (s.finishLoss x).ex = s.ex ∧ (s.finishLoss x).cache = s.cache ∧ (s.finishLoss x).ports = s.ports ∧ (s.finishLoss x).routes = s.routes ∧ (s.finishLoss x).row = s.row ∧ (s.finishLoss x).view = s.view ∧ (s.finishLoss x).raised = s.raised ∧ (s.finishLoss x).i2c = s.i2c ∧ (s.finishLoss x).pending = s.pending := by
  unfold State.finishLoss
  have h : ∀ (p : PortId) (l : List Nat) (u : State), (l.foldl (fun u t => u.offerCellLoss t p) u).timeBase = u.timeBase ∧ (l.foldl (fun u t => u.offerCellLoss t p) u).station = u.station ∧ (l.foldl (fun u t => u.offerCellLoss t p) u).config = u.config ∧ (l.foldl (fun u t => u.offerCellLoss t p) u).link = u.link ∧ (l.foldl (fun u t => u.offerCellLoss t p) u).ex = u.ex ∧ (l.foldl (fun u t => u.offerCellLoss t p) u).cache = u.cache ∧ (l.foldl (fun u t => u.offerCellLoss t p) u).ports = u.ports ∧ (l.foldl (fun u t => u.offerCellLoss t p) u).routes = u.routes ∧ (l.foldl (fun u t => u.offerCellLoss t p) u).row = u.row ∧ (l.foldl (fun u t => u.offerCellLoss t p) u).view = u.view ∧ (l.foldl (fun u t => u.offerCellLoss t p) u).raised = u.raised ∧ (l.foldl (fun u t => u.offerCellLoss t p) u).i2c = u.i2c ∧ (l.foldl (fun u t => u.offerCellLoss t p) u).pending = u.pending :=
    fun p l u => ⟨foldl_keeps (·.timeBase) _ (by intro u x; simp) _ _, foldl_keeps (·.station) _ (by intro u x; simp) _ _, foldl_keeps (·.config) _ (by intro u x; simp) _ _, foldl_keeps (·.link) _ (by intro u x; simp) _ _, foldl_keeps (·.ex) _ (by intro u x; simp) _ _, foldl_keeps (·.cache) _ (by intro u x; simp) _ _, foldl_keeps (·.ports) _ (by intro u x; simp) _ _, foldl_keeps (·.routes) _ (by intro u x; simp) _ _, foldl_keeps (·.row) _ (by intro u x; simp) _ _, foldl_keeps (·.view) _ (by intro u x; simp) _ _, foldl_keeps (·.raised) _ (by intro u x; simp) _ _, foldl_keeps (·.i2c) _ (by intro u x; simp) _ _, foldl_keeps (·.pending) _ (by intro u x; simp) _ _⟩
  dsimp only
  (repeat' split) <;> simp [h]

@[simp] theorem State.beginEntries_frame (s : State) (x : LossScope) (h : Time) :
    (s.beginEntries x h).timeBase = s.timeBase ∧ (s.beginEntries x h).station = s.station ∧ (s.beginEntries x h).config = s.config ∧ (s.beginEntries x h).link = s.link ∧ (s.beginEntries x h).ex = s.ex ∧ (s.beginEntries x h).cache = s.cache ∧ (s.beginEntries x h).ports = s.ports ∧ (s.beginEntries x h).routes = s.routes ∧ (s.beginEntries x h).row = s.row ∧ (s.beginEntries x h).view = s.view ∧ (s.beginEntries x h).raised = s.raised ∧ (s.beginEntries x h).i2c = s.i2c ∧ (s.beginEntries x h).pending = s.pending := by unfold State.beginEntries; (repeat' split) <;> simp

@[simp] theorem State.handleEntry_frame (s : State) (p : PortId) (r : EntryRef) :
    (s.handleEntry p r).timeBase = s.timeBase ∧ (s.handleEntry p r).station = s.station ∧ (s.handleEntry p r).config = s.config ∧ (s.handleEntry p r).link = s.link ∧ (s.handleEntry p r).routes = s.routes ∧ (s.handleEntry p r).row = s.row ∧ (s.handleEntry p r).view = s.view ∧ (s.handleEntry p r).raised = s.raised ∧ (s.handleEntry p r).i2c = s.i2c ∧ (s.handleEntry p r).pending = s.pending := by unfold State.handleEntry; (repeat' split) <;> simp

@[simp] theorem State.beginHeld_frame (s : State) (t : Nat) :
    (s.beginHeld t).timeBase = s.timeBase ∧ (s.beginHeld t).station = s.station ∧ (s.beginHeld t).config = s.config ∧ (s.beginHeld t).link = s.link ∧ (s.beginHeld t).ex = s.ex ∧ (s.beginHeld t).cache = s.cache ∧ (s.beginHeld t).ports = s.ports ∧ (s.beginHeld t).routes = s.routes ∧ (s.beginHeld t).row = s.row ∧ (s.beginHeld t).view = s.view ∧ (s.beginHeld t).raised = s.raised ∧ (s.beginHeld t).i2c = s.i2c ∧ (s.beginHeld t).pending = s.pending := by unfold State.beginHeld; (repeat' split) <;> simp

@[simp] theorem State.beginPairs_frame (s : State) (t : Nat) :
    (s.beginPairs t).timeBase = s.timeBase ∧ (s.beginPairs t).station = s.station ∧ (s.beginPairs t).config = s.config ∧ (s.beginPairs t).link = s.link ∧ (s.beginPairs t).ex = s.ex ∧ (s.beginPairs t).cache = s.cache ∧ (s.beginPairs t).ports = s.ports ∧ (s.beginPairs t).routes = s.routes ∧ (s.beginPairs t).row = s.row ∧ (s.beginPairs t).view = s.view ∧ (s.beginPairs t).raised = s.raised ∧ (s.beginPairs t).i2c = s.i2c ∧ (s.beginPairs t).pending = s.pending := by unfold State.beginPairs; (repeat' split) <;> simp

@[simp] theorem State.handlePair_frame (s : State) (r : EntryRef) :
    (s.handlePair r).timeBase = s.timeBase ∧ (s.handlePair r).station = s.station ∧ (s.handlePair r).config = s.config ∧ (s.handlePair r).link = s.link ∧ (s.handlePair r).routes = s.routes ∧ (s.handlePair r).failover = s.failover ∧ (s.handlePair r).row = s.row ∧ (s.handlePair r).view = s.view ∧ (s.handlePair r).raised = s.raised ∧ (s.handlePair r).i2c = s.i2c ∧ (s.handlePair r).pending = s.pending := by unfold State.handlePair; (repeat' split) <;> simp

@[simp] theorem State.handleHeld_frame (s : State) (r : HeldRef) :
    (s.handleHeld r).timeBase = s.timeBase ∧ (s.handleHeld r).station = s.station ∧ (s.handleHeld r).config = s.config ∧ (s.handleHeld r).link = s.link ∧ (s.handleHeld r).cache = s.cache ∧ (s.handleHeld r).routes = s.routes ∧ (s.handleHeld r).failover = s.failover ∧ (s.handleHeld r).row = s.row ∧ (s.handleHeld r).view = s.view ∧ (s.handleHeld r).raised = s.raised ∧ (s.handleHeld r).i2c = s.i2c ∧ (s.handleHeld r).pending = s.pending := by unfold State.handleHeld; (repeat' split) <;> simp

@[simp] theorem State.fillSlot_frame (s : State) (i : Slot) (l : List Slot) (e : Exchange) :
    (s.fillSlot i l e).timeBase = s.timeBase ∧ (s.fillSlot i l e).station = s.station ∧ (s.fillSlot i l e).config = s.config ∧ (s.fillSlot i l e).link = s.link ∧ (s.fillSlot i l e).cache = s.cache ∧ (s.fillSlot i l e).ports = s.ports ∧ (s.fillSlot i l e).routes = s.routes ∧ (s.fillSlot i l e).failover = s.failover ∧ (s.fillSlot i l e).row = s.row ∧ (s.fillSlot i l e).view = s.view ∧ (s.fillSlot i l e).raised = s.raised ∧ (s.fillSlot i l e).i2c = s.i2c ∧ (s.fillSlot i l e).pending = s.pending := by unfold State.fillSlot; simp

@[simp] theorem State.placeBySelection_frame (s : State) (a : Word32) (t : Nat) :
    (s.placeBySelection a t).timeBase = s.timeBase ∧ (s.placeBySelection a t).station = s.station ∧ (s.placeBySelection a t).config = s.config ∧ (s.placeBySelection a t).link = s.link ∧ (s.placeBySelection a t).ex = s.ex ∧ (s.placeBySelection a t).ports = s.ports ∧ (s.placeBySelection a t).routes = s.routes ∧ (s.placeBySelection a t).failover = s.failover ∧ (s.placeBySelection a t).row = s.row ∧ (s.placeBySelection a t).view = s.view ∧ (s.placeBySelection a t).raised = s.raised ∧ (s.placeBySelection a t).i2c = s.i2c ∧ (s.placeBySelection a t).pending = s.pending := by unfold State.placeBySelection; simp

@[simp] theorem State.enter_frame (s : State) (i : Slot) (l : List Slot) (b : Booking) :
    (s.enter i l b).timeBase = s.timeBase ∧ (s.enter i l b).station = s.station ∧ (s.enter i l b).config = s.config ∧ (s.enter i l b).link = s.link ∧ (s.enter i l b).ports = s.ports ∧ (s.enter i l b).routes = s.routes ∧ (s.enter i l b).row = s.row ∧ (s.enter i l b).view = s.view ∧ (s.enter i l b).raised = s.raised ∧ (s.enter i l b).i2c = s.i2c ∧ (s.enter i l b).pending = s.pending := by unfold State.enter; dsimp only; split <;> simp

@[simp] theorem State.refuse_frame (s : State) (i : Slot) (l : List Slot) (b : Booking) (st : ResultStatus) :
    (s.refuse i l b st).timeBase = s.timeBase ∧ (s.refuse i l b st).station = s.station ∧ (s.refuse i l b st).config = s.config ∧ (s.refuse i l b st).cache = s.cache ∧ (s.refuse i l b st).ports = s.ports ∧ (s.refuse i l b st).routes = s.routes ∧ (s.refuse i l b st).failover = s.failover ∧ (s.refuse i l b st).row = s.row ∧ (s.refuse i l b st).view = s.view ∧ (s.refuse i l b st).raised = s.raised ∧ (s.refuse i l b st).i2c = s.i2c ∧ (s.refuse i l b st).pending = s.pending := by unfold State.refuse; simp

@[simp] theorem State.conflict_frame (s : State) :
    (s.conflict).timeBase = s.timeBase ∧ (s.conflict).station = s.station ∧ (s.conflict).config = s.config ∧ (s.conflict).ex = s.ex ∧ (s.conflict).cache = s.cache ∧ (s.conflict).ports = s.ports ∧ (s.conflict).routes = s.routes ∧ (s.conflict).failover = s.failover ∧ (s.conflict).view = s.view ∧ (s.conflict).i2c = s.i2c ∧ (s.conflict).pending = s.pending := by unfold State.conflict; dsimp only; (repeat' split) <;> simp

@[simp] theorem State.replacePeer_frame (s : State) (i : StationId) (e : Option PeerEntry) :
    (s.replacePeer i e).timeBase = s.timeBase ∧ (s.replacePeer i e).station = s.station ∧ (s.replacePeer i e).config = s.config ∧ (s.replacePeer i e).ex = s.ex ∧ (s.replacePeer i e).ports = s.ports ∧ (s.replacePeer i e).routes = s.routes ∧ (s.replacePeer i e).failover = s.failover ∧ (s.replacePeer i e).row = s.row ∧ (s.replacePeer i e).i2c = s.i2c ∧ (s.replacePeer i e).pending = s.pending := by unfold State.replacePeer; simp

@[simp] theorem State.fallDueAll_frame (s : State) :
    (s.fallDueAll).timeBase = s.timeBase ∧ (s.fallDueAll).station = s.station ∧ (s.fallDueAll).config = s.config ∧ (s.fallDueAll).link = s.link ∧ (s.fallDueAll).ex = s.ex ∧ (s.fallDueAll).cache = s.cache ∧ (s.fallDueAll).failover = s.failover ∧ (s.fallDueAll).row = s.row ∧ (s.fallDueAll).view = s.view ∧ (s.fallDueAll).raised = s.raised ∧ (s.fallDueAll).i2c = s.i2c ∧ (s.fallDueAll).pending = s.pending := by
  unfold State.fallDueAll
  refine ⟨foldl_keeps (·.timeBase) _ (fun u t => foldl_keeps (·.timeBase) _ (by intro u x; simp) _ _) _ _, foldl_keeps (·.station) _ (fun u t => foldl_keeps (·.station) _ (by intro u x; simp) _ _) _ _, foldl_keeps (·.config) _ (fun u t => foldl_keeps (·.config) _ (by intro u x; simp) _ _) _ _, foldl_keeps (·.link) _ (fun u t => foldl_keeps (·.link) _ (by intro u x; simp) _ _) _ _, foldl_keeps (·.ex) _ (fun u t => foldl_keeps (·.ex) _ (by intro u x; simp) _ _) _ _, foldl_keeps (·.cache) _ (fun u t => foldl_keeps (·.cache) _ (by intro u x; simp) _ _) _ _, foldl_keeps (·.failover) _ (fun u t => foldl_keeps (·.failover) _ (by intro u x; simp) _ _) _ _, foldl_keeps (·.row) _ (fun u t => foldl_keeps (·.row) _ (by intro u x; simp) _ _) _ _, foldl_keeps (·.view) _ (fun u t => foldl_keeps (·.view) _ (by intro u x; simp) _ _) _ _, foldl_keeps (·.raised) _ (fun u t => foldl_keeps (·.raised) _ (by intro u x; simp) _ _) _ _, foldl_keeps (·.i2c) _ (fun u t => foldl_keeps (·.i2c) _ (by intro u x; simp) _ _) _ _, foldl_keeps (·.pending) _ (fun u t => foldl_keeps (·.pending) _ (by intro u x; simp) _ _) _ _⟩

end Sys2Proof.Machine
end

