-- ==== Sys2Proof/Tests/Slice0.lean ====
section
/-! SUPPORT. Tests: ill-formed commands refused by `Instr.wf`, the worked cases of the spec, and for each statement a witness that
its hypotheses can be met together. -/

namespace Sys2Proof.Tests

-- One proof after another: the kernel evaluations of this file would each hold a thread while they wait.
set_option Elab.async false

open Sys2Proof Sys2Proof.Machine

/-! ## Small states -/

/-- The state after a command. -/
def after (c : Instr) (s : State) : State :=
  match exec c s with
  | .next t => t
  | _ => State.reset

/-- The state after some commands. -/
def run (l : List Instr) (s : State) : State := l.foldl (fun u c => after c u) s

/-- A station with ID 3 in a state, 2 s after its reset, with the row bus read. -/
def station (state : StationState) : State :=
  { State.reset with
    timeBase := 2000000
    station := ⟨state, 3, false, none, ⟨true, false, false⟩, some .loaded, state != .standby⟩
    row := { RowBus.afterReset with phase := .waiting } }

/-- An ACTIVE station. -/
def live : State := station .active

/-- A port that is UP on a switch, reaches target 12 and holds credits. -/
def upPort (switch credits : Nat) : Port :=
  { Port.afterReset true with
    state := .up, identity := some switch, reach := [12], credits := credits, silenceEnds := some 2010000 }

/-- A GOOD cell. -/
def good : Cell := { Cell.afterReset with state := .good, probeNumber := 7, lastSend := some 1950000, testedSince := some 1000000 }

/-- P0 on switch 5 and P1 on switch 6 are UP, and both reach target 12. -/
def fabric : State :=
  let s := (((live.setPort 0 (upPort 5 4)).setPort 1 (upPort 6 4)).setCell 12 0 good).setCell 12 1 good
  { s with view := { s.view with own := s.countAllCables } }

/-- The pair of the tests: (7001, 12), in set 21 (R28). -/
def place : Place := ⟨21, 0⟩

/-- An exchange of the pair sent once. -/
def sentOnce (cls : Byte) (phase : Phase) : Exchange := ⟨cls, 7001, 12, 501, 1, 0, true, [1], phase⟩

/-- Slot 300 at generation 5 holds an open exchange of the pair, which is placed on P0. -/
def opened (e : Exchange) : State :=
  let s := fabric.setRec 300 ⟨5, some e⟩
  let s1 := ((s.setFree ((List.finRange 512).filter (· != 300))).setOrder [300]).setEntryAt place (some ⟨7001, 12, some 0, 1, false, none⟩)
  (match e.phase.port with
    | some p => s1.setOutstanding p [300]
    | none => s1).settleReady

/-- The tag of slot 300 at generation 5. -/
def tag300 : Tag := 2860

/-- A SENT exchange whose answer wait ended 1 ms ago. -/
def lateSent : Phase := .sent 0 1999000 1799000

/-- A TRACING exchange whose trace wait ended 1 ms ago. -/
def lateTracing : Phase := .tracing 0 1999000 1949000

/-- A TRACING exchange whose trace waits for a credit's turn. -/
def traceWaiting : State :=
  (opened (sentOnce 2 lateTracing)).modPort 0 (fun x => { x with pendingTraces := [300] })

/-- P0 in a state, with nothing else to its name. -/
def portIn (state : PortState) : State := live.setPort 0 { upPort 5 4 with state := state }

/-- A control request alone in the ingress queue. -/
def asking (s : State) (code : Byte) (args : List Byte) : State :=
  s.setLink { HostLink.afterReset with ingress := [.control code args] }

/-- A booking request alone in the ingress queue. -/
def offering (s : State) (b : Booking) : State := s.setLink { HostLink.afterReset with ingress := [.booking b] }

theorem asking_atHead {s : State} (h : s.station.state ≠ .loading) (code : Byte) (args : List Byte) :
    (asking s code args).RequestAtHead code args [] := ⟨h, rfl, rfl, Nat.succ_pos 7⟩

theorem up : StationState.active ≠ .loading := by decide

theorem portIn_port (st : PortState) : (portIn st).port 0 = { upPort 5 4 with state := st } := by simp [portIn, State.port, State.setPort]

theorem portIn_state (st : PortState) : ((portIn st).port 0).state = st := by rw [portIn_port]

theorem waits (f : RowFrame) : live.row.phase ≠ .sending f := by
  show RowPhase.waiting ≠ .sending f
  nofun

theorem offering_atHead {s : State} (h : s.station.state ≠ .loading) (b : Booking) : (offering s b).BookingAtHead b [] := ⟨h, rfl, rfl⟩

/-- A booking request of the pair. -/
def booking : Booking := ⟨12, 1, 7001, 501, [1]⟩

/-- A host link that may send. -/
def readyLink : HostLink := { HostLink.afterReset with credits := 1 }

theorem readyLink_ready : readyLink.Ready := ⟨by decide, by decide⟩

/-! ## Ill-formed commands are refused (R169, R170, R77, R143, R162) -/

theorem test_wf_image : (Instr.eepromLoadComplete (some [1, 2]) false).wf = false := by decide
theorem test_wf_answer : (Instr.answerArrival 0 1 1 (List.replicate 513 0)).wf = false := by decide +kernel
theorem test_wf_reply_payload : (Instr.traceReplyArrival 0 1 1 .working [0]).wf = false := by decide
theorem test_wf_probe_due : (Instr.probeDue 0 0).wf = false ∧ (Instr.probeDue 64 0).wf = false := by decide
theorem test_wf_probe_wait : (Instr.probeWaitExpiry 0 0).wf = false ∧ (Instr.probeWaitExpiry 64 0).wf = false := by decide
theorem test_wf_echo : (Instr.echo 0 0 0).wf = false ∧ (Instr.echo 0 64 0).wf = false := by decide
theorem test_wf_sighting_state : (Instr.sightingReceived 0 .loading []).wf = false := by decide
theorem test_wf_sighting_order : (Instr.sightingReceived 0 .active [⟨5, 1, 0, 0⟩, ⟨5, 1, 0, 0⟩]).wf = false := by decide
theorem test_wf_sighting_count : (Instr.sightingReceived 0 .active
    [⟨1, 1, 0, 0⟩, ⟨2, 1, 0, 0⟩, ⟨3, 1, 0, 0⟩, ⟨4, 1, 0, 0⟩, ⟨5, 1, 0, 0⟩]).wf = false := by decide
theorem test_wf_sighting_entry :
    [⟨0, 1, 0, 0⟩, ⟨16, 1, 0, 0⟩, ⟨5, 0, 0, 0⟩, ⟨5, 5, 0, 0⟩, ⟨5, 1, 2, 0⟩, ⟨5, 1, 0, 513⟩].all
      (fun e => (Instr.sightingReceived 0 .active [e]).wf) = false ∧
    (Instr.sightingReceived 0 .active [⟨5, 4, 4, 512⟩]).wf = true := by decide
theorem test_wf_switch : (Instr.clearHoldExpiry 0).wf = false ∧ (Instr.clearHoldExpiry 16).wf = false ∧
    (Instr.staggerExpiry 0).wf = false ∧ (Instr.staggerExpiry 16).wf = false := by decide

/-! ## Worked cases of the spec -/

/-- 1.1: the tag of slot 300 at generation 5 is 5 × 512 + 300 = 2860. -/
theorem test_tag : tagOf 300 5 = 2860 ∧ tagSlot 2860 = 300 ∧ tagGeneration 2860 = 5 := by decide

/-- R28: the pair (7001, 12) falls in set 21, and so do those of 2.8. -/
theorem test_set_index : [7001, 7065, 7129, 7193, 7257].all (fun s => setIndex s 12 == 21) ∧ setIndex 7024 1 = 21 := by decide +kernel

/-- Table 2-3: the pointers and the tree victim after uses of ways 0, 1, 2, 3, 0, 2 and 1. -/
theorem test_tree_pointers :
    (([0, 1, 2, 3, 0, 2, 1] : List (Fin 4)).foldl (fun (x : CacheSet × List (Bool × Bool × Bool × Fin 4)) w =>
      let y := x.1.use w; (y, x.2 ++ [(y.root, y.left, y.right, y.treeVictim)])) (CacheSet.empty, [])).2 =
    [(true, true, false, 2), (true, false, false, 2), (false, false, true, 0), (false, false, false, 0),
      (true, true, false, 2), (false, true, true, 1), (true, false, true, 3)] := by decide

/-- Table 3-3: the peer-load terms 30, 10 and 75. -/
theorem test_peer_load : peerLoad 8 900 14 = 30 ∧ peerLoad 8 300 14 = 10 ∧ peerLoad 8 1500 9 = 75 := by decide

/-- 3.4: the lowest cost, and the lowest port number at a tie. -/
theorem test_cheapest : cheapest (fun p => [210, 190, 0, 213].getD p.val 0) [0, 1, 3] = some 1 ∧
    cheapest (fun p => [210, 210, 0, 213].getD p.val 0) [0, 1, 3] = some 0 := by decide

/-- 9.4: C = 15 with MIN WITNESS 2 and QUORUM 3, for D = 0, 1, 4, 5 and 6. -/
theorem test_verdict_arithmetic : [0, 1, 4, 5, 6].map (judge Config.defaults 15) =
    [.sound, .suspect, .suspect, .suspect, .failing] := by decide +kernel

/-- R163: SLOW LATENCY 60 and QUIET LATENCY 55 are both clamped to 50, and both count as clamped. -/
theorem test_clamping : let given := setItem (setItem Config.defaults 9 60) 10 55
    slowLatency (clampAll given) = 50 ∧ quietLatency (clampAll given) = 50 ∧ clampedItems given = [(9, 60), (10, 55)] := by decide +kernel

/-- 5.3: the intervals of steps 0 to 3 at BASE PROBE INTERVAL 80 are 80, 40, 20 and 10 ms. -/
theorem test_probe_interval : [0, 1, 2, 3].map (fun k => probeIntervalUs Config.defaults { good with step := k }) =
    [80000, 40000, 20000, 10000] := by decide +kernel

/-- Table 12-4: the bits on the line of sightings with 0, 2 and 4 entries and of a WITHDRAW. -/
theorem test_row_lengths :
    let e := fun n => (⟨n, 1, 0, 0⟩ : SwitchEntry)
    [RowFrame.sighting 7 .active [], .sighting 7 .active [e 3, e 5], .sighting 7 .active [e 1, e 2, e 3, e 4], .withdraw 7].map
      (fun f => f.onLine.length) = [37, 87, 137, 32] := by decide +kernel

/-- Table 12-6 and R130: a sighting on the line gives the command of its fields. -/
theorem test_row_command : rowCommand (RowFrame.sighting 7 .withdrawn [⟨3, 1, 0, 40⟩, ⟨5, 1, 1, 0⟩]).onLine =
    .sightingReceived 7 .withdrawn [⟨3, 1, 0, 40⟩, ⟨5, 1, 1, 0⟩] := by decide +kernel

/-- R170: a WITHDRAW of station 7 (id 00111, kind 10, fill) written out with its CRC gives its command, and with fill 1 it is discarded
as a frame broken off. -/
theorem test_row_command_checks :
    let line := fun (content : List Bool) => false :: (separate (content ++ bitsOf 16 (crcBits content).toNat) ++ [false])
    rowCommand (line [false, false, true, true, true, true, false, false]) = .withdrawReceived 7 ∧
    rowCommand (line [false, false, true, true, true, true, false, true]) = .frameBrokenOff := by decide +kernel

/-- R162: the bytes that end the load, with every acknowledgement and without the last. -/
theorem test_eeprom_command :
    let data := List.replicate 64 (0 : Byte)
    eepromCommand [true, true, true] data false = .eepromLoadComplete (some data) false ∧
    eepromCommand [true, true, false] data false = .eepromLoadComplete none false ∧ eepromRead.actions.length = 69 := by decide +kernel

/-- R130: the check sequence of the nine ASCII digits under this generator and start is 29B1 hex (the published check value of the
CRC so formed). -/
theorem test_crc : crcBytes [0x31, 0x32, 0x33, 0x34, 0x35, 0x36, 0x37, 0x38, 0x39] = 0x29B1#16 := by decide +kernel

/-- Table 12-3: the bytes of an ANSWER written out give its command, and with a bit changed a damaged frame. -/
theorem test_fabric_command :
    fabricCommand 2 (sealFrame [2, 11, 44, 1, 0, 2, 9, 8]) = .answerArrival 2 2860 1 [9, 8] ∧
    fabricCommand 2 ([3, 11, 44, 1, 0, 2, 9, 8] ++ (sealFrame [2, 11, 44, 1, 0, 2, 9, 8]).drop 8) = .damagedFrame 2 ∧
    fabricCommand 2 (sealFrame [12]) = .idleTick 2 ∧ fabricCommand 2 (sealFrame [6, 64, 0]) = .damagedFrame 2 := by decide +kernel

/-- R18, 1.12: an ANSWER on another port than the one the exchange was sent on completes it. -/
theorem test_answer : ((after (.answerArrival 1 tag300 1 [9]) (opened (sentOnce 1 lateSent))).ex.results,
    ((after (.answerArrival 1 tag300 1 [9]) (opened (sentOnce 1 lateSent))).live 300).map (·.payload)) = ([300], some [9]) := by decide +kernel

/-- 1.12, step 4: a REPEATABLE exchange whose answer wait expires is WAITING with RESEND at the same attempt. -/
theorem test_answer_wait : ((after (.answerWaitExpiry 300) (opened (sentOnce 1 lateSent))).live 300).map (fun e => (e.phase, e.attempt)) =
    some (.waiting .resend, 1) := by decide +kernel

/-- 1.12, step 7: a SINGLE-SHOT exchange whose answer wait expires on P0 is TRACING on P1. -/
theorem test_single_shot_traced : ((after (.answerWaitExpiry 300) (opened (sentOnce 2 lateSent))).live 300).map (fun e => (e.phase, e.traces)) =
    some (.tracing 1 2050000 2000000, 1) := by decide +kernel

/-- R6: slot 301, admitted before slot 300 but behind it on the ready list of P0, stands first once the list
has been emptied by a lost link and refilled. -/
theorem test_restart_refills_in_order :
    let s := (((opened (sentOnce 1 (.waiting .resend))).setRec 301 ⟨0, some { sentOnce 1 (.waiting .firstSend) with session := 7002 }⟩).setOrder
      [301, 300]).setEntryAt ⟨setIndex 7002 12, 0⟩ (some ⟨7002, 12, some 0, 1, false, none⟩)
    (((s.settleReady.cutLink 0 .down).settleReady.modPort 0 (fun x => { x with state := .up })).settleReady).ready 0 = [301, 300] := by
  decide +kernel

/-- R67, R122: the trace pending on P0 is handed back, and its next is pending on P1 at the same count. -/
theorem test_trace_handed_back :
    let t := (traceWaiting.modLive 300 (fun e => { e with traces := 2 })).dropLink 0 .down
    ((t.live 300).map (fun e => (e.phase, e.traces)), (t.port 1).pendingTraces) = (some (.tracing 1 2050000 2000000, 2), [300]) := by decide +kernel

/-- R66: a frame 10.001 ms old has left the history. -/
theorem test_integrity_window :
    ((after (.damagedFrame 0) (fabric.setPort 0 { upPort 5 4 with history := 1989999 :: List.replicate 6 1990000 })).port 0).history.length = 7 := by
  decide +kernel

/-- Table 5-5: the miss at 648 takes the cell from step 0 to step 1 and the miss count to 1. -/
theorem test_probe_miss :
    let x := (after (.probeWaitExpiry 12 0) (fabric.setCell 12 0 { good with inFlight := some ⟨1992000, 2000000⟩ })).cell 12 0
    (x.step, x.misses, x.inFlight) = (1, 1, none) := by decide +kernel

/-- Table 5-5: the slow echo of 5 ms takes the cell from step 1 to step 2 and the miss count to 0. -/
theorem test_slow_echo :
    let x := (after (.echo 0 12 7) (fabric.setCell 12 0 { good with step := 1, misses := 1, inFlight := some ⟨1995000, 2003000⟩ })).cell 12 0
    (x.step, x.misses, x.quiet) = (2, 0, 0) := by decide +kernel

/-- R40: an accepted PIN of the pair (7001, 12) to way 3 on P1. -/
theorem test_pin_reply :
    let s := after .pin (asking fabric 12 [0, 0, 27, 89, 12, 1, 3])
    s.link.replies = [⟨12, .done, .pinned 3 1⟩] ∧ s.entryAt ⟨21, 3⟩ = some ⟨7001, 12, some 1, 0, false, none⟩ := by decide +kernel

/-- R128: the sighting of 8.8 is composed as it stands at its start. -/
theorem test_sighting_composed :
    let s := (((fabric.setPort 0 (upPort 3 4)).setPort 1 { upPort 5 0 with state := .down }).setPort 2
      { upPort 5 4 with state := .quiescing }).setOutstanding 0 [1, 2, 3]
    (after (.rowFrameStart true) (s.setRow { s.row with pending := .sighting })).row.phase =
      .sending (.sighting 3 .active [⟨3, 1, 0, 3⟩, ⟨5, 1, 1, 0⟩]) := by decide +kernel

/-- 11.5: the load of a good image enters STANDBY as LOADED. -/
theorem test_load_enters_standby :
    let image := sealFrame ([70, 1] ++ Config.defaults.toList.flatMap (bytesOf 2) ++ List.replicate 8 0)
    let s := after (.eepromLoadComplete (some image) false) State.reset
    s.station.state = .standby ∧ s.link.notices.map (·.body) = [.started 0 ⟨true, false, false⟩ (some .loaded)] := by decide +kernel

/-! ## Witnesses: the hypotheses of each statement, clause by clause, can be met together -/

/-- The part while the RESET pin is held asserted. -/
def held : State := State.reset.fullResetHeld ⟨true, true, false⟩

/-- An image with the given items, closed by its check sequence. -/
def imageOf (first : Byte) (items : Config.Settings) : List Byte :=
  sealFrame (first :: 1 :: items.toList.flatMap (bytesOf 2) ++ List.replicate 8 0)

theorem witness_StepsRunTheQueue :
    { State.reset with pending := [.admission, .flush] }.pending = .admission :: [.flush] ∧
    State.reset.pending = [] ∧ State.reset.station.pinAsserted = false ∧ held.pending = [] ∧ held.station.pinAsserted = true := by
  decide +kernel

theorem witness_CommandsKeepOtherBlocks :
    fabric.raised = [] ∧ exec .admission fabric = .next fabric ∧ Block.row ∉ blocksOf .admission := ⟨rfl, rfl, by decide⟩

theorem witness_FullResets : State.reset.station.pinAsserted = false ∧ held.station.pinAsserted = true := by decide

theorem witness_LoadOutcomes :
    (false ∈ [true, false, true] ∧ [true, true].length ≠ 3) ∧ ([] : List Byte).length ≠ 64 ∧
    ((List.replicate 64 (0 : Byte)).length = 64 ∧
      (List.replicate 64 (0 : Byte)).drop 62 ≠ bytesOf 2 (crcBytes ((List.replicate 64 0).take 62)).toNat) ∧
    (let image := imageOf 71 Config.defaults;
      image.length = 64 ∧ image.drop 62 = bytesOf 2 (crcBytes (image.take 62)).toNat ∧ image.take 2 ≠ [70#8, 1#8]) ∧
    (let image := imageOf 70 Config.defaults;
      image.length = 64 ∧ image.drop 62 = bytesOf 2 (crcBytes (image.take 62)).toNat ∧ image.take 2 = [70#8, 1#8] ∧
      ∀ n, 1 ≤ n → n ≤ 26 → item (clampAll (imageItems image)) n = item (imageItems image) n) ∧
    (let image := imageOf 70 (setItem Config.defaults 1 60000);
      image.length = 64 ∧ image.drop 62 = bytesOf 2 (crcBytes (image.take 62)).toNat ∧ image.take 2 = [70#8, 1#8] ∧
      item (clampAll (imageItems image)) 1 ≠ item (imageItems image) 1) := by
  decide +kernel

theorem witness_LoadEntersStandby :
    let s := { State.reset with timeBase := 50000 }
    s.station.state = .loading ∧ s.station.loadBegan = some 0 ∧
    (∀ p : PortId, (s.port p).state = .down ∧ (s.port p).retryBar = false ∧ (s.port p).signal = false) ∧ s.raised = [] ∧
    s.link.notices = [] ∧ 50000 ≤ (elapsed s.timeBase 0).toNat := by
  decide +kernel

theorem witness_ClampingTakesTheNearerBound : (1 ≤ 1 ∧ 1 ≤ 26) ∧ (1 ≤ 10 ∧ 10 ≤ 26) ∧ (1 ≤ 26 ∧ 26 ≤ 26) := by decide

theorem witness_HostResets :
    (∀ st, (portIn st).station.state ≠ .loading ∧ (asking (portIn st) 19 []).RequestAtHead 19 [] [] ∧
      ((asking (portIn st) 19 []).port 0).state = st ∧ ((asking (portIn st) 19 []).port 0).signal = true ∧ 12 ∈ ((portIn st).port 0).reach) ∧
    (∀ r, (asking (live.setRow r) 19 []).RequestAtHead 19 [] [] ∧ (asking (live.setRow r) 19 []).row = r) ∧
    { RowBus.afterReset with lineFault := LineFault.heldLow }.lineFault = .heldLow :=
  ⟨fun st => ⟨up, asking_atHead up 19 [], portIn_state st, congrArg Port.signal (portIn_port st),
      (portIn_port st).symm ▸ List.mem_singleton.mpr rfl⟩,
    fun _ => ⟨asking_atHead up 19 [], rfl⟩, rfl⟩

theorem witness_HostFramesAreTaken :
    let full := fun (n : Nat) => live.setLink
      { HostLink.afterReset with ingress := List.replicate 32 (.control 4 []), notices := List.replicate n ⟨0, .linkOverrun true⟩ }
    (HostFrame.control 4 []).wf = true ∧ (HostFrame.booking booking).wf = true ∧ live.station.state ≠ .loading ∧ live.raised = [] ∧
    live.link.ingress.length < 32 ∧
    32 ≤ (full 15).link.ingress.length ∧ (full 15).link.notices.length < 16 ∧ 16 ≤ (full 16).link.notices.length ∧
    (openFrame [1] = none ∧ ([1] : List Byte).head? = some 1#8) ∧ (openFrame [2] = none ∧ ([2] : List Byte).head? ≠ some 1#8) := by
  decide +kernel

/-- Slot 300 holds an ANSWERED exchange at the head of the result queue, and the host link may send. -/
def answered : State :=
  (((opened (sentOnce 1 (.answered .completed))).setLink readyLink).setOrder []).setResults [300]

theorem witness_HostBoundFramesGoInOrder :
    live.station.state ≠ .loading ∧
    (let l : HostLink := { readyLink with returnDue := true, freed := 1 }; l.returnDue = true ∧ 1 ≤ l.freed) ∧
    readyLink.Ready ∧ { readyLink with replies := [⟨13, .done, .flushed 0⟩] }.replies = ⟨13, .done, .flushed 0⟩ :: [] ∧
    (readyLink.replies = [] ∧ { readyLink with notices := [⟨0, .linkOverrun true⟩] }.notices = ⟨0, .linkOverrun true⟩ :: [] ∧
      live.ex.results = []) ∧ 8 ≤ { readyLink with resultRun := 8 }.resultRun ∧
    -- a command whose turn it is not
    State.reset.station.state = .loading ∧ live.link.returnDue = false ∧ live.link.freed = 0 ∧ live.link.credits = 0 ∧
    live.link.replies = [] ∧ live.link.notices = [] ∧ { readyLink with replies := [⟨13, .done, .flushed 0⟩] }.replies ≠ [] ∧
    (answered.ex.results ≠ [] ∧ answered.link.resultRun < 8) :=
  ⟨by decide, by decide, readyLink_ready, rfl, ⟨rfl, rfl, rfl⟩, by decide, rfl, rfl, rfl, rfl, rfl, rfl, nofun, nofun, Nat.succ_pos 7⟩

theorem witness_ResultsAreSentAndFreed :
    answered.station.state ≠ .loading ∧ answered.link.Ready ∧ answered.link.replies = [] ∧ answered.link.notices = [] ∧
    answered.ex.results = [300] ∧ answered.live 300 = some (sentOnce 1 (.answered .completed)) ∧
    (sentOnce 1 (.answered .completed)).phase = .answered .completed ∧
    -- a command whose turn it is not
    State.reset.station.state = .loading ∧ live.link.credits = 0 ∧ live.ex.results = [] ∧
    (let l : HostLink := { readyLink with returnDue := true, freed := 1 }; l.returnDue = true ∧ 1 ≤ l.freed) ∧
    { readyLink with replies := [⟨13, .done, .flushed 0⟩] }.replies ≠ [] ∧
    (let l : HostLink := { readyLink with notices := [⟨0, .linkOverrun true⟩], resultRun := 8 }; l.notices ≠ [] ∧ 8 ≤ l.resultRun) :=
  ⟨by decide, readyLink_ready, rfl, rfl, rfl, by decide +kernel, rfl, rfl, rfl, rfl, by decide, by decide, by decide⟩

theorem witness_RefusedRequestsAreAnswered :
    let b := booking
    let bad := fun (b : Booking) => (offering live b).BookingAtHead b [] ∧ (offering live b).ex.free = 0 :: (List.finRange 512).tail
    ((offering (station .standby) b).BookingAtHead b [] ∧ (station .standby).station.state ≠ .active) ∧
    (bad { b with payload := [] } ∧ ({ b with payload := [] } : Booking).payload.length = 0) ∧ (bad { b with cls := 3 }) ∧
    (bad { b with target := 64 }) ∧ (bad b ∧ ∀ p : PortId, (live.cell b.target.toNat p).state = .absent) :=
  ⟨⟨offering_atHead (by decide) _, by decide⟩, ⟨⟨offering_atHead (by decide) _, by decide +kernel⟩, rfl⟩,
    ⟨offering_atHead (by decide) _, by decide +kernel⟩, ⟨offering_atHead (by decide) _, by decide +kernel⟩,
    ⟨offering_atHead (by decide) _, by decide +kernel⟩, by decide +kernel⟩

/-- Set 21 is full of other pairs' pinned entries. -/
def fullSet : State := allWays.foldl (fun s w => s.setEntryAt ⟨21, w⟩ (some ⟨7065, 12, some 0, 1, false, none⟩)) fabric

theorem witness_RequestsWaitForSlotOrWay :
    ((offering (live.setFree []) booking).BookingAtHead booking [] ∧ (offering (live.setFree []) booking).ex.free = []) ∧
    ((offering fullSet booking).BookingAtHead booking [] ∧ (offering fullSet booking).ex.free ≠ [] ∧
      (offering fullSet booking).refusal booking = none ∧ (offering fullSet booking).findPlace 7001 12 = none ∧
      ∀ w : Fin 4, ∃ e, (offering fullSet booking).entryAt ⟨setIndex 7001 12, w⟩ = some e ∧ 0 < e.count) :=
  ⟨⟨offering_atHead (by decide) _, rfl⟩, offering_atHead (by decide) _, by decide +kernel, by decide +kernel, by decide +kernel,
    fun w => ⟨⟨7065, 12, some 0, 1, false, none⟩, by revert w; decide +kernel⟩⟩

/-- The pair has an idle entry on P0, with or without a quiesce mark. -/
def idle (mark : Bool) : State := fabric.setEntryAt place (some ⟨7001, 12, some 0, 0, mark, none⟩)

theorem witness_AdmittedRequestsEnterTheTable :
    let met := fun (s : State) => (offering s booking).BookingAtHead booking [] ∧ (offering s booking).raised = [] ∧
      (offering s booking).ex.free = 0 :: (List.finRange 512).tail ∧ (offering s booking).refusal booking = none
    (met (idle true) ∧ (idle true).findPlace 7001 12 = some place ∧ (idle true).entryAt place = some ⟨7001, 12, some 0, 0, true, none⟩) ∧
    (met (idle false) ∧ (idle false).findPlace 7001 12 = some place ∧
      (idle false).entryAt place = some ⟨7001, 12, some 0, 0, false, none⟩) ∧
    (met fabric ∧ fabric.findPlace 7001 12 = none ∧ (fabric.cacheSet (setIndex 7001 12)).chooseWay = some 0) :=
  ⟨⟨⟨offering_atHead (by decide) _, rfl, by decide +kernel, by decide +kernel⟩, by decide +kernel, by decide +kernel⟩,
    ⟨⟨offering_atHead (by decide) _, rfl, by decide +kernel, by decide +kernel⟩, by decide +kernel, by decide +kernel⟩,
    ⟨offering_atHead (by decide) _, rfl, by decide +kernel, by decide +kernel⟩, by decide +kernel, by decide +kernel⟩

/-- A set whose four ways hold entries with the given counts. -/
def counts (a b c d : Nat) : CacheSet :=
  let e := fun n => some (⟨7001, 12, none, n, false, none⟩ : Entry)
  ⟨#v[e a, e b, e c, e d], false, false, false⟩

theorem witness_ReplacementRule : CacheSet.empty.chooseWay = some 0 ∧ (counts 0 1 0 1).chooseWay = some 0 ∧
    (counts 1 1 0 0).chooseWay = some 2 ∧ (counts 1 1 1 1).chooseWay = none := by
  decide +kernel

theorem witness_UnreadableRequestsChangeNothing :
    ((asking live 0 []).RequestAtHead 0 [] [] ∧ codeKnown 0 = false ∧ codeKnown 20 = false) ∧
    ((asking live 6 [2, 0]).RequestAtHead 6 [2, 0] [] ∧ codeKnown 6 = true ∧ argsReadable 6 [2, 0] = false) ∧
    (codeKnown 1 = true ∧ argsReadable 1 [] = false) :=
  ⟨⟨asking_atHead (by decide) _ _, by decide, by decide⟩, ⟨asking_atHead (by decide) _ _, by decide, by decide⟩, by decide, by decide⟩

theorem witness_ReadingRequestsReport : ∀ code args, (asking live code args).RequestAtHead code args [] :=
  fun code args => asking_atHead (by decide) code args

theorem witness_ConfigureSetsItems :
    let args := [11, 0, 2, 26, 0, 1]
    (asking live 1 args).RequestAtHead 1 args [] ∧ argsConfigure args = some [(11, 2), (26, 1)] ∧ live.station.locked = true ∧
    (asking (station .standby) 1 args).RequestAtHead 1 args [] ∧ (station .standby).station.locked = false ∧
    (station .standby).station.state = .standby ∧
    missLimit (setItem Config.defaults 11 2) < missLimit Config.defaults ∧ creditBatch (setItem Config.defaults 26 1) ≤ 1 ∧
    -- a changed BASE PROBE INTERVAL brings a probe due, and changed periods move the sighting times and the age limits
    (let probes := setItem Config.defaults 7 20;
      clampAll probes = probes ∧ item Config.defaults 7 ≠ item probes 7 ∧ (fabric.cell 12 0).state ≠ .absent ∧
        (fabric.port 0).state.linked = true ∧ (fabric.cell 12 0).inFlight = none ∧ (fabric.cell 12 0).pending = false ∧
        (fabric.cell 12 0).lastSend = some 1950000 ∧ reached fabric.timeBase (1950000 + ms (max 1 (baseProbeInterval probes / 2 ^ 0))) = true) ∧
    ([16, 17, 18, 19, 20, 21].all (fun n => item Config.defaults n != item (setItem Config.defaults n 4) n)) = true ∧
    (live.row.lastSent = none ∧ { live.row with lastSent := some 1990000 }.lastSent = some 1990000) :=
  ⟨asking_atHead (by decide) _ _, by decide, rfl, asking_atHead (by decide) _ _, rfl, rfl, by decide +kernel, by decide +kernel,
    by decide +kernel, by decide +kernel, rfl, rfl⟩

theorem witness_EnableAndWithdraw :
    (asking (station .standby) 2 []).RequestAtHead 2 [] [] ∧ (station .standby).station.state = .standby ∧
    (asking live 2 []).RequestAtHead 2 [] [] ∧ (asking live 3 []).RequestAtHead 3 [] [] ∧ live.station.state = .active ∧
    (asking (station .standby) 3 []).RequestAtHead 3 [] [] :=
  ⟨asking_atHead (by decide) _ _, rfl, asking_atHead (by decide) _ _, asking_atHead (by decide) _ _, rfl, asking_atHead (by decide) _ _⟩

/-- PIN of the pair (7001, 12) to P1, or to an automatic port, in way 3 or an automatic way. -/
def pinArgs (port way : Byte) : List Byte := [0, 0, 27, 89, 12, port, way]

theorem witness_PinInstallsThePair :
    (∀ s : State, s.station.state ≠ .loading → ∀ port way, (asking s 12 (pinArgs port way)).RequestAtHead 12 (pinArgs port way) []) ∧
    (argsPin (pinArgs 1 3) = some ⟨7001, 12, some 1, some 3⟩ ∧ argsPin (pinArgs 255 255) = some ⟨7001, 12, none, none⟩) ∧
    -- the pair's own entry is pinned
    ((opened (sentOnce 1 lateSent)).cacheSet 21).findWay 7001 12 = some 0 ∧
    (∃ e, (opened (sentOnce 1 lateSent)).entryAt place = some e ∧ 0 < e.count) ∧
    -- the way asked for is pinned, and so is every other, by another pair
    ((fullSet.cacheSet 21).findWay 7001 12 = none ∧ ∀ w : Fin 4, ∃ e, fullSet.entryAt ⟨21, w⟩ = some e ∧ 0 < e.count) ∧
    -- the pair is absent, a way can be chosen, and a port can or cannot
    ((fabric.cacheSet 21).findWay 7001 12 = none ∧ (fabric.cacheSet 21).chooseWay = some 0 ∧ fabric.selectFor 7001 12 = some 0 ∧
      live.selectFor 7001 12 = none) :=
  ⟨fun _ h _ _ => asking_atHead h _ _, by decide, by decide +kernel, ⟨⟨7001, 12, some 0, 1, false, none⟩, by decide +kernel⟩,
    ⟨by decide +kernel, fun w => ⟨⟨7065, 12, some 0, 1, false, none⟩, by revert w; decide +kernel⟩⟩, by decide +kernel⟩

theorem witness_FlushKeepsPinnedEntries : (asking (idle true) 13 []).RequestAtHead 13 [] [] ∧
    (asking fullSet 13 []).RequestAtHead 13 [] [] := ⟨asking_atHead (by decide) _ _, asking_atHead (by decide) _ _⟩

/-- P0 is UP with an exchange of the pair outstanding there. -/
def working (state : PortState) : State := (portIn state).setOutstanding 0 [300]

theorem witness_PortOffRequests :
    (∀ st mode, (asking (portIn st) 14 [0, mode]).RequestAtHead 14 [BitVec.ofNat 8 (0 : PortId).val, mode] [] ∧
      (asking (portIn st) 14 [0, mode]).raised = [] ∧ ((asking (portIn st) 14 [0, mode]).port 0).state = st ∧
      (portIn st).outstanding 0 = []) ∧
    (∀ st mode, (asking (working st) 14 [0, mode]).RequestAtHead 14 [BitVec.ofNat 8 (0 : PortId).val, mode] [] ∧
      ((asking (working st) 14 [0, mode]).port 0).state = st ∧ (working st).outstanding 0 ≠ []) :=
  ⟨fun st _ => ⟨asking_atHead up _ _, rfl, portIn_state st, rfl⟩, fun st _ => ⟨asking_atHead up _ _, portIn_state st, nofun⟩⟩

theorem witness_PortOnAndResetRequests :
    ∀ st code, (asking (portIn st) code [0]).RequestAtHead code [BitVec.ofNat 8 (0 : PortId).val] [] ∧
      (asking (portIn st) code [0]).raised = [] ∧ ((asking (portIn st) code [0]).port 0).state = st :=
  fun st _ => ⟨asking_atHead up _ _, rfl, portIn_state st⟩

theorem witness_EndAndCancelReachTheOldest :
    let args := bytesOf 4 (501 : Word32).toNat
    (∀ s : State, s.station.state ≠ .loading → ∀ code, (asking s code args).RequestAtHead code args []) ∧
    fabric.raised = [] ∧ fabric.ex.order = [] ∧
    (∀ cls, (opened (sentOnce cls lateSent)).ex.order = [] ++ 300 :: [] ∧
      (opened (sentOnce cls lateSent)).live 300 = some (sentOnce cls lateSent)) ∧
    (sentOnce 1 lateSent).hostRef = 501 ∧ (sentOnce 2 lateSent).everSent = true ∧ (sentOnce 2 lateSent).cls ≠ 1#8 ∧
    (opened (sentOnce 1 lateSent)).NoDrain 300 :=
  ⟨fun _ h _ => asking_atHead h _ _, rfl, rfl, fun _ => ⟨rfl, rfl⟩, rfl, rfl, by decide, by unfold State.NoDrain; decide +kernel⟩

/-- A WAITING exchange of the pair. -/
def waiting (action : Action) : State := opened (sentOnce 1 (.waiting action))

theorem witness_TheArbiterSendsExchanges :
    let met := fun (s : State) (e : Exchange) => s.raised = [] ∧ (s.port 0).state.linked = true ∧ 1 ≤ (s.port 0).credits ∧
      (s.port 0).pendingProbes = [] ∧ (s.port 0).pendingTraces = [] ∧ s.ready 0 = [] ++ 300 :: [] ∧ s.live 300 = some e
    (met (waiting .resend) (sentOnce 1 (.waiting .resend)) ∧ (waiting .resend).phase 300 = some (.waiting .resend)) ∧
    (met (waiting .firstSend) (sentOnce 1 (.waiting .firstSend)) ∧
      ∀ j ∈ (waiting .firstSend).ready 0, (waiting .firstSend).phase j ≠ some (.waiting .resend)) := by
  decide +kernel

theorem witness_TracesAreTransmitted :
    ((traceWaiting.port 0).state.linked = true ∧ 1 ≤ (traceWaiting.port 0).credits ∧ (traceWaiting.port 0).pendingProbes = [] ∧
      (traceWaiting.port 0).pendingTraces = 300 :: [] ∧ traceWaiting.live 300 = some (sentOnce 2 lateTracing)) ∧
    (traceWaiting.setRec 300 ⟨6, none⟩).live 300 = none ∧ (live.port 0).credits = 0 ∧ (live.port 0).state.linked = false := by
  decide +kernel

/-- The states of the expiries: a SENT, a TRACING and a HELD exchange, each past its deadline by 1 ms. -/
theorem witness_AnswersComplete :
    live.raised = [] ∧ ([9] : List Byte).length ≤ 512 ∧ tagSlot tag300 = 300 ∧ (live.port 0).state.linked = false ∧
    ((fabric.port 1).state.linked = true ∧ fabric.live 300 = none) ∧
    (let s := opened (sentOnce 1 lateSent);
      (s.port 1).state.linked = true ∧ s.live 300 = some (sentOnce 1 lateSent) ∧
      tagGeneration tag300 = (s.record 300).generation.val ∧ (sentOnce 1 lateSent).everSent = true ∧ lateSent.isOpen = true) ∧
    (opened (sentOnce 1 lateSent)).NoDrain 300 :=
  ⟨rfl, by decide, by decide, by decide +kernel, by decide +kernel, by decide +kernel, by unfold State.NoDrain; decide +kernel⟩

theorem witness_AnswerWaitsExpire :
    let s := opened (sentOnce 2 lateSent)
    s.raised = [] ∧ s.live 300 = some (sentOnce 2 lateSent) ∧ (sentOnce 2 lateSent).phase = .sent 0 1999000 1799000 ∧
    reached s.timeBase 1999000 = true ∧ reached s.timeBase 2000001 = false ∧ s.NoDrain 300 ∧
    -- the miss counts where the exchange was sent after the cell's tested-since time, and not where it was sent before
    s.monitored 12 0 = true ∧ (s.cell 12 0).testedSince = some 1000000 ∧ isBefore 1799000 1000000 = false ∧
    isBefore 999999 1000000 = true ∧
    -- at the limits and below them
    (1 < attemptLimit s.config ∧ ¬ 3 < attemptLimit s.config) ∧ (¬ traceLimit s.config ≤ 0 ∧ traceLimit s.config ≤ 2) :=
  ⟨rfl, rfl, rfl, by decide, by decide, by unfold State.NoDrain; decide +kernel, by decide +kernel, by decide +kernel, by decide,
    by decide, by decide +kernel, by decide +kernel⟩

theorem witness_HoldsAndTraceWaitsExpire :
    (∀ action, (opened (sentOnce 2 (.held action 1999000))).raised = [] ∧
      (opened (sentOnce 2 (.held action 1999000))).live 300 = some (sentOnce 2 (.held action 1999000)) ∧
      (sentOnce 2 (.held action 1999000)).phase = .held action 1999000) ∧
    reached fabric.timeBase 1999000 = true ∧ reached fabric.timeBase 2000001 = false ∧ fabric.live 300 = none ∧
    (let s := opened (sentOnce 2 lateTracing);
      s.raised = [] ∧ s.live 300 = some (sentOnce 2 lateTracing) ∧ (sentOnce 2 lateTracing).phase = .tracing 0 1999000 1949000 ∧
      s.NoDrain 300) :=
  ⟨fun _ => ⟨rfl, rfl, rfl⟩, by decide, by decide, by decide +kernel, rfl, rfl, rfl, by unfold State.NoDrain; decide +kernel⟩

theorem witness_TraceRepliesSettle :
    let s := opened (sentOnce 2 lateTracing)
    s.raised = [] ∧ tracePayloadWf .done [9] = true ∧ tracePayloadWf .working [] = true ∧ tracePayloadWf .notSeen [] = true ∧
    (live.port 0).state.linked = false ∧ ((fabric.port 0).state.linked = true ∧ fabric.live (tagSlot tag300) = none) ∧
    ((s.port 0).state.linked = true ∧ s.live (tagSlot tag300) = some (sentOnce 2 lateTracing) ∧
      tagGeneration tag300 = (s.record 300).generation.val ∧ (sentOnce 2 lateTracing).phase = .tracing 0 1999000 1949000 ∧
      (1 : Byte).toNat = (sentOnce 2 lateTracing).attempt) ∧
    s.NoDrain 300 ∧ s.NoDrain 300 (some 0) :=
  ⟨rfl, by decide, by decide, by decide, by decide +kernel, by decide +kernel, by decide +kernel, by unfold State.NoDrain; decide +kernel,
    by unfold State.NoDrain; decide +kernel⟩

/-- P0 is QUIESCING with the exchange its last one. -/
def draining (e : Exchange) : State := (opened e).modPort 0 (fun x => { x with state := .quiescing })

theorem witness_DrainedPortsEnterOff :
    let met := fun (e : Exchange) => (draining e).raised = [] ∧ ((draining e).port 0).state = .quiescing ∧
      (draining e).outstanding 0 = [300] ∧ (∀ r, r ≠ 0 → 300 ∉ (draining e).outstanding r) ∧ (draining e).live 300 = some e ∧
      e.everSent = true
    (met (sentOnce 1 lateSent) ∧ lateSent.isOpen = true ∧ ((draining (sentOnce 1 lateSent)).port 1).state.linked = true ∧
      (sentOnce 1 lateSent).phase = .sent 0 1999000 1799000 ∧ reached (draining (sentOnce 1 lateSent)).timeBase 1999000 = true ∧
      (draining (sentOnce 1 lateSent)).ex.order.head? = some 300) ∧
    (met (sentOnce 2 lateTracing) ∧ (sentOnce 2 lateTracing).phase = .tracing 0 1999000 1949000 ∧
      reached (draining (sentOnce 2 lateTracing)).timeBase 1999000 = true) ∧
    (∀ code, (asking (draining (sentOnce 1 lateSent)) code (bytesOf 4 (501 : Word32).toNat)).RequestAtHead code
      (bytesOf 4 (501 : Word32).toNat) []) ∧
    ((1 : PortId) ≠ 0 ∧ (1 : Byte).toNat = (sentOnce 2 lateTracing).attempt) ∧
    (let s := (draining (sentOnce 1 lateSent)).setFailover ⟨[], some (.walk (.cell 12 0) 2000000)⟩;
      s.station.state ≠ .loading ∧ s.failover.current = some (.walk (.cell 12 0) 2000000) ∧ (LossScope.cell 12 0).portOf = 0 ∧
      (LossScope.cell 12 0).covers 12 = true ∧ isBefore 1799000 2000000 = true) :=
  ⟨by decide +kernel, by decide +kernel, fun _ => asking_atHead (by decide) _ _, by decide, up, rfl, rfl, by decide, by decide⟩

theorem witness_SignalAndTraining :
    let dark := live.setPort 0 (Port.afterReset false)
    let resetting := live.setPort 0 { Port.afterReset true with state := .reset, holdEnds := some 2000000 }
    let training := live.setPort 0 { Port.afterReset true with state := .training, trainingEnds := some 2000000 }
    dark.raised = [] ∧ ((dark.port 0).state = .down ∧ (dark.port 0).retryBar = false ∧ (dark.port 0).signal = false ∧
      dark.station.state ≠ .loading) ∧
    ((resetting.port 0).state = .reset ∧ expired resetting.timeBase (resetting.port 0).holdEnds = true ∧
      (resetting.port 0).signal = true) ∧
    ((training.port 0).state = .training ∧ expired training.timeBase (training.port 0).trainingEnds = true) := by
  decide +kernel

theorem witness_LinksAreLost :
    let s := fabric.setPort 0 { upPort 5 4 with silenceEnds := some 2000000, history := List.replicate 7 1990000 }
    s.raised = [] ∧ (s.port 0).state.linked = true ∧ expired s.timeBase (s.port 0).silenceEnds = true ∧
    expired fabric.timeBase (fabric.port 0).silenceEnds = false ∧ (s.port 0).signal = true ∧
    7 ≤ ((s.port 0).history.filter (fun at_ => (elapsed s.timeBase at_).toNat ≤ 10000)).length ∧
    -- a trace to be handed back, which another port can take
    ((traceWaiting.port 0).pendingTraces = [] ++ 300 :: [] ∧ (traceWaiting.port 0).pendingTraces.Nodup ∧
      traceWaiting.live 300 = some (sentOnce 2 lateTracing) ∧ ¬ traceLimit traceWaiting.config ≤ 0 - 1 ∧
      traceLimit (setItem traceWaiting.config 4 0) ≤ 0 - 1 ∧ traceWaiting.eligible 12 1 = true) := by
  decide +kernel

theorem witness_FramesFromTheSwitch :
    fabric.raised = [] ∧ (fabric.port 0).state.linked = true ∧
    ((fabric.port 0).history.filter (fun at_ => (elapsed fabric.timeBase at_).toNat ≤ 10000)).length < 7 ∧
    (live.port 0).state.linked = false ∧ 512 < (List.replicate 513 (0 : Byte)).length ∧ tracePayloadWf .notSeen [0] = false ∧
    ((0 : Byte).toNat = 0 ∧ 63 < (64 : Byte).toNat) ∧ (1 ≤ (63 : Byte).toNat ∧ (63 : Byte).toNat ≤ 63) := by
  decide +kernel

theorem witness_LinkOffersTrainPorts :
    (∀ st, (portIn st).raised = [] ∧ ((portIn st).port 0).state = st ∧ ((portIn st).port 0).pendingProbes = [] ∧
      ((portIn st).port 0).signal = true ∧ ((portIn st).port 0).retryBar = false ∧ (portIn st).ready 0 = [] ∧
      ((portIn st).port 0).pendingTraces.Nodup) ∧
    (let valid := fun (identity grant : Byte) => 1 ≤ identity.toNat ∧ identity.toNat ≤ 15 ∧ 1 ≤ grant.toNat ∧ grant.toNat ≤ 64;
      valid 1 1 ∧ valid 15 64 ∧ ¬ valid 0 1 ∧ ¬ valid 16 1 ∧ ¬ valid 1 0 ∧ ¬ valid 1 65) :=
  ⟨fun st => by rw [portIn_port]; exact ⟨rfl, rfl, rfl, rfl, rfl, rfl, List.nodup_nil⟩, by decide⟩

theorem witness_ReachReplacesTheList :
    let s := opened (sentOnce 1 lateSent)
    s.raised = [] ∧ (s.port 0).state.linked = true ∧
    -- target 12 dropped, targets 1 and 63 added, target 40 as it was
    ((0x8000000000000002#64).getLsbD 12 = false ∧ 12 ∈ (s.port 0).reach ∧ (s.cell 12 0).state = .good ∧ s.carries 12 0 = true) ∧
    ((0x8000000000000002#64).getLsbD 1 = true ∧ (0x8000000000000002#64).getLsbD 63 = true ∧ 1 ∉ (s.port 0).reach ∧ 63 ∉ (s.port 0).reach) ∧
    (0x8000000000000002#64).getLsbD 40 = false := by
  decide +kernel

theorem witness_ProbesFallDueGoOutAndMiss :
    ((fabric.cell 12 0).state ≠ .absent ∧ (fabric.port 0).state.linked = true ∧ (fabric.cell 12 0).inFlight = none ∧
      (fabric.cell 12 0).pending = false ∧ (fabric.cell 12 0).lastSend = some 1950000 ∧ 12 ∉ (fabric.port 0).pendingProbes ∧
      reached fabric.timeBase (1950000 + ms 80) = false ∧ reached 2030000 (1950000 + ms 80) = true) ∧
    (let s := fabric.modPort 0 (fun x => { x with pendingProbes := [12] });
      12 ∈ allTargets ∧ (s.port 0).state.linked = true ∧ 1 ≤ (s.port 0).credits ∧ (s.port 0).pendingProbes = 12 :: []) ∧
    (let s := fabric.setCell 12 0 { good with inFlight := some ⟨1992000, 2000000⟩ };
      s.raised = [] ∧ (s.cell 12 0).inFlight = some ⟨1992000, 2000000⟩ ∧ reached s.timeBase 2000000 = true ∧
      reached s.timeBase 2000001 = false ∧ s.monitored 12 0 = true ∧
      (live.setCell 12 0 { good with inFlight := some ⟨1992000, 2000000⟩ }).monitored 12 0 = false) := by
  decide +kernel

theorem witness_EchoesResolveProbes :
    let cell := fun (st : CellState) (quiet recovery : Nat) (sentAt : Time) =>
      { good with state := st, quiet := quiet, recovery := recovery, inFlight := some ⟨sentAt, 2008000⟩ }
    fabric.raised = [] ∧ (1 ≤ (12 : Byte).toNat ∧ (12 : Byte).toNat ≤ 63) ∧ (fabric.port 0).state.linked = true ∧
    (fabric.cell 12 0).inFlight = none ∧
    (fabric.setCell 12 0 (cell .good 7 0 1999000)).cell 12 0 = cell .good 7 0 1999000 ∧
    -- slow, eighth quiet, quiet and other echoes, and a LOST cell at RECOVER COUNT
    slowLatency fabric.config * 1000 < (elapsed fabric.timeBase 1995999).toNat ∧
    ((elapsed fabric.timeBase 1999000).toNat ≤ quietLatency fabric.config * 1000 ∧ 8 ≤ (cell .good 7 0 1999000).quiet + 1) ∧
    ¬ 8 ≤ (cell .good 6 0 1999000).quiet + 1 ∧
    (¬ slowLatency fabric.config * 1000 < (elapsed fabric.timeBase 1996000).toNat ∧
      ¬ (elapsed fabric.timeBase 1996000).toNat ≤ quietLatency fabric.config * 1000) ∧
    ((cell .lost 0 2 1999000).state = .lost ∧ recoverCount fabric.config ≤ (cell .lost 0 2 1999000).recovery + 1) ∧
    (7 : Byte) = (cell .good 7 0 1999000).probeNumber := by
  decide +kernel

theorem witness_WorkItemsAreTakenUp :
    live.station.state ≠ .loading ∧ live.failover.current = none ∧ live.failover.work = [] ∧
    (∀ w, (live.setFailover ⟨[w], none⟩).failover.work = w :: [] ∧ (live.setFailover ⟨[w], none⟩).failover.current = none) ∧
    (fabric.cell 12 0).state = .good ∧ (fabric.cell 12 2).state ≠ .good :=
  ⟨by decide, rfl, rfl, fun _ => ⟨rfl, rfl⟩, by decide +kernel, by decide +kernel⟩

theorem witness_ReplacementsMoveThePair :
    let s := opened (sentOnce 1 (.held .resend 2500000))
    s.findPlace 7001 12 = some place ∧ s.entryAt place = some ⟨7001, 12, some 0, 1, false, none⟩ ∧
    (300 ∈ s.ex.order ∧ s.live 300 = some (sentOnce 1 (.held .resend 2500000))) := by
  decide +kernel

theorem witness_WalksMoveTheOldest :
    let at_ := fun (e : Exchange) (scope : LossScope) (horizon : Time) =>
      (opened e).setFailover ⟨[], some (.walk scope horizon)⟩
    (∀ ph ∈ [lateSent, lateTracing], let s := at_ (sentOnce 2 ph) (.port 0) 2000000
      s.raised = [] ∧ s.station.state ≠ .loading ∧ s.failover.current = some (.walk (.port 0) 2000000) ∧
      s.live 300 = some (sentOnce 2 ph)) ∧
    (let s := at_ (sentOnce 2 lateSent) (.cell 12 0) 2000000;
      s.outstanding 0 = [] ++ 300 :: [] ∧ (∀ j ∈ s.outstanding 0, s.slotPort j = some 0) ∧
      (LossScope.cell 12 0).covers 12 = true ∧ isBefore 1799000 2000000 = true ∧ (sentOnce 2 lateSent).phase = .sent 0 1999000 1799000) ∧
    (opened (sentOnce 2 lateSent)).NoDrain 300 ∧
    -- a pair left unplaced, where the free value decides (log 24)
    ((opened (sentOnce 2 lateSent)).placePair 7001 12 none).pairPort 7001 12 = none ∧
    -- an exchange that entered the port at the horizon does not qualify
    isBefore 1799000 1799000 = false ∧ (LossScope.port 0).covers 12 = true :=
  ⟨by decide +kernel, by decide +kernel, by unfold State.NoDrain; decide +kernel, by decide +kernel, by decide, rfl⟩

theorem witness_EntriesAreHandledOneByOne :
    let at_ := fun (s : State) (rest : List EntryRef) =>
      s.setFailover ⟨[], some (.entries (.port 2) 2000000 (⟨place, 7001, 12⟩ :: rest))⟩
    let lost := fun n => fabric.setEntryAt place (some ⟨7001, 12, some 2, n, false, none⟩)
    (∀ s rest, (at_ s rest).failover.current = some (.entries (.port 2) 2000000 (⟨place, 7001, 12⟩ :: rest))) ∧
    (fabric.raised = [] ∧ fabric.station.state ≠ .loading ∧ fabric.entryAt place = none) ∧
    (∀ n : Fin 2, (lost n.val).entryAt place = some ⟨7001, 12, some 2, n.val, false, none⟩ ∧ ((lost n.val).port 2).state ≠ .up) ∧
    (let s := fabric.setCell 12 0 { good with state := .lost };
      (s.port 0).state = .up ∧ 12 ∈ allTargets ∧ (s.cell 12 0).state = .lost ∧ (s.setOutstanding 0 [300]).failover.work = []) ∧
    ((opened (sentOnce 1 lateSent)).setCell 12 0 { good with state := .lost }).carries 12 0 = true :=
  ⟨fun _ _ => rfl, by decide +kernel, by decide +kernel, by decide +kernel, by decide +kernel⟩

theorem witness_PlacementItemsPlaceAndReturn :
    let pairs := fun (s : State) => s.setFailover ⟨[], some (.pairs 12 [⟨place, 7001, 12⟩])⟩
    let unplaced := fun (s : State) => s.setEntryAt place (some ⟨7001, 12, none, 1, false, none⟩)
    (∀ s, (pairs s).failover.current = some (.pairs 12 (⟨place, 7001, 12⟩ :: []))) ∧
    (fabric.raised = [] ∧ fabric.station.state ≠ .loading ∧ fabric.entryAt place = none) ∧
    ((unplaced fabric).entryAt place = some ⟨7001, 12, none, 1, false, none⟩ ∧ ((unplaced fabric).selectFor 7001 12).isSome = true ∧
      (unplaced live).selectFor 7001 12 = none) ∧
    (∀ action, (opened (sentOnce 2 (.held action 2500000))).live 300 = some (sentOnce 2 (.held action 2500000)) ∧
      ((opened (sentOnce 2 (.held action 2500000))).record 300).generation = 5) ∧
    ((opened (sentOnce 2 (.held .trace 2500000))).pairPort 7001 12).isSome = true ∧
    (opened (sentOnce 2 (.held .trace 2500000))).traceChoice 12 none = some 1 :=
  ⟨fun _ => rfl, by decide +kernel, by decide +kernel, fun _ => ⟨rfl, rfl⟩, by decide +kernel, by decide +kernel⟩

/-- A frame of this station is on the row bus. -/
def onRow (f : RowFrame) (due : Bool) : State :=
  live.setRow { live.row with phase := .sending f, pending := .sighting, dueAtEnd := due }

theorem witness_RowFramesAreSent :
    (∀ pending, let s := live.setRow { live.row with pending := pending }
      s.raised = [] ∧ s.station.state ≠ .loading ∧ s.row.phase = .waiting ∧ s.row.lineFault = .normal ∧ s.row.receiving = false ∧
      s.row.pending = pending) ∧
    (live.row.pending = .none) ∧
    (∀ f due, (onRow f due).row.phase = .sending f ∧ (onRow f due).row.dueAtEnd = due ∧ (onRow f due).row.withdrawn = false) :=
  ⟨fun _ => ⟨rfl, up, rfl, rfl, rfl, rfl⟩, rfl, fun _ _ => ⟨rfl, rfl, rfl⟩⟩

theorem witness_RowFramesAreReceived :
    live.raised = [] ∧ live.station.state ≠ .loading ∧ (∀ f, live.row.phase ≠ .sending f) ∧
    sightingWf .active [⟨15, 4, 4, 512⟩] = true ∧ sightingWf .loading [] = false ∧ live.station.id = 3 ∧ (7 : StationId) ≠ live.station.id :=
  ⟨rfl, by decide, waits, by decide, by decide, rfl, by decide⟩

theorem witness_RowTimersAndFaults :
    live.raised = [] ∧ (live.station.state ≠ .loading ∧ live.row.lineFault = .normal ∧ ∀ f, live.row.phase ≠ .sending f) ∧
    (∀ f, (onRow f false).row.lineFault = .normal ∧ (onRow f false).row.dueAtEnd = false ∧ (onRow f false).row.phase = .sending f) ∧
    (let r := { live.row with lineFault := LineFault.heldLow, phase := .driveRetry, retryAt := some 2000000, periodicDue := some 2000000, changeWanted := true };
      r.lineFault = .heldLow ∧ r.phase = .driveRetry ∧ expired live.timeBase r.retryAt = true ∧ expired live.timeBase r.periodicDue = true ∧
      r.changeWanted = true ∧ r.changeEarliest = none) ∧
    expired live.timeBase (some 2000001) = false ∧ reached live.timeBase 2000001 = false :=
  ⟨rfl, ⟨by decide, rfl, waits⟩, fun _ => ⟨rfl, rfl, rfl⟩, by decide, by decide, by decide⟩

/-- Station 7's entry lists switch 5, and is as old as given at 2 s. -/
def peered (time : Time) : State := live.setPeer 7 (some ⟨.active, time, [⟨5, 1, 1, 40⟩]⟩)

/-- Switch 5 is judged FAILING, with both its timers at their end. -/
def failing : State := fabric.setVerdict 5 ⟨.failing, 3, 0, 40, 2, some 2000000, some 2000000, false⟩

theorem witness_PeerEntriesAgeAndVerdictTimersAct :
    live.raised = [] ∧ live.peer 7 = none ∧
    (∀ time, (peered time).peer 7 = some ⟨.active, time, [⟨5, 1, 1, 40⟩]⟩) ∧
    -- fresh at 300 ms, stale 1 µs later, not past expiry before 5 s (the defaults), past it with a period of 20 ms
    ¬ staleLimit live.config * sightingPeriod live.config * 1000 < (elapsed live.timeBase 1700000).toNat ∧
    staleLimit live.config * sightingPeriod live.config * 1000 < (elapsed live.timeBase 1699999).toNat ∧
    ¬ expiryLimit live.config * sightingPeriod live.config * 1000 < (elapsed live.timeBase 0).toNat ∧
    expiryLimit live.config * sightingPeriod live.config * 1000 < (elapsed 5000001 0).toNat ∧
    (failing.raised = [] ∧ 5 ∈ allSwitches ∧ expired failing.timeBase (failing.verdict 5).clearEnds = true ∧
      (failing.verdict 5).verdict = .failing ∧ expired failing.timeBase (failing.verdict 5).staggerEnds = true) ∧
    (expired live.timeBase (live.verdict 5).clearEnds = false ∧ (live.verdict 5).verdict ≠ .failing) :=
  ⟨rfl, rfl, fun _ => rfl, by decide +kernel, by decide +kernel, by decide +kernel, by decide +kernel, by decide +kernel, by decide +kernel⟩

theorem witness_VerdictsFollowTheFreshView : (1 ∈ allSwitches ∧ 15 ∈ allSwitches) ∧ (live.verdict 5).verdict ≠ .failing ∧
    (failing.verdict 5).verdict = .failing ∧ live.station.id.val * staggerUnit live.config ≠ 0 ∧
    State.reset.station.id.val * staggerUnit State.reset.config = 0 ∧
    -- reports while withdrawn is set, with the counts last sent and with others, and during a sighting
    ({ live.row with withdrawn := true }.withdrawn = true ∧ live.row.withdrawn = false ∧ live.countAllCables = live.row.lastCounts ∧
      fabric.countAllCables ≠ fabric.row.lastCounts ∧ sightingCounts [] ≠ fabric.countAllCables ∧
      (onRow (.sighting 3 .active []) false).row.phase = .sending (.sighting 3 .active [])) := by
  decide +kernel

theorem witness_FabricFramesAreReadBack : (FabricFrame.answer tag300 1 (List.replicate 512 0)).wf = true ∧
    (FabricFrame.echo 63 0).wf = true := by decide +kernel

theorem witness_RowAndHostFramesAreReadBack :
    (RowFrame.sighting 31 .withdrawn [⟨1, 4, 4, 512⟩, ⟨15, 1, 0, 0⟩]).wf = true ∧ (HostFrame.booking booking).wf = true ∧
    (live.station.state ≠ .loading ∧
      (live.setRow { live.row with pending := .withdraw }).composeFrame = some (.withdraw 3)) ∧
    readRowFrame [] = none ∧ ([] : List Bool) ≠ bitsOf 16 (crcBits []).toNat ∧
    -- kinds 00 and 11, state 11 and count 101 of a sighting, and fill 1 of a WITHDRAW
    (let kind := fun (l : List Bool) => bitsVal ((l.drop 5).take 2);
      kind (bitsOf 8 0) = 0 ∧ kind (bitsOf 8 6) = 3 ∧ (kind (bitsOf 12 0x038) = 1 ∧ bitsVal (((bitsOf 12 0x038).drop 7).take 2) = 3) ∧
      (kind (bitsOf 12 0x025) = 1 ∧ 5 ≤ bitsVal (((bitsOf 12 0x025).drop 9).take 3)) ∧ kind (bitsOf 8 5) = 2 ∧ (bitsOf 8 5).drop 7 ≠ [false]) := by
  decide +kernel

/-! ### A state that meets every invariant -/

/-- Every slot but 300. -/
def others : List Slot := (List.finRange 512).filter (· != 300)

/-- A SINGLE-SHOT exchange of the pair is SENT on P0, whose switch 5 is judged FAILING with its stagger expired. -/
def running : State :=
  { fabric with
    ex := {
      slots := (Vector.replicate 512 ⟨0, none⟩).set 300 ⟨5, some (sentOnce 2 lateSent)⟩
      free := others
      order := [300]
      outstanding := #v[[300], [], [], []]
      ready := #v[[], [], [], []]
      results := [] }
    cache := (Vector.replicate 64 CacheSet.empty).set 21 ⟨#v[some ⟨7001, 12, some 0, 1, false, none⟩, none, none, none], true, true, false⟩
    view := { fabric.view with
      own := fabric.countAllCables
      verdicts := fabric.view.verdicts.set 4 ⟨.failing, 1, 1, 0, 0, none, none, true⟩ } }

theorem running_live (i : Slot) : running.live i = if i = 300 then some (sentOnce 2 lateSent) else none := by
  by_cases h : i = 300
  · subst h; simp [running, State.live, State.record]
  · have h' : ¬ 300 = i.val := fun e => h (Fin.ext e.symm)
    simp [running, State.live, State.record, h, h']

theorem running_entry : ∀ pl ∈ allPlaces, running.entryAt pl =
    if pl = place then some ⟨7001, 12, some 0, 1, false, none⟩ else none := by decide +kernel

theorem running_open {i : Slot} {e : Exchange} (h : running.live i = some e) : i = 300 ∧ e = sentOnce 2 lateSent := by
  rw [running_live] at h
  split at h
  · exact ⟨‹_›, (Option.some.inj h).symm⟩
  · cases h

theorem running_valid {pl : Place} {e : Entry} (hp : pl ∈ allPlaces) (h : running.entryAt pl = some e) :
    pl = place ∧ e = ⟨7001, 12, some 0, 1, false, none⟩ := by
  rw [running_entry pl hp] at h
  split at h
  · exact ⟨‹_›, (Option.some.inj h).symm⟩
  · cases h

theorem running_ports : ∀ p : PortId, (running.port p).Sound := by
  have h : ∀ p : PortId, (let x := running.port p
      x.credits ≤ 64 ∧ (x.state.linked = false → x.credits = 0) ∧ x.identity.all isSwitch = true ∧
      (x.state.linked = true → x.identity.isSome = true) ∧ x.history.length ≤ 7 ∧ (x.retryBar = true → x.state = .down) ∧
      x.trainingEnds.isSome = (x.state == .training) ∧ x.silenceEnds.isSome = x.state.linked ∧
      x.holdEnds.isSome = (x.state == .reset) ∧ (x.state.linked = false → x.pendingProbes = []) ∧
      (x.state.linked = false → x.pendingTraces = [])) := by decide +kernel
  exact fun p => let ⟨a, b, c, d, e, f, g, i, j, k, l⟩ := h p; ⟨a, b, c, d, e, f, g, i, j, k, l⟩

theorem running_cells : ∀ t ∈ allTargets, ∀ p : PortId, (running.cell t p).Sound (missLimit running.config) := by
  have h : ∀ t ∈ allTargets, ∀ p : PortId, (let x := running.cell t p
      x.step ≤ 3 ∧ x.quiet ≤ 7 ∧ x.misses ≤ missLimit running.config ∧ (x.inFlight.isSome = true → x.pending = false)) := by
    decide +kernel
  exact fun t ht p => let ⟨a, b, c, d⟩ := h t ht p; ⟨a, b, c, d⟩

theorem running_phase (i : Slot) : running.phase i = if i = 300 then some lateSent else none := by
  rw [State.phase, running_live]
  split <;> rfl

theorem running_outstanding : ∀ p : PortId, running.outstanding p = if p = 0 then [300] else [] := by decide +kernel

theorem running_ready : ∀ p : PortId, running.ready p = [] := by decide +kernel

theorem running_traces : ∀ p : PortId, (running.port p).pendingTraces = [] := by decide +kernel

theorem running_sendable (i : Slot) : running.sendable i = none := by
  by_cases h : i = 300
  · subst h; decide +kernel
  · simp [State.sendable, running_live, h]

theorem running_ex_free : running.ex.free = others := by simp only [running]

theorem running_free (i : Slot) : i ∈ running.ex.free ↔ running.live i = none := by
  rw [running_live, running_ex_free]
  by_cases h : i = 300 <;> simp [others, h]

theorem running_freeOnce : running.ex.free.Nodup := by
  rw [running_ex_free]
  exact (List.nodup_finRange 512).filter _

theorem running_order (i : Slot) : i ∈ running.ex.order ↔ running.slotOpen i = true := by
  show i ∈ [300] ↔ _
  by_cases h : i = 300 <;> simp [State.slotOpen, running_phase, h, lateSent, Phase.isOpen]

theorem running_results (i : Slot) : i ∈ running.ex.results ↔ running.slotAnswered i = true := by
  show i ∈ [] ↔ _
  by_cases h : i = 300 <;> simp [State.slotAnswered, running_phase, h, lateSent, Phase.isOpen]

theorem running_table : running.TableAgrees where
  free := running_free
  order := running_order
  results := running_results
  outstanding i p := by
    rw [running_outstanding]
    by_cases h : i = 300 <;> by_cases hp : p = 0 <;>
      simp [State.slotPort, running_phase, h, hp, lateSent, Phase.port, eq_comm (a := (0 : PortId))]
  ready i p := by simp [running_ready, running_sendable]
  traces i p h := by simp [running_traces] at h
  freeOnce := running_freeOnce
  orderOnce := List.nodup_singleton 300
  resultsOnce := List.nodup_nil
  outstandingOnce p := by rw [running_outstanding]; split <;> simp
  readyOnce p := by simp [running_ready]
  tracesOnce p := by simp [running_traces]

theorem running_count : (running.openOf 7001 12).length = 1 := by
  have h : ∀ i : Slot, (running.slotOpen i && (running.live i).any (·.ofPair 7001 12)) = (i == 300) := fun i => by
    rw [State.slotOpen, running_phase, running_live]
    by_cases h : i = 300
    · subst h; decide
    · simp [h]
  simp only [State.openOf, h]
  decide +kernel

theorem running_cache : running.CacheAgrees where
  placed pl hp e h := by
    obtain ⟨rfl, rfl⟩ := running_valid hp h
    decide
  unique pl hp pl' hp' e e' h h' _ := (running_valid hp h).1.trans (running_valid hp' h').1.symm
  counted pl hp e h := by
    obtain ⟨rfl, rfl⟩ := running_valid hp h
    exact running_count.symm
  covered i e h _ := by
    obtain ⟨rfl, rfl⟩ := running_open h
    decide +kernel
  waiting i e h action hw := by
    obtain ⟨rfl, rfl⟩ := running_open h
    cases hw

theorem running_exchanges : running.ExchangesSound := fun i e h => by
  obtain ⟨rfl, rfl⟩ := running_open h
  exact {
    attempt := by decide, everSent := by decide, payload := by decide, request := by decide
    traces := fun _ => Nat.zero_le _, sent := fun _ _ _ _ => rfl, tracing := nofun
    firstSend := fun _ h => h.elim nofun nofun, resend := fun _ h => h.elim nofun nofun, heldTrace := nofun, waitingTrace := nofun }

theorem running_verdicts : running.VerdictsSound := by
  have h : ∀ v ∈ running.view.verdicts.toList, (v.verdict = .sound → v.d = 0) ∧
      (v.clearEnds.isSome = true → v.verdict = .failing ∧ v.d = 0) ∧ (v.staggerEnds.isSome = true → v.verdict = .failing) ∧
      (v.staggerExpired = true → v.verdict = .failing ∧ v.staggerEnds = none) ∧ v.d ≤ v.c ∧ (v.verdict = .suspect → 1 ≤ v.d) ∧
      (v.verdict = .failing → v.staggerEnds.isSome = true ∨ v.staggerExpired = true) ∧ v.n ≤ 31 ∧ v.l ≤ 512 * v.n := by
    decide +kernel
  exact fun v hv => let ⟨a, b, c, d, e, f, g, i, j⟩ := h v hv; ⟨a, b, c, d, e, f, g, i, j⟩

theorem running_peers : running.PeersSound := by
  have h : ∀ i : StationId, running.peer i = none := by decide +kernel
  exact ⟨h _, fun i e he => by rw [h i] at he; cases he⟩

theorem running_link : running.LinkBounded := by
  have h : running.link = HostLink.afterReset := rfl
  constructor <;> first | rfl | (rw [h]; decide +kernel)

theorem running_cell : ∀ t ∈ allTargets, ∀ p : PortId,
    running.cell t p = if t = 12 ∧ p.val < 2 then good else Cell.afterReset := by decide +kernel

theorem running_probes : ∀ p : PortId, (running.port p).pendingProbes = [] := by decide +kernel

theorem running_reach : ∀ p : PortId, (running.port p).reach = if p.val < 2 then [12] else [] := by decide +kernel

theorem running_listed : ∀ p : PortId, (if p.val < 2 then [12] else []) =
    allTargets.filter (fun t => (if t = 12 ∧ p.val < 2 then good else Cell.afterReset).state != .absent) := by decide +kernel

theorem running_routes : running.RoutesAgree where
  listed p := by
    rw [running_reach, running_listed]
    exact List.filter_congr (fun t h => by rw [running_cell t h])
  pending p t h := by
    rw [running_probes, running_cell t h]
    split <;> rfl
  targets p t h := by rw [running_probes] at h; cases h
  once p := by rw [running_probes]; exact List.nodup_nil
  probed p t h hp := by
    rw [running_cell t h] at hp
    split at hp <;> simp [good, Cell.afterReset] at hp

theorem running_own : running.OwnCounted := fun sw h => by
  have h' : 1 ≤ sw ∧ sw ≤ 15 := by
    have := List.mem_range'_1.mp h
    omega
  have e : sw - 1 + 1 = sw := by omega
  have hp : running.ports = fabric.ports := rfl
  have hr : running.routes = fabric.routes := rfl
  have hc : running.isCable sw = fabric.isCable sw := by
    funext p; simp only [State.isCable, State.port, hp]
  have hl : running.cableLost = fabric.cableLost := by
    funext p; simp only [State.cableLost, State.allCellsLost, State.port, State.cell, hp, hr]
  have ho : running.view.own = fabric.countAllCables := rfl
  simp only [State.ownCount, bySwitch, dif_pos h', ho, State.countAllCables, Vector.getElem_ofFn, e, State.countCables, hc, hl]

/-- The witness for every statement that takes a sound state. -/
theorem witness_Sound : running.Sound where
  link := running_link
  bounded := ⟨nofun, nofun, by unfold configInRange; decide +kernel, running_ports, running_cells⟩
  routes := running_routes
  table := running_table
  cache := running_cache
  exchanges := running_exchanges
  verdicts := running_verdicts
  peers := running_peers
  own := running_own
  work := ⟨List.nodup_nil, fun _ => Nat.zero_le _, nofun, nofun, nofun⟩
  row := ⟨by decide, nofun, rfl, nofun, nofun⟩
  station := ⟨fun _ => rfl, fun _ => rfl, by decide, nofun, rfl, rfl⟩

/-- For the five statements that every step keeps an invariant. -/
theorem witness_step_of_Sound : running.Sound ∧ ∃ t, step running = .next t := ⟨witness_Sound, running.tick, rfl⟩

theorem witness_PathCostsAreBounded : running.Sound ∧ (running.portVerdict 0).applied = .failing ∧
    (running.portVerdict 1).applied ≠ .failing ∧
    (running.outstanding 1 = [] ∧ running.boundPairs 1 none = 0 ∧ (running.portVerdict 1).l = 0 ∧ (running.cell 12 1).step = 0 ∧
      (running.portVerdict 1).applied = .sound) := ⟨witness_Sound, by decide +kernel⟩

/-- Every clause has a case: switch 5, FAILING, is passed over for P1, a trace choice may exclude either port, and target 13 has no
eligible port. -/
theorem witness_SelectionsNameTheCheapest : running.selectFor 9 12 = some 1 ∧ running.traceChoice 12 none = some 1 ∧
    running.traceChoice 12 (some 1) = some 0 ∧ running.traceChoice 12 (some 0) = some 1 ∧
    running.selectFor 9 13 = none ∧ running.traceChoice 13 none = none := by decide +kernel

theorem witness_WorkListIsBounded : running.WorkSound := witness_Sound.work

end Sys2Proof.Tests
end

