-- ==== Sys2Proof/Proofs/AffinityCache.lean ====
section
/-! PROOF. The affinity cache (chapter 2): how a control request at the ingress head is taken (R157), what FLUSH leaves in each set,
and the statement about FLUSH (R41). -/

namespace Sys2Proof.Machine

open Sys2Proof

/-! ### A control request at the ingress head (R157) -/

/-- The head that the Admission Unit can take is the request the statements speak of. -/
theorem State.RequestAtHead.controlHead_eq {s : State} {code : Byte} {args : List Byte} {rest : List HostFrame}
    (h : s.RequestAtHead code args rest) : s.controlHead = some (code, args) := by
  have hfree : s.headFree = true := by simp [State.headFree, State.linkUp, h.up, h.free]
  have hroom : s.link.replies.length < Config.replyLimit := h.room
  simp [State.controlHead, hfree, hroom, h.head]

theorem State.popIngress_link {s : State} {f : HostFrame} {rest : List HostFrame} (h : s.link.ingress = f :: rest) :
    s.popIngress.link = s.poppedLink rest := by
  simp [State.popIngress, State.setLink, freeCredit, State.poppedLink, h, Config.ingressLimit]

@[simp] theorem State.pushReply_link (s : State) (r : Reply) :
    (s.pushReply r).link = { s.link with replies := s.link.replies ++ [r] } := rfl

/-- A request that stands at the head with readable arguments is carried out by its owner, and its one reply is queued. -/
theorem State.RequestAtHead.onRequest_eq {s : State} {code : Byte} {args : List Byte} {rest : List HostFrame}
    (h : s.RequestAtHead code args rest) {α : Type} {read : List Byte → Option α} {x : α} (hread : read args = some x)
    (owner : α → State → Answered) :
    s.onRequest code read owner =
      .next ((owner x s.popIngress).state.pushReply ⟨code, (owner x s.popIngress).status, (owner x s.popIngress).body⟩) := by
  simp [State.onRequest, State.takeControl, h.controlHead_eq, hread]

/-- An owner that leaves the host link alone answers on the link whose head has been taken. -/
theorem State.RequestAtHead.link_answered {s u : State} {code : Byte} {args : List Byte} {rest : List HostFrame}
    (h : s.RequestAtHead code args rest) (hu : u.link = s.popIngress.link) (r : Reply) :
    (u.pushReply r).link = s.answeredLink rest r := by
  rw [State.pushReply_link, hu, State.popIngress_link h.head]
  rfl

/-! ### Entries and places -/

theorem State.cacheSet_congr {s t : State} (h : t.cache = s.cache) : t.cacheSet = s.cacheSet := by
  funext i
  simp only [State.cacheSet, h]

theorem State.entryAt_congr {s t : State} (h : t.cache = s.cache) : t.entryAt = s.entryAt := by
  funext pl
  simp only [State.entryAt, State.cacheSet_congr h]

theorem Entry.isIdle_eq_true (e : Entry) : e.isIdle = true ↔ e.count = 0 := by simp [Entry.isIdle]

theorem length_allPlaces : allPlaces.length = 256 := by simp [allPlaces, allWays]

theorem State.length_placesWith_le (s : State) (test : Entry → Bool) : (s.placesWith test).length ≤ 256 :=
  length_allPlaces ▸ List.length_filter_le _ _

/-! ### Every idle entry is invalidated (R41) -/

@[simp] theorem State.flushIdle_link (s : State) : s.flushIdle.link = s.link := rfl

/-- A set whose idle entries are invalidated; its pointers stand. -/
theorem State.cacheSet_flushIdle (s : State) (i : Fin 64) :
    s.flushIdle.cacheSet i =
      { s.cacheSet i with ways := (s.cacheSet i).ways.map (fun e => if e.any (·.isIdle) then none else e) } := by
  simp [State.cacheSet, State.flushIdle]

theorem State.entryAt_flushIdle (s : State) (pl : Place) :
    s.flushIdle.entryAt pl = if (s.entryAt pl).any (·.isIdle) then none else s.entryAt pl := by
  rw [State.entryAt, State.cacheSet_flushIdle]
  exact Vector.getElem_map _ pl.way.isLt

theorem State.entryAt_flushIdle_of_none {s : State} {pl : Place} (h : s.entryAt pl = none) : s.flushIdle.entryAt pl = none := by
  simp [State.entryAt_flushIdle, h]

theorem State.entryAt_flushIdle_of_some {s : State} {pl : Place} {e : Entry} (h : s.entryAt pl = some e) :
    s.flushIdle.entryAt pl = if e.count = 0 then none else some e := by
  simp [State.entryAt_flushIdle, h, Entry.isIdle_eq_true]

/-- What is valid after a flush is what was pinned before it. -/
theorem State.placesWith_flushIdle (s : State) :
    s.flushIdle.placesWith (fun _ => true) = s.placesWith (fun e => decide (0 < e.count)) := by
  refine List.filter_congr fun pl _ => ?_
  cases h : s.entryAt pl with
  | none => simp [State.entryAt_flushIdle_of_none h]
  | some e =>
    rw [State.entryAt_flushIdle_of_some h]
    by_cases hidle : e.count = 0
    · simp [hidle]
    · simp [hidle, Nat.pos_of_ne_zero hidle]

/-- FLUSH at the head: the entries of the state are flushed, and the reply gives the number of those that were pinned. -/
theorem State.RequestAtHead.execFlush_eq {s : State} {rest : List HostFrame} (h : s.RequestAtHead codes.flush [] rest) :
    execFlush s = .next (s.popIngress.flushIdle.pushReply
      ⟨codes.flush, .done, .flushed (s.placesWith (fun e => decide (0 < e.count))).length⟩) := by
  have hsame : s.popIngress.placesWith = s.placesWith := by
    funext test
    simp only [State.placesWith, State.entryAt_congr s.popIngress_cache]
  rw [execFlush, h.onRequest_eq (x := ()) rfl, ← hsame, ← State.placesWith_flushIdle]
  rfl

/-- Settles O22: the next state has the cache of `flushIdle` and the link of the answered request, so each clause is one of the
facts about those two. -/
theorem flushKeepsPinnedEntries : Obligations.FlushKeepsPinnedEntries := by
  intro s rest h
  have hentry : s.popIngress.entryAt = s.entryAt := State.entryAt_congr s.popIngress_cache
  have hset : s.popIngress.cacheSet = s.cacheSet := State.cacheSet_congr s.popIngress_cache
  refine ⟨_, h.execFlush_eq, h.link_answered (State.flushIdle_link _) _, s.length_placesWith_le _, ?_, ?_, ?_⟩
  · intro pl e he
    rw [State.entryAt_congr (State.pushReply_cache _ _)]
    exact State.entryAt_flushIdle_of_some (hentry ▸ he)
  · intro pl he
    rw [State.entryAt_congr (State.pushReply_cache _ _)]
    exact State.entryAt_flushIdle_of_none (hentry ▸ he)
  · intro i
    simp [State.cacheSet_congr (State.pushReply_cache _ _), State.cacheSet_flushIdle, hset]

end Sys2Proof.Machine
end

