-- ==== Sys2Proof/Proofs/PathSelection.lean ====
section
/-! PROOF. The Path Selector (chapter 3): the cheapest port of a list (R52), the candidates (R47), the bounds of each term of the cost
(R51), and the statements about selections and costs. -/

namespace Sys2Proof.Machine

open Sys2Proof

/-! ### The cheapest port of a list (R52) -/

/-- Of the ports with property `cand`, p is the one of least cost, with the lowest number among equals (R52). -/
def BestOf (cost : PortId → Nat) (cand : PortId → Prop) (p : PortId) : Prop :=
  cand p ∧ ∀ q, cand q → cost p < cost q ∨ (cost p = cost q ∧ p ≤ q)

theorem bestOf_congr {cost : PortId → Nat} {A B : PortId → Prop} (h : ∀ q, A q ↔ B q) (p : PortId) :
    BestOf cost A p ↔ BestOf cost B p := by
  simp only [BestOf, h]

/-- Leaving out ports that each cost more than some port kept does not change which port is best. -/
theorem bestOf_iff_of_dearer {cost : PortId → Nat} {A B : PortId → Prop} (hsub : ∀ q, A q → B q)
    (hdear : ∀ q, B q → ¬ A q → (∃ r, A r) ∧ ∀ r, A r → cost r < cost q) (p : PortId) :
    BestOf cost A p ↔ BestOf cost B p := by
  constructor
  · rintro ⟨hp, hbest⟩
    refine ⟨hsub p hp, fun q hq => ?_⟩
    by_cases hqA : A q
    · exact hbest q hqA
    · exact .inl ((hdear q hq hqA).2 p hp)
  · rintro ⟨hp, hbest⟩
    refine ⟨?_, fun q hq => hbest q (hsub q hq)⟩
    by_contra hpA
    obtain ⟨⟨r, hr⟩, hless⟩ := hdear p hp hpA
    have := hbest r (hsub r hr)
    have := hless r hr
    omega

/-- There is one best port: of two, each would cost no more than the other and have no higher number. -/
theorem bestOf_unique {cost : PortId → Nat} {cand : PortId → Prop} {p q : PortId} (hp : BestOf cost cand p)
    (hq : BestOf cost cand q) : p = q := by
  obtain ⟨hcp, hpbest⟩ := hp
  obtain ⟨hcq, hqbest⟩ := hq
  rcases hpbest q hcq with hlt | ⟨heq, hpq⟩
  · have := hqbest p hcp
    omega
  · rcases hqbest p hcp with hlt | ⟨-, hqp⟩
    · omega
    · exact le_antisymm hpq hqp

theorem cheapest_eq_none_iff {cost : PortId → Nat} (l : List PortId) : cheapest cost l = none ↔ l = [] := by
  cases l with
  | nil => simp [cheapest]
  | cons p rest =>
    rw [cheapest]
    split
    · simp
    · split <;> simp

/-- What `cheapest` finds in a list in port order is the best port of the list: a later port replaces the head only where it costs
less. -/
theorem bestOf_of_cheapest {cost : PortId → Nat} {l : List PortId} (hl : l.Pairwise (· < ·)) {p : PortId}
    (h : cheapest cost l = some p) : BestOf cost (· ∈ l) p := by
  induction l generalizing p with
  | nil => exact nomatch h
  | cons a rest ih =>
    obtain ⟨hfirst, hrest⟩ := List.pairwise_cons.1 hl
    rw [cheapest] at h
    split at h
    next hnone =>
      obtain rfl := (cheapest_eq_none_iff rest).1 hnone
      obtain rfl := Option.some.inj h
      exact ⟨List.mem_singleton_self a, fun q hq => .inr (List.mem_singleton.1 hq ▸ ⟨rfl, le_rfl⟩)⟩
    next b hsome =>
      obtain ⟨hb, hbest⟩ := ih hrest hsome
      split at h
      next hless =>
        obtain rfl := Option.some.inj h
        exact ⟨.tail a hb, List.forall_mem_cons.2 ⟨.inl hless, hbest⟩⟩
      next hnotless =>
        obtain rfl := Option.some.inj h
        refine ⟨.head rest, List.forall_mem_cons.2 ⟨.inr ⟨rfl, le_rfl⟩, fun q hq => ?_⟩⟩
        have hle : cost a ≤ cost q := by
          have := hbest q hq
          omega
        exact hle.lt_or_eq.imp_right fun heq => ⟨heq, (hfirst q hq).le⟩

theorem cheapest_eq_some_iff {cost : PortId → Nat} {l : List PortId} (hl : l.Pairwise (· < ·)) (p : PortId) :
    cheapest cost l = some p ↔ BestOf cost (· ∈ l) p := by
  refine ⟨bestOf_of_cheapest hl, fun hp => ?_⟩
  cases h : cheapest cost l with
  | none => exact absurd hp.1 ((cheapest_eq_none_iff l).1 h ▸ List.not_mem_nil)
  | some q => rw [bestOf_unique (bestOf_of_cheapest hl h) hp]

theorem pairwise_allPorts : allPorts.Pairwise (· < ·) := by decide

@[simp] theorem mem_allPorts (p : PortId) : p ∈ allPorts := by revert p; decide

/-! ### Eligible ports and candidates (R45, R47) -/

theorem State.eligible_iff (s : State) (t : Nat) (p : PortId) :
    s.eligible t p = true ↔ (s.port p).state = .up ∧ (s.cell t p).state = .good := by
  simp [State.eligible]

/-- Among the ports with property `among`, p is a candidate for the target: it is eligible, and on a FAILING switch only where every
eligible port is (R47). -/
def State.IsCandidate (s : State) (t : Nat) (among : PortId → Prop) (p : PortId) : Prop :=
  among p ∧ s.eligible t p = true ∧
    ((s.portVerdict p).applied = .failing → ∀ r, among r → s.eligible t r = true → (s.portVerdict r).applied = .failing)

theorem State.candidates_sublist (s : State) (t : Nat) (among : List PortId) :
    (s.candidates t among).Sublist among := by
  rw [State.candidates]
  split
  · exact List.filter_sublist
  · exact List.filter_sublist.trans List.filter_sublist

theorem State.mem_candidates_iff (s : State) (t : Nat) (among : List PortId) (p : PortId) :
    p ∈ s.candidates t among ↔ s.IsCandidate t (· ∈ among) p := by
  rw [State.candidates, State.IsCandidate]
  split
  next hnone =>
    have hfailing : ∀ r ∈ among, s.eligible t r = true → (s.portVerdict r).applied = .failing := by
      simp only [List.isEmpty_iff, List.filter_eq_nil_iff, List.mem_filter, bne_iff_ne, not_not] at hnone
      exact fun r hr her => hnone r ⟨hr, her⟩
    rw [List.mem_filter]
    exact ⟨fun ⟨hp, he⟩ => ⟨hp, he, fun _ => hfailing⟩, fun ⟨hp, he, _⟩ => ⟨hp, he⟩⟩
  next hsome =>
    obtain ⟨r, hr, her, hsound⟩ : ∃ r ∈ among, s.eligible t r = true ∧ (s.portVerdict r).applied ≠ .failing := by
      simpa [and_comm] using hsome
    simp only [List.mem_filter, bne_iff_ne]
    exact ⟨fun ⟨⟨hp, he⟩, hv⟩ => ⟨hp, he, fun hf => absurd hf hv⟩,
      fun ⟨hp, he, hv⟩ => ⟨⟨hp, he⟩, fun hf => hsound (hv hf r hr her)⟩⟩

/-- Where some port is eligible, there is a candidate. -/
theorem State.candidates_eq_nil_iff (s : State) (t : Nat) (among : List PortId) :
    s.candidates t among = [] ↔ ∀ p ∈ among, ¬ s.eligible t p = true := by
  rw [← List.filter_eq_nil_iff, State.candidates]
  split
  · rfl
  next hsome =>
    have hsound := mt List.isEmpty_iff.2 hsome
    exact iff_of_false hsound fun hnil => hsound (by rw [hnil, List.filter_nil])

/-! ### The port named (R52, R53) -/

/-- The cheapest candidate among a list of ports in port order, whose members are the ports with property `A`. -/
theorem State.cheapest_candidates_eq_some_iff (s : State) (t : Nat) (cost : PortId → Nat) {among : List PortId} {A : PortId → Prop}
    (hsorted : among.Pairwise (· < ·)) (hA : ∀ q, q ∈ among ↔ A q) (p : PortId) :
    cheapest cost (s.candidates t among) = some p ↔ BestOf cost (s.IsCandidate t A) p := by
  rw [cheapest_eq_some_iff (hsorted.sublist (s.candidates_sublist t among))]
  refine bestOf_congr (fun q => ?_) p
  simp only [State.mem_candidates_iff, State.IsCandidate, hA]

theorem State.cheapest_candidates_eq_none_iff (s : State) (t : Nat) (cost : PortId → Nat) (among : List PortId) :
    cheapest cost (s.candidates t among) = none ↔ ∀ p ∈ among, ¬ s.eligible t p = true :=
  (cheapest_eq_none_iff _).trans (s.candidates_eq_nil_iff t among)

/-- A choice among all ports names the best candidate. -/
theorem State.cheapest_allPorts_eq_some_iff (s : State) (t : Nat) (cost : PortId → Nat) (p : PortId) :
    cheapest cost (s.candidates t allPorts) = some p ↔ BestOf cost (s.IsCandidate t fun _ => True) p :=
  s.cheapest_candidates_eq_some_iff t cost pairwise_allPorts (fun q => iff_true_intro (mem_allPorts q)) p

theorem State.cheapest_allPorts_eq_none_iff (s : State) (t : Nat) (cost : PortId → Nat) :
    cheapest cost (s.candidates t allPorts) = none ↔ ∀ p, ¬ s.eligible t p = true := by
  simp [State.cheapest_candidates_eq_none_iff]

theorem mem_allPorts_filter_ne (x q : PortId) : q ∈ allPorts.filter (· != x) ↔ q ≠ x := by simp

theorem State.cheapest_others_eq_none_iff (s : State) (t : Nat) (cost : PortId → Nat) (x : PortId) :
    cheapest cost (s.candidates t (allPorts.filter (· != x))) = none ↔ ∀ q, q ≠ x → ¬ s.eligible t q = true := by
  simp only [State.cheapest_candidates_eq_none_iff, mem_allPorts_filter_ne]

/-- With port x excluded, x itself comes after the best of the others (R53). -/
theorem State.traceChoice_excluding (s : State) (t : Nat) (x : PortId) :
    s.traceChoice t (some x) = (cheapest (s.cost t none) (s.candidates t (allPorts.filter (· != x)))).or
      (if s.eligible t x = true then some x else none) := by
  rw [State.traceChoice]
  split
  next q hq => rw [hq, Option.some_or]
  next hnone => rw [hnone, Option.none_or]

theorem State.traceChoice_excluding_eq_some_iff (s : State) (t : Nat) (x p : PortId) :
    s.traceChoice t (some x) = some p ↔ BestOf (s.cost t none) (s.IsCandidate t (· ≠ x)) p ∨
      ((∀ q, q ≠ x → ¬ s.eligible t q = true) ∧ s.eligible t x = true ∧ p = x) := by
  rw [State.traceChoice_excluding, Option.or_eq_some_iff, State.cheapest_others_eq_none_iff,
    s.cheapest_candidates_eq_some_iff t (s.cost t none) (pairwise_allPorts.filter _) (mem_allPorts_filter_ne x),
    Option.ite_none_right_eq_some, Option.some.injEq, eq_comm (a := x)]

theorem State.traceChoice_excluding_eq_none_iff (s : State) (t : Nat) (x : PortId) :
    s.traceChoice t (some x) = none ↔ ∀ p, ¬ s.eligible t p = true := by
  rw [State.traceChoice_excluding, Option.or_eq_none_iff, State.cheapest_others_eq_none_iff, ite_eq_right_iff]
  constructor
  · rintro ⟨hothers, hx⟩ p
    by_cases hpx : p = x
    · exact hpx ▸ fun he => nomatch hx he
    · exact hothers p hpx
  · exact fun hall => ⟨fun q _ => hall q, fun he => absurd he (hall x)⟩

theorem State.traceChoice_eq_none_iff (s : State) (t : Nat) (excluded : Option PortId) :
    s.traceChoice t excluded = none ↔ ∀ p, ¬ s.eligible t p = true := by
  cases excluded with
  | none => exact s.cheapest_allPorts_eq_none_iff t _
  | some x => exact s.traceChoice_excluding_eq_none_iff t x

/-- Settles O50: each selection is the cheapest of a list of candidates, and the excluded port is added by cases. -/
theorem selectionsNameTheCheapest : Obligations.SelectionsNameTheCheapest := by
  intro s session y
  simp only [← State.eligible_iff]
  exact ⟨s.cheapest_allPorts_eq_some_iff y (s.cost y (some (session, y))),
    s.cheapest_allPorts_eq_none_iff y (s.cost y (some (session, y))),
    s.cheapest_allPorts_eq_some_iff y (s.cost y none),
    s.traceChoice_excluding_eq_some_iff y,
    s.traceChoice_eq_none_iff y⟩

/-! ### Configuration items within their ranges (R163) -/

theorem itemTable_low_le_high (i : Fin 26) : Config.itemTable[i].low ≤ Config.itemTable[i].high := by
  revert i
  decide

theorem clampTo_le_high {r : Config.ItemRange} (h : r.low ≤ r.high) (v : Nat) : clampTo r v ≤ r.high := by
  unfold clampTo
  split
  · exact h
  · split <;> omega

theorem getElem_clampRanges_le_high (v : Config.Settings) (i : Nat) (hi : i < 26) :
    (clampRanges v)[i] ≤ Config.itemTable[i].high := by
  rw [clampRanges, Vector.getElem_zipWith]
  exact clampTo_le_high (itemTable_low_le_high ⟨i, hi⟩) _

/-- Clamping keeps every item at or below its upper bound, the second step included, since it lowers an item. -/
theorem getElem_clampAll_le_high (v : Config.Settings) (i : Nat) (hi : i < 26) :
    (clampAll v)[i] ≤ Config.itemTable[i].high := by
  have hranges := getElem_clampRanges_le_high v i hi
  simp only [clampAll]
  split
  next hslow =>
    rw [Vector.getElem_set]
    split
    next h9 =>
      subst h9
      exact hslow.le.trans hranges
    · exact hranges
  · exact hranges

theorem configInRange.peerWeight_le {cfg : Config.Settings} (h : configInRange cfg) : peerWeight cfg ≤ 15 :=
  h ▸ getElem_clampAll_le_high cfg 23 (by decide)

theorem configInRange.suspectPenalty_le {cfg : Config.Settings} (h : configInRange cfg) : suspectPenalty cfg ≤ 255 :=
  h ▸ getElem_clampAll_le_high cfg 24 (by decide)

/-! ### The terms of the cost (R48 to R51) -/

theorem State.TableAgrees.length_outstanding_le {s : State} (h : s.TableAgrees) (p : PortId) : (s.outstanding p).length ≤ 512 := by
  simpa using (h.outstandingOnce p).length_le_card

theorem State.boundPairs_le (s : State) (p : PortId) (placing : Option (Word32 × Nat)) : s.boundPairs p placing ≤ 256 :=
  s.length_placesWith_le _

/-- The step of every cell is within R82, that of a number that is no target included, which reads as a cell after reset. -/
theorem State.Bounded.step_le {s : State} (h : s.Bounded) (t : Nat) (p : PortId) : (s.cell t p).step ≤ 3 := by
  by_cases ht : 1 ≤ t ∧ t ≤ 63
  · exact (h.cells t (by simp [allTargets]; omega) p).step
  · simp [State.cell, ht, Cell.afterReset]

theorem VerdictRecord.afterReset_sound : VerdictRecord.afterReset.Sound := by
  constructor <;> simp [VerdictRecord.afterReset]

theorem State.VerdictsSound.portVerdict {s : State} (h : s.VerdictsSound) (p : PortId) : (s.portVerdict p).Sound := by
  unfold State.portVerdict
  split
  · unfold State.verdict bySwitch
    split
    · exact h _ (by simp)
    · exact VerdictRecord.afterReset_sound
  · exact VerdictRecord.afterReset_sound

/-- R49: with weight at most 15 and at most 31 peers of at most 512 each, the peer-load term is at most
15 × 512 × 31 / (16 × 32) = 465. -/
theorem peerLoad_le {weight l n : Nat} (hweight : weight ≤ 15) (hn : n ≤ 31) (hl : l ≤ 512 * n) : peerLoad weight l n ≤ 465 := by
  have hproduct : weight * l ≤ 15 * (512 * n) := Nat.mul_le_mul hweight hl
  rw [peerLoad, ← Nat.lt_succ_iff, Nat.div_lt_iff_lt_mul (by omega)]
  omega

theorem penalty_failing (suspect : Nat) : penalty suspect .failing = 4096 := rfl

theorem penalty_le {suspect : Nat} (h : suspect ≤ 255) {v : Verdict} (hv : v ≠ .failing) : penalty suspect v ≤ 255 := by
  cases v with
  | sound => exact Nat.zero_le _
  | suspect => exact h
  | failing => exact absurd rfl hv

/-- The cost without its penalty is at most 2048 + 512 + 465 + 48 = 3073 (R51). -/
theorem State.Sound.cost_le {s : State} (h : s.Sound) (y : Nat) (placing : Option (Word32 × Nat)) (p : PortId) :
    s.cost y placing p ≤ 3073 + penalty (suspectPenalty s.config) (s.portVerdict p).applied := by
  have hown := h.table.length_outstanding_le p
  have hbound := s.boundPairs_le p placing
  have hverdict := h.verdicts.portVerdict p
  have hpeers := peerLoad_le h.bounded.config.peerWeight_le hverdict.peers hverdict.load
  have hstep := h.bounded.step_le y p
  unfold State.cost
  omega

theorem State.Sound.cost_le_of_not_failing {s : State} (h : s.Sound) (y : Nat) (placing : Option (Word32 × Nat)) {p : PortId}
    (hp : (s.portVerdict p).applied ≠ .failing) : s.cost y placing p ≤ 3328 := by
  have hcost := h.cost_le y placing p
  have hpenalty := penalty_le h.bounded.config.suspectPenalty_le hp
  omega

theorem State.le_cost_of_failing (s : State) (y : Nat) (placing : Option (Word32 × Nat)) {p : PortId}
    (hp : (s.portVerdict p).applied = .failing) : 4096 ≤ s.cost y placing p := by
  rw [State.cost, hp, penalty_failing]
  omega

theorem State.Sound.cost_le_max {s : State} (h : s.Sound) (y : Nat) (placing : Option (Word32 × Nat)) (p : PortId) :
    s.cost y placing p ≤ 7169 := by
  by_cases hp : (s.portVerdict p).applied = .failing
  · simpa [hp, penalty_failing] using h.cost_le y placing p
  · exact (h.cost_le_of_not_failing y placing hp).trans (by decide)

/-- The lower bound of R51 is reached. -/
theorem State.cost_eq_zero {s : State} {y : Nat} {placing : Option (Word32 × Nat)} {p : PortId} (hown : s.outstanding p = [])
    (hbound : s.boundPairs p placing = 0) (hload : (s.portVerdict p).l = 0) (hstep : (s.cell y p).step = 0)
    (hsound : (s.portVerdict p).applied = .sound) : s.cost y placing p = 0 := by
  simp [State.cost, hown, hbound, hload, hstep, hsound, peerLoad, penalty]

/-- The rule of candidacy gives the same choice as cost alone (R51): an eligible port that is no candidate is on a FAILING switch
beside one that is not, so it costs more than every candidate. -/
theorem State.Sound.selectFor_eq {s : State} (h : s.Sound) (session : Word32) (y : Nat) :
    s.selectFor session y = cheapest (s.cost y (some (session, y))) (allPorts.filter (s.eligible y)) := by
  refine Option.ext fun p => ?_
  rw [State.selectFor, s.cheapest_allPorts_eq_some_iff, cheapest_eq_some_iff (pairwise_allPorts.filter _)]
  refine bestOf_iff_of_dearer (fun q ⟨_, heq, _⟩ => List.mem_filter.2 ⟨mem_allPorts q, heq⟩) (fun q hq hnot => ?_) p
  have heq := (List.mem_filter.1 hq).2
  obtain ⟨hfailing, r, her, hr⟩ : (s.portVerdict q).applied = .failing ∧ ∃ r, s.eligible y r = true ∧
      (s.portVerdict r).applied ≠ .failing := by
    simpa [State.IsCandidate, heq] using hnot
  refine ⟨⟨r, trivial, her, fun hf => absurd hf hr⟩, fun c ⟨_, _, hc⟩ => ?_⟩
  have hcSound : (s.portVerdict c).applied ≠ .failing := fun hf => hr (hc hf r trivial her)
  calc s.cost y (some (session, y)) c ≤ 3328 := h.cost_le_of_not_failing y _ hcSound
    _ < 4096 := by decide
    _ ≤ s.cost y (some (session, y)) q := s.le_cost_of_failing y _ hfailing

/-- Settles O51: the bounds of the cost by its penalty, and the choice by cost alone. -/
theorem pathCostsAreBounded : Obligations.PathCostsAreBounded :=
  ⟨fun s y placing p h => ⟨h.cost_le_max y placing p, h.cost_le_of_not_failing y placing, s.le_cost_of_failing y placing,
    State.cost_eq_zero⟩, fun _ session y h => h.selectFor_eq session y⟩

end Sys2Proof.Machine
end

namespace Sys2Proof.Machine
open Sys2Proof

@[simp] theorem orderNotices_nil : orderNotices [] = [] := rfl

/-- A flush with nothing raised queues nothing. -/
theorem State.flush_link_of_raised_nil {s : State} (h : s.raised = []) : s.flush.link = s.link := by
  simp [State.flush, h]

/-- A close with nothing raised queues nothing. -/
theorem State.close_link_of_raised_nil {s : State} (h : s.raised = []) : s.close.link = s.link :=
  State.flush_link_of_raised_nil h

/-- Two states agree in all but the cache. -/
def State.sameButCache (s u : State) : Prop := u = { s with cache := u.cache }

theorem State.sameButCache.trans {s u v : State} (h : s.sameButCache u) (k : u.sameButCache v) : s.sameButCache v := by
  unfold State.sameButCache at *
  rw [k, h]

theorem State.setCacheSet_sameButCache (s : State) (i : Fin 64) (x : CacheSet) : s.sameButCache (s.setCacheSet i x) := rfl
theorem State.setEntryAt_sameButCache (s : State) (pl : Place) (e : Option Entry) : s.sameButCache (s.setEntryAt pl e) := rfl
theorem State.useWay_sameButCache (s : State) (pl : Place) : s.sameButCache (s.useWay pl) := rfl
theorem State.modEntryOf_sameButCache (s : State) (a : Word32) (y : Nat) (f : Entry → Entry) : s.sameButCache (s.modEntryOf a y f) := by
  unfold State.modEntryOf
  split <;> rfl
theorem State.placeBySelection_sameButCache (s : State) (a : Word32) (y : Nat) : s.sameButCache (s.placeBySelection a y) :=
  s.modEntryOf_sameButCache _ _ _

/-- The entry for an admission is taken in the cache alone. -/
theorem State.takeEntry_sameButCache {s u : State} {a : Word32} {y : Nat} (h : s.takeEntry a y = some u) : s.sameButCache u := by
  unfold State.takeEntry at h
  split at h
  · cases h
    refine State.sameButCache.trans ?_ (State.useWay_sameButCache _ _)
    split
    · exact s.placeBySelection_sameButCache _ _
    · rfl
  · obtain ⟨w, -, rfl⟩ := Option.map_eq_some_iff.1 h
    exact ((s.setEntryAt_sameButCache _ _).trans (State.placeBySelection_sameButCache _ _ _)).trans (State.useWay_sameButCache _ _)

theorem State.takeEntry_frame {s u : State} {a : Word32} {y : Nat} (h : s.takeEntry a y = some u) :
    u.timeBase = s.timeBase ∧ u.station = s.station ∧ u.config = s.config ∧ u.link = s.link ∧ u.ex = s.ex ∧ u.ports = s.ports ∧
    u.routes = s.routes ∧ u.failover = s.failover ∧ u.row = s.row ∧ u.view = s.view ∧ u.raised = s.raised ∧ u.i2c = s.i2c ∧
    u.pending = s.pending := by
  rw [State.takeEntry_sameButCache h]
  simp

@[simp] theorem State.dueResend_frame (s : State) (i : Slot) (e : Exchange) :
    (s.dueResend i e).timeBase = s.timeBase ∧ (s.dueResend i e).station = s.station ∧ (s.dueResend i e).config = s.config ∧
    (s.dueResend i e).routes = s.routes ∧ (s.dueResend i e).row = s.row ∧ (s.dueResend i e).view = s.view ∧
    (s.dueResend i e).raised = s.raised ∧ (s.dueResend i e).i2c = s.i2c ∧ (s.dueResend i e).pending = s.pending := by
  unfold State.dueResend
  (repeat' split) <;> simp

@[simp] theorem State.takeFinding_frame (s : State) (p : PortId) (i : Slot) (e : Exchange) (l : List Byte) (f : Finding) :
    (s.takeFinding p i e l f).timeBase = s.timeBase ∧ (s.takeFinding p i e l f).station = s.station ∧
    (s.takeFinding p i e l f).config = s.config ∧ (s.takeFinding p i e l f).routes = s.routes ∧
    (s.takeFinding p i e l f).row = s.row ∧ (s.takeFinding p i e l f).view = s.view ∧ (s.takeFinding p i e l f).raised = s.raised ∧
    (s.takeFinding p i e l f).i2c = s.i2c ∧ (s.takeFinding p i e l f).pending = s.pending := by
  cases f <;> simp [State.takeFinding]

@[simp] theorem State.queueRestart_frame (s : State) :
    s.queueRestart.timeBase = s.timeBase ∧ s.queueRestart.station = s.station ∧ s.queueRestart.config = s.config ∧
    s.queueRestart.ex = s.ex ∧ s.queueRestart.cache = s.cache ∧ s.queueRestart.ports = s.ports ∧ s.queueRestart.routes = s.routes ∧
    s.queueRestart.failover = s.failover ∧ s.queueRestart.row = s.row ∧ s.queueRestart.view = s.view ∧
    s.queueRestart.i2c = s.i2c ∧ s.queueRestart.pending = s.pending ∧ s.queueRestart.raised = [] := by
  simp only [State.queueRestart]
  split <;> simp

/-- A fold of detections keeps what a detection keeps. -/
@[simp] theorem State.foldl_detect_frame (l : List PortId) (s : State) :
    (l.foldl State.detect s).timeBase = s.timeBase ∧ (l.foldl State.detect s).station = s.station ∧
    (l.foldl State.detect s).config = s.config ∧ (l.foldl State.detect s).link = s.link ∧ (l.foldl State.detect s).ex = s.ex ∧
    (l.foldl State.detect s).routes = s.routes ∧ (l.foldl State.detect s).failover = s.failover ∧
    (l.foldl State.detect s).i2c = s.i2c ∧ (l.foldl State.detect s).pending = s.pending := by
  refine ⟨foldl_keeps (·.timeBase) _ ?_ _ _, foldl_keeps (·.station) _ ?_ _ _, foldl_keeps (·.config) _ ?_ _ _,
    foldl_keeps (·.link) _ ?_ _ _, foldl_keeps (·.ex) _ ?_ _ _, foldl_keeps (·.routes) _ ?_ _ _,
    foldl_keeps (·.failover) _ ?_ _ _, foldl_keeps (·.i2c) _ ?_ _ _, foldl_keeps (·.pending) _ ?_ _ _⟩ <;> simp

@[simp] theorem State.loseQuiescingCells_frame (s : State) :
    s.loseQuiescingCells.timeBase = s.timeBase ∧ s.loseQuiescingCells.station = s.station ∧ s.loseQuiescingCells.config = s.config ∧
    s.loseQuiescingCells.ports = s.ports ∧ s.loseQuiescingCells.ex = s.ex ∧ s.loseQuiescingCells.row = s.row ∧
    s.loseQuiescingCells.view = s.view ∧ s.loseQuiescingCells.i2c = s.i2c ∧ s.loseQuiescingCells.pending = s.pending := by
  unfold State.loseQuiescingCells
  refine ⟨foldl_keeps (·.timeBase) _ ?_ _ _, foldl_keeps (·.station) _ ?_ _ _, foldl_keeps (·.config) _ ?_ _ _,
    foldl_keeps (·.ports) _ ?_ _ _, foldl_keeps (·.ex) _ ?_ _ _, foldl_keeps (·.row) _ ?_ _ _, foldl_keeps (·.view) _ ?_ _ _,
    foldl_keeps (·.i2c) _ ?_ _ _, foldl_keeps (·.pending) _ ?_ _ _⟩ <;> simp

@[simp] theorem State.hostCleared_frame (s : State) :
    s.hostCleared.timeBase = s.timeBase ∧ s.hostCleared.config = s.config ∧ s.hostCleared.view = s.view ∧
    s.hostCleared.i2c = s.i2c ∧ s.hostCleared.pending = s.pending := by
  simp [State.hostCleared]

@[simp] theorem State.hostReset_frame (s : State) :
    s.hostReset.timeBase = s.timeBase ∧ s.hostReset.config = s.config ∧ s.hostReset.i2c = s.i2c ∧ s.hostReset.pending = s.pending ∧
    s.hostReset.raised = [] := by
  simp only [State.hostReset]
  split <;> simp [State.close]

@[simp] theorem State.applyItems_frame (s : State) (v : Config.Settings) :
    (s.applyItems v).timeBase = s.timeBase ∧ (s.applyItems v).station = s.station ∧ (s.applyItems v).ex = s.ex ∧
    (s.applyItems v).failover = s.failover ∧ (s.applyItems v).i2c = s.i2c ∧ (s.applyItems v).pending = s.pending := by
  simp only [State.applyItems, State.mapCells, State.dropExpired]
  (repeat' split) <;> simp

/-- `t` has the queue of `s` and, where `s` has no raised notice, differs from it in the listed blocks alone. -/
structure State.Within (s t : State) (blocks : List Block) : Prop where
  pending : t.pending = s.pending
  only : s.raised = [] → s.onlyIn t blocks

/-- The command answers a next state with the same queue that differs in the listed blocks alone. -/
def CompletesWithin (s : State) (blocks : List Block) (o : Host.Outcome State Fault Refusal) : Prop :=
  ∃ t, o = .next t ∧ s.Within t blocks

theorem CompletesWithin.unchanged (s : State) (blocks : List Block) : CompletesWithin s blocks (.next s) :=
  ⟨s, rfl, rfl, fun _ b _ => by cases b <;> rfl⟩

/-- A control request changes the host link and what its owner changes. -/
theorem takeControl_within {α : Type} {s : State} {code : Byte} {args : List Byte} {body : ReplyBody} {read : List Byte → Option α}
    {owner : α → State → Answered} {blocks : List Block} (hlink : Block.link ∈ blocks)
    (h : ∀ (x : α) (u : State), u.Within (owner x u).state blocks) : s.Within (s.takeControl code args body read owner) blocks := by
  unfold State.takeControl
  split
  · refine ⟨by simp, fun _ b hb => ?_⟩
    have hne : b ≠ .link := fun e => hb (e ▸ hlink)
    cases b <;> simp_all [State.sameIn]
  next x _ =>
    have hx := h x s.popIngress
    refine ⟨by simpa using hx.pending, fun hr b hb => ?_⟩
    have hb' := hx.only (by simpa using hr) b hb
    have hne : b ≠ .link := fun e => hb (e ▸ hlink)
    cases b <;> simp_all [State.sameIn]

theorem onRequest_completesWithin {α : Type} {s : State} {code : Byte} {read : List Byte → Option α} {owner : α → State → Answered}
    {blocks : List Block} (hlink : Block.link ∈ blocks) (h : ∀ (x : α) (u : State), u.Within (owner x u).state blocks) :
    CompletesWithin s blocks (s.onRequest code read owner) := by
  unfold State.onRequest
  split
  · split
    · exact ⟨_, rfl, takeControl_within hlink h⟩
    · exact .unchanged _ _
  · exact .unchanged _ _

/-! ### The owners of the control requests -/

theorem ownConfigure_within (x : List (Nat × Nat)) (u : State) : u.Within (ownConfigure x u).state (blocksOf .configure) := by
  unfold ownConfigure
  split
  · exact ⟨rfl, fun _ b _ => by cases b <;> rfl⟩
  · split
    · exact ⟨rfl, fun _ b _ => by cases b <;> rfl⟩
    · refine ⟨by simp, fun _ b hb => ?_⟩
      cases b <;> simp_all [State.sameIn, blocksOf]

theorem ownEnable_within (x : Unit) (u : State) : u.Within (ownEnable x u).state (blocksOf .enable) := by
  unfold ownEnable
  split <;> refine ⟨by simp [doneWith, refusedWith], fun _ b hb => ?_⟩ <;>
    cases b <;> simp_all [State.sameIn, blocksOf, doneWith, refusedWith]

theorem ownWithdraw_within (x : Unit) (u : State) : u.Within (ownWithdraw x u).state (blocksOf .withdraw) := by
  unfold ownWithdraw
  split <;> refine ⟨by simp [doneWith, refusedWith], fun _ b hb => ?_⟩ <;>
    cases b <;> simp_all [State.sameIn, blocksOf, doneWith, refusedWith]

/-- A request that answers with a report changes nothing itself. -/
theorem report_within (r : State → ReplyBody) (u : State) (blocks : List Block) : u.Within (doneWith (r u) u).state blocks :=
  ⟨rfl, fun _ b _ => by cases b <;> rfl⟩

theorem State.install_sameButCache (s : State) (a : PinArgs) (w : Fin 4) (p : PortId) : s.sameButCache (s.install a w p) := by
  unfold State.install
  dsimp only
  split <;> rfl

theorem ownPin_within (a : PinArgs) (u : State) : u.Within (ownPin a u).state (blocksOf .pin) := by
  unfold ownPin
  split
  · exact ⟨rfl, fun _ b _ => by cases b <;> rfl⟩
  · split
    · exact ⟨rfl, fun _ b _ => by cases b <;> rfl⟩
    next w _ _ p _ =>
      have h := u.install_sameButCache a w p
      unfold State.sameButCache at h
      refine ⟨by rw [doneWith, h], fun _ b hb => ?_⟩
      rw [doneWith, h]
      cases b <;> simp_all [State.sameIn, blocksOf]

theorem ownFlush_within (x : Unit) (u : State) : u.Within (ownFlush x u).state (blocksOf .flush) := by
  refine ⟨rfl, fun _ b hb => ?_⟩
  cases b <;> first | rfl | exact absurd (by decide) hb

theorem ownPortOffGraceful_within (a : PortId × Bool) (u : State) :
    u.Within (ownPortOffGraceful a u).state (blocksOf .portOffGraceful) := by
  unfold ownPortOffGraceful
  split <;> refine ⟨by simp [doneWith, refusedWith], fun _ b hb => ?_⟩ <;>
    cases b <;> simp_all [State.sameIn, blocksOf, lossBlocks, doneWith, refusedWith]

theorem ownPortOffImmediate_within (a : PortId × Bool) (u : State) :
    u.Within (ownPortOffImmediate a u).state (blocksOf .portOffImmediate) := by
  unfold ownPortOffImmediate
  split <;> refine ⟨by simp [doneWith, refusedWith], fun _ b hb => ?_⟩ <;>
    cases b <;> simp_all [State.sameIn, blocksOf, lossBlocks, doneWith, refusedWith]

theorem ownPortOn_within (p : PortId) (u : State) : u.Within (ownPortOn p u).state (blocksOf .portOn) := by
  unfold ownPortOn
  split <;> refine ⟨by simp [doneWith, refusedWith], fun _ b hb => ?_⟩ <;>
    cases b <;> simp_all [State.sameIn, blocksOf, portBlocks, doneWith, refusedWith]

theorem resetPort_within (p : PortId) (u : State) : u.Within (doneWith .none (u.resetPort p).close).state (blocksOf .resetPort) := by
  refine ⟨by simp [doneWith], fun _ b hb => ?_⟩
  cases b <;> simp_all [State.sameIn, blocksOf, lossBlocks, doneWith]

theorem ownEnd_within (x : Word32) (u : State) : u.Within (ownEnd x u).state (blocksOf .endExchange) := by
  unfold ownEnd endWith
  (repeat' split) <;> refine ⟨by simp [doneWith, refusedWith], fun _ b hb => ?_⟩ <;>
    cases b <;> simp_all [State.sameIn, blocksOf, lossBlocks, doneWith, refusedWith]

theorem ownCancel_within (x : Word32) (u : State) : u.Within (ownCancel x u).state (blocksOf .cancel) := by
  unfold ownCancel endWith
  (repeat' split) <;> refine ⟨by simp [doneWith, refusedWith], fun _ b hb => ?_⟩ <;>
    cases b <;> simp_all [State.sameIn, blocksOf, lossBlocks, doneWith, refusedWith]

theorem hostReset_within (u : State) (blocks : List Block) (h : ∀ b ∈ blocksOf .hostReset, b ∈ blocks) :
    u.Within u.hostReset blocks := by
  refine ⟨by simp, fun _ b hb => ?_⟩
  have hb' := fun k => hb (h b k)
  cases b <;> simp_all [State.sameIn, blocksOf, lossBlocks]

theorem portOff_completesWithin (s : State) :
    CompletesWithin s lossBlocks (execPortOffGraceful s) ∧ CompletesWithin s lossBlocks (execPortOffImmediate s) := by
  unfold execPortOffGraceful execPortOffImmediate
  constructor
  all_goals
    split
    · split
      · exact ⟨_, rfl, takeControl_within (by decide) (by
          intro x u; first | exact ownPortOffGraceful_within x u | exact ownPortOffImmediate_within x u)⟩
      · exact .unchanged _ _
    · exact .unchanged _ _

theorem execConfigure_completesWithin (s : State) : CompletesWithin s (blocksOf .configure) (execConfigure s) := by
  unfold execConfigure
  split
  · split
    · exact ⟨_, rfl, takeControl_within (by decide) ownConfigure_within⟩
    · exact .unchanged _ _
  · exact .unchanged _ _

theorem execUnknownRequest_completesWithin (s : State) : CompletesWithin s (blocksOf .unknownRequest) (execUnknownRequest s) := by
  unfold execUnknownRequest
  split
  · split
    · exact .unchanged _ _
    · exact ⟨_, rfl, takeControl_within (by decide) fun _ u => ⟨rfl, fun _ b _ => by cases b <;> rfl⟩⟩
  · exact .unchanged _ _

theorem execAdmission_completesWithin (s : State) : CompletesWithin s (blocksOf .admission) (execAdmission s) := by
  unfold execAdmission
  (repeat' split)
  all_goals try exact .unchanged _ _
  case h_2 hs1 =>
    have hf := State.takeEntry_frame hs1
    refine ⟨_, rfl, by simp [hf], fun h b hb => ?_⟩
    cases b <;> simp_all [State.sameIn, blocksOf]
  all_goals
    refine ⟨_, rfl, by simp, fun h b hb => ?_⟩
    cases b <;> simp_all [State.sameIn, blocksOf]


@[simp] theorem State.takeHostFrame_frame (s : State) (l : List Byte) :
    (s.takeHostFrame l).timeBase = s.timeBase ∧ (s.takeHostFrame l).station = s.station ∧ (s.takeHostFrame l).config = s.config ∧
    (s.takeHostFrame l).ex = s.ex ∧ (s.takeHostFrame l).cache = s.cache ∧ (s.takeHostFrame l).ports = s.ports ∧
    (s.takeHostFrame l).routes = s.routes ∧ (s.takeHostFrame l).failover = s.failover ∧ (s.takeHostFrame l).row = s.row ∧
    (s.takeHostFrame l).view = s.view ∧ (s.takeHostFrame l).i2c = s.i2c ∧ (s.takeHostFrame l).pending = s.pending := by
  unfold State.takeHostFrame State.joinIngress State.grantCredits
  (repeat' split) <;> simp

/-! Every command that is no control request is a tree of conditions whose leaves are built of the shared operations, each with its
frame. -/

theorem execPowerOn_completesWithin (straps : StationId) (pinAsserted : Bool) (s : State) :
    CompletesWithin s (blocksOf (.powerOn straps pinAsserted)) (execPowerOn straps pinAsserted s) := by
  simp only [execPowerOn]
  (repeat' split) <;> first
    | with_reducible exact .unchanged _ _
    | refine ⟨_, rfl, ?_, fun h b hb => ?_⟩
      · rfl
      · cases b <;> first
        | exact absurd (List.elem_iff.1 rfl) hb
        | simp [State.sameIn, State.flush_link_of_raised_nil, State.close_link_of_raised_nil, h]

theorem execResetPinAsserted_completesWithin (s : State) :
    CompletesWithin s (blocksOf .resetPinAsserted) (execResetPinAsserted s) := by
  simp only [execResetPinAsserted]
  (repeat' split) <;> first
    | with_reducible exact .unchanged _ _
    | refine ⟨_, rfl, ?_, fun h b hb => ?_⟩
      · rfl
      · cases b <;> first
        | exact absurd (List.elem_iff.1 rfl) hb
        | simp [State.sameIn, State.flush_link_of_raised_nil, State.close_link_of_raised_nil, h]

theorem execResetPinReleased_completesWithin (straps : StationId) (s : State) :
    CompletesWithin s (blocksOf (.resetPinReleased straps)) (execResetPinReleased straps s) := by
  simp only [execResetPinReleased]
  (repeat' split) <;> first
    | with_reducible exact .unchanged _ _
    | refine ⟨_, rfl, ?_, fun h b hb => ?_⟩
      · rfl
      · cases b <;> first
        | exact absurd (List.elem_iff.1 rfl) hb
        | simp [State.sameIn, State.flush_link_of_raised_nil, State.close_link_of_raised_nil, h]

theorem State.enterStandby_within (s : State) (loaded : LoadOutcome × Config.Settings) (host : Bool) :
    s.Within (s.enterStandby loaded host) [.station, .config, .link, .ex, .cache, .ports, .row, .view] := by
  refine ⟨by simp [State.enterStandby], fun _ b hb => ?_⟩
  cases b <;> first
    | exact absurd (List.elem_iff.1 rfl) hb
    | simp [State.sameIn, State.enterStandby]

theorem execEepromLoadComplete_completesWithin (image : Option (List Byte)) (host : Bool) (s : State) :
    CompletesWithin s (blocksOf (.eepromLoadComplete image host)) (execEepromLoadComplete image host s) := by
  unfold execEepromLoadComplete
  split
  · exact ⟨_, rfl, s.enterStandby_within _ _⟩
  · exact .unchanged _ _

theorem execEepromReadTimeout_completesWithin (host : Bool) (s : State) :
    CompletesWithin s (blocksOf (.eepromReadTimeout host)) (execEepromReadTimeout host s) := by
  unfold execEepromReadTimeout
  split
  · split
    · exact ⟨_, rfl, s.enterStandby_within _ _⟩
    · exact .unchanged _ _
  · exact .unchanged _ _

theorem execHostRequestArrival_completesWithin (frame : List Byte) (s : State) :
    CompletesWithin s (blocksOf (.hostRequestArrival frame)) (execHostRequestArrival frame s) := by
  simp only [execHostRequestArrival]
  (repeat' split) <;> first
    | with_reducible exact .unchanged _ _
    | refine ⟨_, rfl, ?_, fun h b hb => ?_⟩
      · simp
      · cases b <;> first
        | exact absurd (List.elem_iff.1 rfl) hb
        | simp [State.sameIn, State.flush_link_of_raised_nil, State.close_link_of_raised_nil, h]

theorem execHostCreditArrival_completesWithin (frame : List Byte) (s : State) :
    CompletesWithin s (blocksOf (.hostCreditArrival frame)) (execHostCreditArrival frame s) := by
  simp only [execHostCreditArrival]
  (repeat' split) <;> first
    | with_reducible exact .unchanged _ _
    | refine ⟨_, rfl, ?_, fun h b hb => ?_⟩
      · simp
      · cases b <;> first
        | exact absurd (List.elem_iff.1 rfl) hb
        | simp [State.sameIn, State.flush_link_of_raised_nil, State.close_link_of_raised_nil, h]

theorem execSendCreditReturn_completesWithin (s : State) :
    CompletesWithin s (blocksOf .sendCreditReturn) (execSendCreditReturn s) := by
  simp only [execSendCreditReturn]
  (repeat' split) <;> first
    | with_reducible exact .unchanged _ _
    | refine ⟨_, rfl, ?_, fun h b hb => ?_⟩
      · simp
      · cases b <;> first
        | exact absurd (List.elem_iff.1 rfl) hb
        | simp [State.sameIn, State.flush_link_of_raised_nil, State.close_link_of_raised_nil, h]

theorem execSendControlReply_completesWithin (s : State) :
    CompletesWithin s (blocksOf .sendControlReply) (execSendControlReply s) := by
  simp only [execSendControlReply]
  (repeat' split) <;> first
    | with_reducible exact .unchanged _ _
    | refine ⟨_, rfl, ?_, fun h b hb => ?_⟩
      · simp
      · cases b <;> first
        | exact absurd (List.elem_iff.1 rfl) hb
        | simp [State.sameIn, State.flush_link_of_raised_nil, State.close_link_of_raised_nil, h]

theorem execSendNotice_completesWithin (s : State) :
    CompletesWithin s (blocksOf .sendNotice) (execSendNotice s) := by
  simp only [execSendNotice]
  (repeat' split) <;> first
    | with_reducible exact .unchanged _ _
    | refine ⟨_, rfl, ?_, fun h b hb => ?_⟩
      · simp
      · cases b <;> first
        | exact absurd (List.elem_iff.1 rfl) hb
        | simp [State.sameIn, State.flush_link_of_raised_nil, State.close_link_of_raised_nil, h]

theorem execSendResult_completesWithin (s : State) :
    CompletesWithin s (blocksOf .sendResult) (execSendResult s) := by
  simp only [execSendResult]
  (repeat' split) <;> first
    | with_reducible exact .unchanged _ _
    | refine ⟨_, rfl, ?_, fun h b hb => ?_⟩
      · simp
      · cases b <;> first
        | exact absurd (List.elem_iff.1 rfl) hb
        | simp [State.sameIn, State.flush_link_of_raised_nil, State.close_link_of_raised_nil, h]

theorem execSendExchange_completesWithin (p : PortId) (s : State) :
    CompletesWithin s (blocksOf (.sendExchange p)) (execSendExchange p s) := by
  simp only [execSendExchange]
  (repeat' split) <;> first
    | with_reducible exact .unchanged _ _
    | refine ⟨_, rfl, ?_, fun h b hb => ?_⟩
      · simp
      · cases b <;> first
        | exact absurd (List.elem_iff.1 rfl) hb
        | simp [State.sameIn, State.flush_link_of_raised_nil, State.close_link_of_raised_nil, h]

theorem execAnswerArrival_completesWithin (p : PortId) (tag : Tag) (attempt : Byte) (payload : List Byte) (s : State) :
    CompletesWithin s (blocksOf (.answerArrival p tag attempt payload)) (execAnswerArrival p tag attempt payload s) := by
  simp only [execAnswerArrival]
  (repeat' split) <;> first
    | with_reducible exact .unchanged _ _
    | refine ⟨_, rfl, ?_, fun h b hb => ?_⟩
      · simp
      · cases b <;> first
        | exact absurd (List.elem_iff.1 rfl) hb
        | simp [State.sameIn, State.flush_link_of_raised_nil, State.close_link_of_raised_nil, h]

theorem execAnswerWaitExpiry_completesWithin (i : Slot) (s : State) :
    CompletesWithin s (blocksOf (.answerWaitExpiry i)) (execAnswerWaitExpiry i s) := by
  simp only [execAnswerWaitExpiry]
  (repeat' split) <;> first
    | with_reducible exact .unchanged _ _
    | refine ⟨_, rfl, ?_, fun h b hb => ?_⟩
      · simp
      · cases b <;> first
        | exact absurd (List.elem_iff.1 rfl) hb
        | simp [State.sameIn, State.flush_link_of_raised_nil, State.close_link_of_raised_nil, h]

theorem execHoldExpiry_completesWithin (i : Slot) (s : State) :
    CompletesWithin s (blocksOf (.holdExpiry i)) (execHoldExpiry i s) := by
  simp only [execHoldExpiry]
  (repeat' split) <;> first
    | with_reducible exact .unchanged _ _
    | refine ⟨_, rfl, ?_, fun h b hb => ?_⟩
      · simp
      · cases b <;> first
        | exact absurd (List.elem_iff.1 rfl) hb
        | simp [State.sameIn, State.flush_link_of_raised_nil, State.close_link_of_raised_nil, h]

theorem execTraceTransmission_completesWithin (p : PortId) (s : State) :
    CompletesWithin s (blocksOf (.traceTransmission p)) (execTraceTransmission p s) := by
  simp only [execTraceTransmission]
  (repeat' split) <;> first
    | with_reducible exact .unchanged _ _
    | refine ⟨_, rfl, ?_, fun h b hb => ?_⟩
      · simp
      · cases b <;> first
        | exact absurd (List.elem_iff.1 rfl) hb
        | simp [State.sameIn, State.flush_link_of_raised_nil, State.close_link_of_raised_nil, h]

theorem execTraceReplyArrival_completesWithin (p : PortId) (tag : Tag) (attempt : Byte) (finding : Finding) (payload : List Byte) (s : State) :
    CompletesWithin s (blocksOf (.traceReplyArrival p tag attempt finding payload)) (execTraceReplyArrival p tag attempt finding payload s) := by
  simp only [execTraceReplyArrival]
  (repeat' split) <;> first
    | with_reducible exact .unchanged _ _
    | refine ⟨_, rfl, ?_, fun h b hb => ?_⟩
      · simp
      · cases b <;> first
        | exact absurd (List.elem_iff.1 rfl) hb
        | simp [State.sameIn, State.flush_link_of_raised_nil, State.close_link_of_raised_nil, h]

theorem execTraceWaitExpiry_completesWithin (i : Slot) (s : State) :
    CompletesWithin s (blocksOf (.traceWaitExpiry i)) (execTraceWaitExpiry i s) := by
  simp only [execTraceWaitExpiry]
  (repeat' split) <;> first
    | with_reducible exact .unchanged _ _
    | refine ⟨_, rfl, ?_, fun h b hb => ?_⟩
      · simp
      · cases b <;> first
        | exact absurd (List.elem_iff.1 rfl) hb
        | simp [State.sameIn, State.flush_link_of_raised_nil, State.close_link_of_raised_nil, h]

theorem execSignalArriving_completesWithin (p : PortId) (s : State) :
    CompletesWithin s (blocksOf (.signalArriving p)) (execSignalArriving p s) := by
  simp only [execSignalArriving]
  (repeat' split) <;> first
    | with_reducible exact .unchanged _ _
    | refine ⟨_, rfl, ?_, fun h b hb => ?_⟩
      · simp
      · cases b <;> first
        | exact absurd (List.elem_iff.1 rfl) hb
        | simp [State.sameIn, State.flush_link_of_raised_nil, State.close_link_of_raised_nil, h]

theorem execSignalLost_completesWithin (p : PortId) (s : State) :
    CompletesWithin s (blocksOf (.signalLost p)) (execSignalLost p s) := by
  simp only [execSignalLost]
  (repeat' split) <;> first
    | with_reducible exact .unchanged _ _
    | refine ⟨_, rfl, ?_, fun h b hb => ?_⟩
      · simp
      · cases b <;> first
        | exact absurd (List.elem_iff.1 rfl) hb
        | simp [State.sameIn, State.flush_link_of_raised_nil, State.close_link_of_raised_nil, h]

theorem execTrainingWaitExpiry_completesWithin (p : PortId) (s : State) :
    CompletesWithin s (blocksOf (.trainingWaitExpiry p)) (execTrainingWaitExpiry p s) := by
  simp only [execTrainingWaitExpiry]
  (repeat' split) <;> first
    | with_reducible exact .unchanged _ _
    | refine ⟨_, rfl, ?_, fun h b hb => ?_⟩
      · simp
      · cases b <;> first
        | exact absurd (List.elem_iff.1 rfl) hb
        | simp [State.sameIn, State.flush_link_of_raised_nil, State.close_link_of_raised_nil, h]

theorem execLinkOffer_completesWithin (p : PortId) (identity grant : Byte) (reachList : BitVec 64) (s : State) :
    CompletesWithin s (blocksOf (.linkOffer p identity grant reachList)) (execLinkOffer p identity grant reachList s) := by
  simp only [execLinkOffer]
  (repeat' split) <;> first
    | with_reducible exact .unchanged _ _
    | refine ⟨_, rfl, ?_, fun h b hb => ?_⟩
      · simp
      · cases b <;> first
        | exact absurd (List.elem_iff.1 rfl) hb
        | simp [State.sameIn, State.flush_link_of_raised_nil, State.close_link_of_raised_nil, h]

theorem execFabricCreditArrival_completesWithin (p : PortId) (count : Byte) (s : State) :
    CompletesWithin s (blocksOf (.fabricCreditArrival p count)) (execFabricCreditArrival p count s) := by
  simp only [execFabricCreditArrival]
  (repeat' split) <;> first
    | with_reducible exact .unchanged _ _
    | refine ⟨_, rfl, ?_, fun h b hb => ?_⟩
      · simp
      · cases b <;> first
        | exact absurd (List.elem_iff.1 rfl) hb
        | simp [State.sameIn, State.flush_link_of_raised_nil, State.close_link_of_raised_nil, h]

theorem execReach_completesWithin (p : PortId) (reachList : BitVec 64) (s : State) :
    CompletesWithin s (blocksOf (.reach p reachList)) (execReach p reachList s) := by
  simp only [execReach]
  (repeat' split) <;> first
    | with_reducible exact .unchanged _ _
    | refine ⟨_, rfl, ?_, fun h b hb => ?_⟩
      · simp
      · cases b <;> first
        | exact absurd (List.elem_iff.1 rfl) hb
        | simp [State.sameIn, State.flush_link_of_raised_nil, State.close_link_of_raised_nil, h]

theorem execIdleTick_completesWithin (p : PortId) (s : State) :
    CompletesWithin s (blocksOf (.idleTick p)) (execIdleTick p s) := by
  simp only [execIdleTick]
  (repeat' split) <;> first
    | with_reducible exact .unchanged _ _
    | refine ⟨_, rfl, ?_, fun h b hb => ?_⟩
      · simp
      · cases b <;> first
        | exact absurd (List.elem_iff.1 rfl) hb
        | simp [State.sameIn, State.flush_link_of_raised_nil, State.close_link_of_raised_nil, h]

theorem execDamagedFrame_completesWithin (p : PortId) (s : State) :
    CompletesWithin s (blocksOf (.damagedFrame p)) (execDamagedFrame p s) := by
  simp only [execDamagedFrame]
  (repeat' split) <;> first
    | with_reducible exact .unchanged _ _
    | refine ⟨_, rfl, ?_, fun h b hb => ?_⟩
      · simp
      · cases b <;> first
        | exact absurd (List.elem_iff.1 rfl) hb
        | simp [State.sameIn, State.flush_link_of_raised_nil, State.close_link_of_raised_nil, h]

theorem execLinkSilenceExpiry_completesWithin (p : PortId) (s : State) :
    CompletesWithin s (blocksOf (.linkSilenceExpiry p)) (execLinkSilenceExpiry p s) := by
  simp only [execLinkSilenceExpiry]
  (repeat' split) <;> first
    | with_reducible exact .unchanged _ _
    | refine ⟨_, rfl, ?_, fun h b hb => ?_⟩
      · simp
      · cases b <;> first
        | exact absurd (List.elem_iff.1 rfl) hb
        | simp [State.sameIn, State.flush_link_of_raised_nil, State.close_link_of_raised_nil, h]

theorem execPortResetHoldExpiry_completesWithin (p : PortId) (s : State) :
    CompletesWithin s (blocksOf (.portResetHoldExpiry p)) (execPortResetHoldExpiry p s) := by
  simp only [execPortResetHoldExpiry]
  (repeat' split) <;> first
    | with_reducible exact .unchanged _ _
    | refine ⟨_, rfl, ?_, fun h b hb => ?_⟩
      · simp
      · cases b <;> first
        | exact absurd (List.elem_iff.1 rfl) hb
        | simp [State.sameIn, State.flush_link_of_raised_nil, State.close_link_of_raised_nil, h]

theorem execProbeDue_completesWithin (y : Nat) (p : PortId) (s : State) :
    CompletesWithin s (blocksOf (.probeDue y p)) (execProbeDue y p s) := by
  simp only [execProbeDue]
  (repeat' split) <;> first
    | with_reducible exact .unchanged _ _
    | refine ⟨_, rfl, ?_, fun h b hb => ?_⟩
      · simp
      · cases b <;> first
        | exact absurd (List.elem_iff.1 rfl) hb
        | simp [State.sameIn, State.flush_link_of_raised_nil, State.close_link_of_raised_nil, h]

theorem execProbeSend_completesWithin (p : PortId) (s : State) :
    CompletesWithin s (blocksOf (.probeSend p)) (execProbeSend p s) := by
  simp only [execProbeSend]
  (repeat' split) <;> first
    | with_reducible exact .unchanged _ _
    | refine ⟨_, rfl, ?_, fun h b hb => ?_⟩
      · simp
      · cases b <;> first
        | exact absurd (List.elem_iff.1 rfl) hb
        | simp [State.sameIn, State.flush_link_of_raised_nil, State.close_link_of_raised_nil, h]

theorem execEcho_completesWithin (p : PortId) (target number : Byte) (s : State) :
    CompletesWithin s (blocksOf (.echo p target number)) (execEcho p target number s) := by
  simp only [execEcho]
  (repeat' split) <;> first
    | with_reducible exact .unchanged _ _
    | refine ⟨_, rfl, ?_, fun h b hb => ?_⟩
      · simp
      · cases b <;> first
        | exact absurd (List.elem_iff.1 rfl) hb
        | simp [State.sameIn, State.flush_link_of_raised_nil, State.close_link_of_raised_nil, h]

theorem execProbeWaitExpiry_completesWithin (y : Nat) (p : PortId) (s : State) :
    CompletesWithin s (blocksOf (.probeWaitExpiry y p)) (execProbeWaitExpiry y p s) := by
  simp only [execProbeWaitExpiry]
  (repeat' split) <;> first
    | with_reducible exact .unchanged _ _
    | refine ⟨_, rfl, ?_, fun h b hb => ?_⟩
      · simp
      · cases b <;> first
        | exact absurd (List.elem_iff.1 rfl) hb
        | simp [State.sameIn, State.flush_link_of_raised_nil, State.close_link_of_raised_nil, h]

theorem execWorkItemTakenUp_completesWithin (s : State) :
    CompletesWithin s (blocksOf .workItemTakenUp) (execWorkItemTakenUp s) := by
  simp only [execWorkItemTakenUp]
  (repeat' split) <;> first
    | with_reducible exact .unchanged _ _
    | refine ⟨_, rfl, ?_, fun h b hb => ?_⟩
      · simp
      · cases b <;> first
        | exact absurd (List.elem_iff.1 rfl) hb
        | simp [State.sameIn, State.flush_link_of_raised_nil, State.close_link_of_raised_nil, h]

theorem execWalkStep_completesWithin (s : State) :
    CompletesWithin s (blocksOf .walkStep) (execWalkStep s) := by
  simp only [execWalkStep]
  (repeat' split) <;> first
    | with_reducible exact .unchanged _ _
    | refine ⟨_, rfl, ?_, fun h b hb => ?_⟩
      · simp
      · cases b <;> first
        | exact absurd (List.elem_iff.1 rfl) hb
        | simp [State.sameIn, State.flush_link_of_raised_nil, State.close_link_of_raised_nil, h]

theorem execEntriesStep_completesWithin (s : State) :
    CompletesWithin s (blocksOf .entriesStep) (execEntriesStep s) := by
  simp only [execEntriesStep]
  (repeat' split) <;> first
    | with_reducible exact .unchanged _ _
    | refine ⟨_, rfl, ?_, fun h b hb => ?_⟩
      · simp
      · cases b <;> first
        | exact absurd (List.elem_iff.1 rfl) hb
        | simp [State.sameIn, State.flush_link_of_raised_nil, State.close_link_of_raised_nil, h]

theorem execPairPhaseStep_completesWithin (s : State) :
    CompletesWithin s (blocksOf .pairPhaseStep) (execPairPhaseStep s) := by
  simp only [execPairPhaseStep]
  (repeat' split) <;> first
    | with_reducible exact .unchanged _ _
    | refine ⟨_, rfl, ?_, fun h b hb => ?_⟩
      · simp
      · cases b <;> first
        | exact absurd (List.elem_iff.1 rfl) hb
        | simp [State.sameIn, State.flush_link_of_raised_nil, State.close_link_of_raised_nil, h]

theorem execHeldPhaseStep_completesWithin (s : State) :
    CompletesWithin s (blocksOf .heldPhaseStep) (execHeldPhaseStep s) := by
  simp only [execHeldPhaseStep]
  (repeat' split) <;> first
    | with_reducible exact .unchanged _ _
    | refine ⟨_, rfl, ?_, fun h b hb => ?_⟩
      · simp
      · cases b <;> first
        | exact absurd (List.elem_iff.1 rfl) hb
        | simp [State.sameIn, State.flush_link_of_raised_nil, State.close_link_of_raised_nil, h]

theorem execRowFrameStart_completesWithin (b : Bool) (s : State) :
    CompletesWithin s (blocksOf (.rowFrameStart b)) (execRowFrameStart b s) := by
  simp only [execRowFrameStart, State.failDrive]
  (repeat' split) <;> first
    | with_reducible exact .unchanged _ _
    | refine ⟨_, rfl, ?_, fun h b hb => ?_⟩
      · simp
      · cases b <;> first
        | exact absurd (List.elem_iff.1 rfl) hb
        | simp [State.sameIn, State.flush_link_of_raised_nil, State.close_link_of_raised_nil, h]

theorem execLostArbitration_completesWithin (s : State) :
    CompletesWithin s (blocksOf .lostArbitration) (execLostArbitration s) := by
  simp only [execLostArbitration]
  (repeat' split) <;> first
    | with_reducible exact .unchanged _ _
    | refine ⟨_, rfl, ?_, fun h b hb => ?_⟩
      · simp
      · cases b <;> first
        | exact absurd (List.elem_iff.1 rfl) hb
        | simp [State.sameIn, State.flush_link_of_raised_nil, State.close_link_of_raised_nil, h]

theorem execBitError_completesWithin (s : State) :
    CompletesWithin s (blocksOf .bitError) (execBitError s) := by
  simp only [execBitError]
  (repeat' split) <;> first
    | with_reducible exact .unchanged _ _
    | refine ⟨_, rfl, ?_, fun h b hb => ?_⟩
      · simp
      · cases b <;> first
        | exact absurd (List.elem_iff.1 rfl) hb
        | simp [State.sameIn, State.flush_link_of_raised_nil, State.close_link_of_raised_nil, h]

theorem execRowFrameSentWhole_completesWithin (s : State) :
    CompletesWithin s (blocksOf .rowFrameSentWhole) (execRowFrameSentWhole s) := by
  simp only [execRowFrameSentWhole]
  (repeat' split) <;> first
    | with_reducible exact .unchanged _ _
    | refine ⟨_, rfl, ?_, fun h b hb => ?_⟩
      · simp
      · cases b <;> first
        | exact absurd (List.elem_iff.1 rfl) hb
        | simp [State.sameIn, State.flush_link_of_raised_nil, State.close_link_of_raised_nil, h]

theorem execSightingReceived_completesWithin (sender : StationId) (state : StationState) (entries : List SwitchEntry) (s : State) :
    CompletesWithin s (blocksOf (.sightingReceived sender state entries)) (execSightingReceived sender state entries s) := by
  simp only [execSightingReceived, State.endReceive]
  (repeat' split) <;> first
    | with_reducible exact .unchanged _ _
    | refine ⟨_, rfl, ?_, fun h b hb => ?_⟩
      · simp
      · cases b <;> first
        | exact absurd (List.elem_iff.1 rfl) hb
        | simp [State.sameIn, State.flush_link_of_raised_nil, State.close_link_of_raised_nil, h]

theorem execWithdrawReceived_completesWithin (sender : StationId) (s : State) :
    CompletesWithin s (blocksOf (.withdrawReceived sender)) (execWithdrawReceived sender s) := by
  simp only [execWithdrawReceived, State.endReceive]
  (repeat' split) <;> first
    | with_reducible exact .unchanged _ _
    | refine ⟨_, rfl, ?_, fun h b hb => ?_⟩
      · simp
      · cases b <;> first
        | exact absurd (List.elem_iff.1 rfl) hb
        | simp [State.sameIn, State.flush_link_of_raised_nil, State.close_link_of_raised_nil, h]

theorem execFrameBrokenOff_completesWithin (s : State) :
    CompletesWithin s (blocksOf .frameBrokenOff) (execFrameBrokenOff s) := by
  simp only [execFrameBrokenOff, State.endReceive]
  (repeat' split) <;> first
    | with_reducible exact .unchanged _ _
    | refine ⟨_, rfl, ?_, fun h b hb => ?_⟩
      · simp
      · cases b <;> first
        | exact absurd (List.elem_iff.1 rfl) hb
        | simp [State.sameIn, State.flush_link_of_raised_nil, State.close_link_of_raised_nil, h]

theorem execLineHeldLow_completesWithin (s : State) :
    CompletesWithin s (blocksOf .lineHeldLow) (execLineHeldLow s) := by
  simp only [execLineHeldLow]
  (repeat' split) <;> first
    | with_reducible exact .unchanged _ _
    | refine ⟨_, rfl, ?_, fun h b hb => ?_⟩
      · simp
      · cases b <;> first
        | exact absurd (List.elem_iff.1 rfl) hb
        | simp [State.sameIn, State.flush_link_of_raised_nil, State.close_link_of_raised_nil, h]

theorem execCleared_completesWithin (s : State) :
    CompletesWithin s (blocksOf .cleared) (execCleared s) := by
  simp only [execCleared]
  (repeat' split) <;> first
    | with_reducible exact .unchanged _ _
    | refine ⟨_, rfl, ?_, fun h b hb => ?_⟩
      · simp
      · cases b <;> first
        | exact absurd (List.elem_iff.1 rfl) hb
        | simp [State.sameIn, State.flush_link_of_raised_nil, State.close_link_of_raised_nil, h]

theorem execDriveRetryExpiry_completesWithin (s : State) :
    CompletesWithin s (blocksOf .driveRetryExpiry) (execDriveRetryExpiry s) := by
  simp only [execDriveRetryExpiry]
  (repeat' split) <;> first
    | with_reducible exact .unchanged _ _
    | refine ⟨_, rfl, ?_, fun h b hb => ?_⟩
      · simp
      · cases b <;> first
        | exact absurd (List.elem_iff.1 rfl) hb
        | simp [State.sameIn, State.flush_link_of_raised_nil, State.close_link_of_raised_nil, h]

theorem execPeriodicSightingDue_completesWithin (s : State) :
    CompletesWithin s (blocksOf .periodicSightingDue) (execPeriodicSightingDue s) := by
  simp only [execPeriodicSightingDue]
  (repeat' split) <;> first
    | with_reducible exact .unchanged _ _
    | refine ⟨_, rfl, ?_, fun h b hb => ?_⟩
      · simp
      · cases b <;> first
        | exact absurd (List.elem_iff.1 rfl) hb
        | simp [State.sameIn, State.flush_link_of_raised_nil, State.close_link_of_raised_nil, h]

theorem execChangeSightingDue_completesWithin (s : State) :
    CompletesWithin s (blocksOf .changeSightingDue) (execChangeSightingDue s) := by
  simp only [execChangeSightingDue]
  (repeat' split) <;> first
    | with_reducible exact .unchanged _ _
    | refine ⟨_, rfl, ?_, fun h b hb => ?_⟩
      · simp
      · cases b <;> first
        | exact absurd (List.elem_iff.1 rfl) hb
        | simp [State.sameIn, State.flush_link_of_raised_nil, State.close_link_of_raised_nil, h]

theorem execPeerEntryStale_completesWithin (i : StationId) (s : State) :
    CompletesWithin s (blocksOf (.peerEntryStale i)) (execPeerEntryStale i s) := by
  simp only [execPeerEntryStale]
  (repeat' split) <;> first
    | with_reducible exact .unchanged _ _
    | refine ⟨_, rfl, ?_, fun h b hb => ?_⟩
      · simp
      · cases b <;> first
        | exact absurd (List.elem_iff.1 rfl) hb
        | simp [State.sameIn, State.flush_link_of_raised_nil, State.close_link_of_raised_nil, h]

theorem execPeerEntryExpired_completesWithin (i : StationId) (s : State) :
    CompletesWithin s (blocksOf (.peerEntryExpired i)) (execPeerEntryExpired i s) := by
  simp only [execPeerEntryExpired]
  (repeat' split) <;> first
    | with_reducible exact .unchanged _ _
    | refine ⟨_, rfl, ?_, fun h b hb => ?_⟩
      · simp
      · cases b <;> first
        | exact absurd (List.elem_iff.1 rfl) hb
        | simp [State.sameIn, State.flush_link_of_raised_nil, State.close_link_of_raised_nil, h]

theorem execClearHoldExpiry_completesWithin (sw : Nat) (s : State) :
    CompletesWithin s (blocksOf (.clearHoldExpiry sw)) (execClearHoldExpiry sw s) := by
  simp only [execClearHoldExpiry]
  (repeat' split) <;> first
    | with_reducible exact .unchanged _ _
    | refine ⟨_, rfl, ?_, fun h b hb => ?_⟩
      · simp
      · cases b <;> first
        | exact absurd (List.elem_iff.1 rfl) hb
        | simp [State.sameIn, State.flush_link_of_raised_nil, State.close_link_of_raised_nil, h]

theorem execStaggerExpiry_completesWithin (sw : Nat) (s : State) :
    CompletesWithin s (blocksOf (.staggerExpiry sw)) (execStaggerExpiry sw s) := by
  simp only [execStaggerExpiry]
  (repeat' split) <;> first
    | with_reducible exact .unchanged _ _
    | refine ⟨_, rfl, ?_, fun h b hb => ?_⟩
      · simp
      · cases b <;> first
        | exact absurd (List.elem_iff.1 rfl) hb
        | simp [State.sameIn, State.flush_link_of_raised_nil, State.close_link_of_raised_nil, h]

theorem execHostLinkResetSequence_completesWithin (s : State) :
    CompletesWithin s (blocksOf .hostLinkResetSequence) (execHostLinkResetSequence s) := by
  unfold execHostLinkResetSequence
  split
  · exact .unchanged _ _
  · exact ⟨_, rfl, hostReset_within s _ fun _ h => h⟩

/-- Every command completes within its blocks. -/
theorem exec_completesWithin (c : Instr) (s : State) : CompletesWithin s (blocksOf c) (exec c s) := by
  cases c with
  | admission => exact execAdmission_completesWithin s
  | configure => exact execConfigure_completesWithin s
  | enable => exact onRequest_completesWithin (by decide) ownEnable_within
  | withdraw => exact onRequest_completesWithin (by decide) ownWithdraw_within
  | status => exact onRequest_completesWithin (by decide) fun _ u => report_within (fun u => .status u.statusReport) u _
  | readConfig =>
    exact onRequest_completesWithin (by decide) fun _ u =>
      report_within (fun u => .config u.config.toList u.station.outcome u.station.locked) u _
  | readExchange => exact onRequest_completesWithin (by decide) fun i u => report_within (fun u => .exchange (u.exchangeReport i)) u _
  | readPort => exact onRequest_completesWithin (by decide) fun p u => report_within (fun u => .port (u.portReport p)) u _
  | readRoute => exact onRequest_completesWithin (by decide) fun x u => report_within (fun u => .route (u.routeReport x.1 x.2)) u _
  | readPeer => exact onRequest_completesWithin (by decide) fun i u => report_within (fun u => .peer (u.peerReport i)) u _
  | readVerdict => exact onRequest_completesWithin (by decide) fun w u => report_within (fun u => .verdict (u.verdictReport w)) u _
  | lookup => exact onRequest_completesWithin (by decide) fun x u => report_within (fun u => .lookup (u.lookupReport x.1 x.2)) u _
  | pin => exact onRequest_completesWithin (by decide) ownPin_within
  | flush => exact onRequest_completesWithin (by decide) ownFlush_within
  | portOffGraceful => exact (portOff_completesWithin s).1
  | portOffImmediate => exact (portOff_completesWithin s).2
  | portOn => exact onRequest_completesWithin (by decide) ownPortOn_within
  | resetPort => exact onRequest_completesWithin (by decide) resetPort_within
  | endExchange => exact onRequest_completesWithin (by decide) ownEnd_within
  | cancel => exact onRequest_completesWithin (by decide) ownCancel_within
  | hostReset => exact onRequest_completesWithin (by decide) fun _ u => hostReset_within u _ fun _ h => h
  | unknownRequest => exact execUnknownRequest_completesWithin s
  | hostLinkResetSequence => exact execHostLinkResetSequence_completesWithin s
  | powerOn straps pinAsserted => exact execPowerOn_completesWithin straps pinAsserted s
  | resetPinAsserted => exact execResetPinAsserted_completesWithin s
  | resetPinReleased straps => exact execResetPinReleased_completesWithin straps s
  | eepromLoadComplete image host => exact execEepromLoadComplete_completesWithin image host s
  | eepromReadTimeout host => exact execEepromReadTimeout_completesWithin host s
  | hostRequestArrival frame => exact execHostRequestArrival_completesWithin frame s
  | hostCreditArrival frame => exact execHostCreditArrival_completesWithin frame s
  | sendCreditReturn => exact execSendCreditReturn_completesWithin s
  | sendControlReply => exact execSendControlReply_completesWithin s
  | sendNotice => exact execSendNotice_completesWithin s
  | sendResult => exact execSendResult_completesWithin s
  | sendExchange p => exact execSendExchange_completesWithin p s
  | answerArrival p tag attempt payload => exact execAnswerArrival_completesWithin p tag attempt payload s
  | answerWaitExpiry i => exact execAnswerWaitExpiry_completesWithin i s
  | holdExpiry i => exact execHoldExpiry_completesWithin i s
  | traceTransmission p => exact execTraceTransmission_completesWithin p s
  | traceReplyArrival p tag attempt finding payload => exact execTraceReplyArrival_completesWithin p tag attempt finding payload s
  | traceWaitExpiry i => exact execTraceWaitExpiry_completesWithin i s
  | signalArriving p => exact execSignalArriving_completesWithin p s
  | signalLost p => exact execSignalLost_completesWithin p s
  | trainingWaitExpiry p => exact execTrainingWaitExpiry_completesWithin p s
  | linkOffer p identity grant reachList => exact execLinkOffer_completesWithin p identity grant reachList s
  | fabricCreditArrival p count => exact execFabricCreditArrival_completesWithin p count s
  | reach p reachList => exact execReach_completesWithin p reachList s
  | idleTick p => exact execIdleTick_completesWithin p s
  | damagedFrame p => exact execDamagedFrame_completesWithin p s
  | linkSilenceExpiry p => exact execLinkSilenceExpiry_completesWithin p s
  | portResetHoldExpiry p => exact execPortResetHoldExpiry_completesWithin p s
  | probeDue y p => exact execProbeDue_completesWithin y p s
  | probeSend p => exact execProbeSend_completesWithin p s
  | echo p target number => exact execEcho_completesWithin p target number s
  | probeWaitExpiry y p => exact execProbeWaitExpiry_completesWithin y p s
  | workItemTakenUp => exact execWorkItemTakenUp_completesWithin s
  | walkStep => exact execWalkStep_completesWithin s
  | entriesStep => exact execEntriesStep_completesWithin s
  | pairPhaseStep => exact execPairPhaseStep_completesWithin s
  | heldPhaseStep => exact execHeldPhaseStep_completesWithin s
  | rowFrameStart b => exact execRowFrameStart_completesWithin b s
  | lostArbitration => exact execLostArbitration_completesWithin s
  | bitError => exact execBitError_completesWithin s
  | rowFrameSentWhole => exact execRowFrameSentWhole_completesWithin s
  | sightingReceived sender state entries => exact execSightingReceived_completesWithin sender state entries s
  | withdrawReceived sender => exact execWithdrawReceived_completesWithin sender s
  | frameBrokenOff => exact execFrameBrokenOff_completesWithin s
  | lineHeldLow => exact execLineHeldLow_completesWithin s
  | cleared => exact execCleared_completesWithin s
  | driveRetryExpiry => exact execDriveRetryExpiry_completesWithin s
  | periodicSightingDue => exact execPeriodicSightingDue_completesWithin s
  | changeSightingDue => exact execChangeSightingDue_completesWithin s
  | peerEntryStale i => exact execPeerEntryStale_completesWithin i s
  | peerEntryExpired i => exact execPeerEntryExpired_completesWithin i s
  | clearHoldExpiry sw => exact execClearHoldExpiry_completesWithin sw s
  | staggerExpiry sw => exact execStaggerExpiry_completesWithin sw s

/-- Settles O1: `step` matches on the queue. -/
theorem stepsRunTheQueue : Obligations.StepsRunTheQueue := by
  refine ⟨fun c rest s h => by simp [step, h], fun s h => ⟨fun hp => ?_, fun hp => ?_⟩⟩ <;> simp [step, h, State.tick, hp]

/-- Settles O2. -/
theorem commandsAlwaysComplete : Obligations.CommandsAlwaysComplete := fun c s =>
  let ⟨t, ht, hw⟩ := exec_completesWithin c s
  ⟨t, ht, hw.pending⟩

/-- Settles O3. -/
theorem commandsKeepOtherBlocks : Obligations.CommandsKeepOtherBlocks := by
  intro c s t b hr ht hb
  obtain ⟨u, hu, hw⟩ := exec_completesWithin c s
  obtain rfl : u = t := by simpa [hu] using ht
  exact hw.only hr b hb

end Sys2Proof.Machine

namespace Sys2Proof.Machine
open Sys2Proof

/-! ### What a full reset leaves (R25, R42, R59, R77, R92, R127, R139, R142, R143, R152 to R156, R160) -/

section FullReset

variable (station : Station) (signals : Vector Bool 4) (pending : List Instr)

theorem State.afterFullReset_record (i : Slot) : (State.afterFullReset station signals pending).record i = ⟨0, none⟩ := by
  simp [State.record, State.afterFullReset, Exchanges.empty]

theorem State.afterFullReset_live (i : Slot) : (State.afterFullReset station signals pending).live i = none := by
  rw [State.live, State.afterFullReset_record]

theorem State.afterFullReset_phase (i : Slot) : (State.afterFullReset station signals pending).phase i = none := by
  rw [State.phase, State.afterFullReset_live, Option.map_none]

theorem State.afterFullReset_outstanding (p : PortId) : (State.afterFullReset station signals pending).outstanding p = [] := by
  simp [State.outstanding, State.afterFullReset, Exchanges.empty]

theorem State.afterFullReset_ready (p : PortId) : (State.afterFullReset station signals pending).ready p = [] := by
  simp [State.ready, State.afterFullReset, Exchanges.empty]

theorem State.afterFullReset_cacheSet (i : Fin 64) : (State.afterFullReset station signals pending).cacheSet i = CacheSet.empty := by
  simp [State.cacheSet, State.afterFullReset]

theorem State.afterFullReset_entryAt (pl : Place) : (State.afterFullReset station signals pending).entryAt pl = none := by
  rw [State.entryAt, State.afterFullReset_cacheSet]
  exact Vector.getElem_replicate _

theorem State.afterFullReset_port (p : PortId) :
    (State.afterFullReset station signals pending).port p = Port.afterReset signals[p] := by
  simp [State.port, State.afterFullReset]

theorem State.afterFullReset_cell (y : Nat) (p : PortId) :
    (State.afterFullReset station signals pending).cell y p = Cell.afterReset := by
  unfold State.cell
  split <;> simp [State.afterFullReset]

theorem State.afterFullReset_peer (i : StationId) : (State.afterFullReset station signals pending).peer i = none := by
  simp [State.peer, State.afterFullReset, RowView.afterReset]

theorem State.afterFullReset_ownCount (sw : Nat) : (State.afterFullReset station signals pending).ownCount sw = ⟨0, 0⟩ := by
  simp [State.ownCount, bySwitch, State.afterFullReset, RowView.afterReset]

theorem State.afterFullReset_verdict (sw : Nat) :
    (State.afterFullReset station signals pending).verdict sw = VerdictRecord.afterReset := by
  simp [State.verdict, bySwitch, State.afterFullReset, RowView.afterReset]

theorem State.afterFullReset_fullyReset : (State.afterFullReset station signals pending).FullyReset where
  time := rfl
  config := rfl
  records := State.afterFullReset_record _ _ _
  free := by simp only [State.afterFullReset, Exchanges.empty]
  order := rfl
  results := rfl
  outstanding := State.afterFullReset_outstanding _ _ _
  ready := State.afterFullReset_ready _ _ _
  entries := State.afterFullReset_entryAt _ _ _
  pointers i := by rw [State.afterFullReset_cacheSet]; exact ⟨rfl, rfl, rfl⟩
  ports p := by rw [State.afterFullReset_port]; rfl
  cells y _ p := by rw [State.afterFullReset_cell]; rfl
  work := rfl
  current := rfl
  phase := rfl
  frame := rfl
  fault := rfl
  times := ⟨rfl, rfl, rfl, rfl, rfl⟩
  marks := ⟨rfl, rfl, rfl⟩
  lastCounts := rfl
  peers := State.afterFullReset_peer _ _ _
  own sw _ := State.afterFullReset_ownCount _ _ _ sw
  verdicts sw _ := State.afterFullReset_verdict _ _ _ sw
  ingress := rfl
  freed := rfl
  credits := rfl
  replies := rfl
  notices := rfl
  run := rfl
  dropped := rfl

theorem configInRange_defaults : configInRange Config.defaults := by
  unfold configInRange
  decide +kernel

theorem State.afterFullReset_linkBounded : (State.afterFullReset station signals pending).LinkBounded := by
  have hbatch : creditBatch Config.defaults ≠ 0 := by decide +kernel
  constructor <;> simp [State.afterFullReset, HostLink.afterReset, hbatch]

theorem Port.afterReset_sound (signal : Bool) : (Port.afterReset signal).Sound := by
  constructor <;> simp [Port.afterReset, PortState.linked]

theorem State.afterFullReset_bounded : (State.afterFullReset station signals pending).Bounded where
  loadingPorts _ p := by rw [State.afterFullReset_port]; rfl
  loadingCells _ y _ p := by rw [State.afterFullReset_cell]; rfl
  config := configInRange_defaults
  ports p := by rw [State.afterFullReset_port]; exact Port.afterReset_sound _
  cells y _ p := by
    rw [State.afterFullReset_cell]
    constructor <;> simp [Cell.afterReset]

theorem State.afterFullReset_routesAgree : (State.afterFullReset station signals pending).RoutesAgree := by
  constructor <;> simp [State.afterFullReset_port, State.afterFullReset_cell, Port.afterReset, Cell.afterReset]

theorem State.afterFullReset_tableAgrees : (State.afterFullReset station signals pending).TableAgrees := by
  have hsend : ∀ i, (State.afterFullReset station signals pending).sendable i = none := fun i => by
    rw [State.sendable, State.afterFullReset_live]
  have hfree : (State.afterFullReset station signals pending).ex.free = List.finRange 512 := by
    simp only [State.afterFullReset, Exchanges.empty]
  constructor
  case free => simp [hfree, State.afterFullReset_live]
  case freeOnce => rw [hfree]; exact List.nodup_finRange 512
  case order =>
    simp only [State.slotOpen, State.afterFullReset_phase, Option.any_none, Bool.false_eq_true, iff_false]
    exact fun _ => List.not_mem_nil
  case results =>
    simp only [State.slotAnswered, State.afterFullReset_phase, Option.any_none, Bool.false_eq_true, iff_false]
    exact fun _ => List.not_mem_nil
  case outstanding => simp [State.slotPort, State.afterFullReset_phase, State.afterFullReset_outstanding]
  case ready => simp [hsend, State.afterFullReset_ready]
  case traces => simp [State.afterFullReset_port, Port.afterReset]
  case outstandingOnce => simp [State.afterFullReset_outstanding]
  case readyOnce => simp [State.afterFullReset_ready]
  case tracesOnce => simp [State.afterFullReset_port, Port.afterReset]
  all_goals exact List.nodup_nil

theorem State.afterFullReset_cacheAgrees : (State.afterFullReset station signals pending).CacheAgrees := by
  constructor <;> simp [State.afterFullReset_entryAt, State.afterFullReset_live]

theorem State.afterFullReset_verdictsSound : (State.afterFullReset station signals pending).VerdictsSound := by
  intro v hv
  simp only [State.afterFullReset, RowView.afterReset, Vector.toList_replicate] at hv
  exact List.eq_of_mem_replicate hv ▸ VerdictRecord.afterReset_sound

theorem State.afterFullReset_ownCounted : (State.afterFullReset station signals pending).OwnCounted := by
  intro sw _
  rw [State.afterFullReset_ownCount]
  have hcable : ∀ p, (State.afterFullReset station signals pending).isCable sw p = false := fun p => by
    simp [State.isCable, State.afterFullReset_port, Port.afterReset]
  rw [State.countCables, List.filter_eq_nil_iff.2 (by simp [hcable])]
  simp [hcable]

/-- Every invariant holds after a full reset whose station record is that of LOADING (R160). -/
theorem State.afterFullReset_sound (hstate : station.state = .loading)
    (hload : station.loadBegan.isSome = !station.pinAsserted) :
    (State.afterFullReset station signals pending).Sound where
  link := State.afterFullReset_linkBounded _ _ _
  bounded := State.afterFullReset_bounded _ _ _
  routes := State.afterFullReset_routesAgree _ _ _
  table := State.afterFullReset_tableAgrees _ _ _
  cache := State.afterFullReset_cacheAgrees _ _ _
  exchanges i e h := by rw [State.afterFullReset_live] at h; cases h
  verdicts := State.afterFullReset_verdictsSound _ _ _
  peers := ⟨State.afterFullReset_peer _ _ _ _, fun i e h => by rw [State.afterFullReset_peer] at h; cases h⟩
  own := State.afterFullReset_ownCounted _ _ _
  work := by constructor <;> simp [State.afterFullReset, Failover.empty]
  row := by constructor <;> simp [State.afterFullReset, RowBus.afterReset, hstate]
  station := by
    constructor <;> simp [State.afterFullReset, Exchanges.empty, hstate, hload]
    cases hb : station.loadBegan <;> simp_all

end FullReset

/-- Settles O4. -/
theorem resetStateIsFullReset : Obligations.ResetStateIsFullReset := by
  refine ⟨State.afterFullReset_fullyReset _ _ _, rfl, fun p => ?_, rfl, rfl⟩
  rw [State.reset, State.afterFullReset_port]
  simp [Port.afterReset]

/-- Settles O59. -/
theorem resetStateIsSound : Obligations.ResetStateIsSound := State.afterFullReset_sound _ _ _ rfl rfl

/-- No reset changes the levels that the receivers report. -/
theorem State.sameSignals_afterFullReset (s : State) (station : Station) (pending : List Instr) :
    s.sameSignals (State.afterFullReset station s.signals pending) := by
  intro p
  rw [State.afterFullReset_port]
  simp [Port.afterReset, State.signals, State.port]

/-- Settles O5: each command is `afterFullReset` with its own station record. -/
theorem fullResets : Obligations.FullResets := by
  intro straps s
  have hreset := fun station => State.afterFullReset_fullyReset station s.signals s.pending
  have hsig := fun station => s.sameSignals_afterFullReset station s.pending
  refine ⟨⟨_, rfl, hreset _, hsig _, rfl, rfl⟩, ⟨_, rfl, hreset _, hsig _, rfl, rfl⟩, fun hp => ?_, fun hp => ?_⟩
  · refine ⟨s.fullResetHeld ⟨s.station.state == .loading && s.station.resetKind.power, true, false⟩,
      by simp [exec, execResetPinAsserted, hp], hreset _, hsig _, rfl, ?_⟩
    by_cases hl : s.station.state = .loading <;> simp [State.fullResetHeld, State.afterFullReset, hl]
  · exact ⟨s.fullResetBegun straps s.station.resetKind, by simp [exec, execResetPinReleased, hp], hreset _, hsig _, rfl, rfl⟩

/-! ### Clamping and the load (R162, R163) -/

theorem item_eq_getElem (v : Config.Settings) (n : Nat) (h : 1 ≤ n ∧ n ≤ 26) : item v n = v[n - 1]'(by omega) := by
  simp [item, h]

theorem Config.Settings.ext_item {v w : Config.Settings} (h : ∀ n, 1 ≤ n → n ≤ 26 → item v n = item w n) : v = w := by
  refine Vector.ext fun i hi => ?_
  simpa [item_eq_getElem _ (i + 1) ⟨by omega, by omega⟩] using h (i + 1) (by omega) (by omega)

theorem getElem_clampRanges (v : Config.Settings) (i : Nat) (hi : i < 26) :
    (clampRanges v)[i] = clampTo Config.itemTable[i] v[i] := by
  simp [clampRanges]

/-- The second step of R163 lowers QUIET LATENCY alone. -/
theorem getElem_clampAll (v : Config.Settings) (i : Nat) (hi : i < 26) :
    (clampAll v)[i] = if i = 9 then min (clampRanges v)[9] (clampRanges v)[8] else (clampRanges v)[i] := by
  have hlt : slowLatency (clampRanges v) < quietLatency (clampRanges v) ↔ (clampRanges v)[8] < (clampRanges v)[9] := Iff.rfl
  have hslow : slowLatency (clampRanges v) = (clampRanges v)[8] := rfl
  dsimp only [clampAll]
  split
  next h =>
    rw [hlt] at h
    rw [Vector.getElem_set]
    by_cases h9 : i = 9
    · rw [if_pos h9.symm, if_pos h9, min_eq_right h.le, hslow]
    · rw [if_neg (Ne.symm h9), if_neg h9]
  next h =>
    rw [hlt] at h
    by_cases h9 : i = 9
    · subst h9
      rw [if_pos rfl, min_eq_left (by omega)]
    · rw [if_neg h9]

/-- Settles O8. -/
theorem clampingTakesTheNearerBound : Obligations.ClampingTakesTheNearerBound := by
  intro v n h
  dsimp only
  rw [item_eq_getElem _ n h, item_eq_getElem _ n h, item_eq_getElem _ 9 (by decide), getElem_clampAll, getElem_clampAll]
  by_cases h10 : n = 10
  · subst h10
    simp [clampTo, getElem_clampRanges]
  · have h9 : n - 1 ≠ 9 := by omega
    rw [if_neg h9, if_neg h10, getElem_clampRanges]
    rfl

/-- Settles O6. -/
theorem loadOutcomes : Obligations.LoadOutcomes := by
  refine ⟨by decide, fun data host => ⟨fun h => ?_, fun acks h => ?_⟩, rfl, fun image => ⟨fun h => ?_, fun h h1 => ?_,
    fun h h1 h2 => ?_, fun h h1 h2 => ⟨?_, fun hi => ?_, fun ⟨n, hn1, hn2, hi⟩ => ?_⟩⟩⟩
  · simp [eepromCommand, eepromRead, Config.imageLength, h]
  · have hnot : ¬ (acks = [true, true, true] ∧ data.length = eepromRead.count) := by
      rintro ⟨rfl, hd⟩
      have : data.length = 64 := hd
      simp_all
    simp [eepromCommand, hnot]
  · simp [loadImage, Config.imageLength, h]
  · simp [loadImage, Config.imageLength, h, h1]
  · simp [loadImage, Config.imageLength, h, h1, h2]
  · simp only [loadImage, Config.imageLength, h, h1, h2, ne_eq, not_true_eq_false, if_false]
    split
    next hc => exact hc.symm
    · rfl
  · simp [loadImage, Config.imageLength, h, h1, h2, Config.Settings.ext_item hi]
  · have hc : clampAll (imageItems image) ≠ imageItems image := fun hc => hi (by rw [hc])
    simp [loadImage, Config.imageLength, h, h1, h2, hc]

/-! ### The bounds of the work list (R92) -/

/-- A list in which each of the four ports has at most one item of a kind holds at most four of that kind. -/
theorem length_filter_anyPort_le {α : Type} (l : List α) (test : PortId → α → Bool) (k : Nat)
    (h : ∀ p, (l.filter (test p)).length ≤ k) : (l.filter (fun w => allPorts.any (test · w))).length ≤ 4 * k := by
  have hsum : ∀ ps : List PortId, (l.filter (fun w => ps.any (test · w))).length ≤ ps.length * k := by
    intro ps
    induction ps with
    | nil => simp
    | cons p ps ih =>
      have hle : (l.filter (fun w => (p :: ps).any (test · w))).length ≤
          (l.filter (test p)).length + (l.filter (fun w => ps.any (test · w))).length := by
        simp only [← List.countP_eq_length_filter, List.any_cons]
        clear ih h
        induction l with
        | nil => simp
        | cons x l ih => simp only [List.countP_cons]; cases test p x <;> simp <;> split <;> omega
      have hp := h p
      simp only [List.length_cons, Nat.add_mul]
      omega
  simpa [allPorts] using hsum allPorts

/-- The cell-loss items for a port name different targets. -/
theorem State.WorkSound.length_cellLossOn_le {s : State} (h : s.WorkSound) (p : PortId) :
    (s.failover.work.filter (·.isCellLossOn p)).length ≤ 63 := by
  have hsub : s.failover.work.filter (·.isCellLossOn p) ⊆ allTargets.map (fun t => .cellLoss t p) := by
    intro w hw
    obtain ⟨hmem, htest⟩ := List.mem_filter.1 hw
    cases w with
    | cellLoss t q =>
      obtain rfl : q = p := by simpa [WorkItem.isCellLossOn] using htest
      exact List.mem_map.2 ⟨t, h.cells t q hmem, rfl⟩
    | portLoss q horizon => simp [WorkItem.isCellLossOn] at htest
    | placement t => simp [WorkItem.isCellLossOn] at htest
  simpa [allTargets] using ((h.once.filter _).subperm hsub).length_le

theorem State.WorkSound.length_placements_le {s : State} (h : s.WorkSound) :
    (s.failover.work.filter (fun w => w matches .placement _)).length ≤ 63 := by
  have hsub : s.failover.work.filter (fun w => w matches .placement _) ⊆ allTargets.map (fun t => .placement t) := by
    intro w hw
    obtain ⟨hmem, htest⟩ := List.mem_filter.1 hw
    cases w with
    | placement t => exact List.mem_map.2 ⟨t, h.targets t hmem, rfl⟩
    | portLoss q horizon => simp at htest
    | cellLoss t q => simp at htest
  simpa [allTargets] using ((h.once.filter _).subperm hsub).length_le

/-- Every item is of one of the three kinds. -/
theorem length_work_le (l : List WorkItem) :
    l.length ≤ (l.filter (fun w => allPorts.any (w.isPortLoss ·))).length +
      (l.filter (fun w => allPorts.any (w.isCellLossOn ·))).length + (l.filter (fun w => w matches .placement _)).length := by
  have hport : ∀ p : PortId, p ∈ allPorts := by decide
  induction l with
  | nil => simp
  | cons w l ih =>
    have hone : allPorts.any (w.isPortLoss ·) = true ∨ allPorts.any (w.isCellLossOn ·) = true ∨ (w matches .placement _) = true := by
      cases w with
      | portLoss p _ => exact .inl (List.any_eq_true.2 ⟨p, hport p, by simp [WorkItem.isPortLoss]⟩)
      | cellLoss _ p => exact .inr (.inl (List.any_eq_true.2 ⟨p, hport p, by simp [WorkItem.isCellLossOn]⟩))
      | placement _ => exact .inr (.inr rfl)
    simp only [← List.countP_eq_length_filter, List.countP_cons, List.length_cons] at ih ⊢
    rcases hone with h | h | h <;> rw [if_pos h] <;> (repeat' split) <;> omega

/-- Settles O60. -/
theorem workListIsBounded : Obligations.WorkListIsBounded := by
  intro s h
  have hport := length_filter_anyPort_le s.failover.work (fun p w => w.isPortLoss p) 1 h.oncePerPort
  have hcell := length_filter_anyPort_le s.failover.work (fun p w => w.isCellLossOn p) 63 h.length_cellLossOn_le
  have hplace := h.length_placements_le
  have hall := length_work_le s.failover.work
  refine ⟨hport, hcell, hplace, ?_⟩
  omega

end Sys2Proof.Machine

namespace Sys2Proof.Machine
open Sys2Proof

/-! ### Frames to the host (R153 to R155) -/

theorem State.linkUp_iff (s : State) : s.linkUp = true ↔ s.station.state ≠ .loading := by simp [State.linkUp]

theorem HostLink.Ready.mayStart {l : HostLink} (h : l.Ready) : l.mayStart = true := by
  have hno := h.noReturn
  have hcr := h.credit
  simp only [HostLink.mayStart, HostLink.creditDue, Bool.and_eq_true, Bool.not_eq_true', Bool.and_eq_false_iff,
    decide_eq_true_eq, decide_eq_false_iff_not]
  refine ⟨?_, by omega⟩
  cases hr : l.returnDue
  · exact .inl rfl
  · exact .inr fun hf => hno ⟨hr, hf⟩

theorem HostLink.mayStart_eq_false {l : HostLink} (h : (l.returnDue = true ∧ 1 ≤ l.freed) ∨ l.credits = 0) : l.mayStart = false := by
  rcases h with ⟨hr, hf⟩ | hc
  · simp [HostLink.mayStart, HostLink.creditDue, hr, hf]
  · simp [HostLink.mayStart, hc]

theorem State.noticeFirst_iff (s : State) : s.noticeFirst = true ↔ s.ex.results = [] ∨ 8 ≤ s.link.resultRun := by
  rw [State.noticeFirst, Bool.or_eq_true, List.isEmpty_iff, decide_eq_true_iff]
  rfl

theorem State.noticeFirst_eq_false_iff (s : State) : s.noticeFirst = false ↔ s.ex.results ≠ [] ∧ s.link.resultRun < 8 := by
  rw [← Bool.not_eq_true, State.noticeFirst_iff, not_or, Nat.not_le]

/-- Settles O11. -/
theorem hostBoundFramesGoInOrder : Obligations.HostBoundFramesGoInOrder := by
  refine ⟨fun s => ⟨fun h => ?_, fun h => ?_, fun h => ?_⟩, fun s hup => ⟨fun hr hf => ?_, fun r rest hready hrep => ?_,
    fun n rest hready hrep hnot hturn => ?_⟩⟩
  · have hno : (s.linkUp && s.link.creditDue) = false := by
      rcases h with h | h | h <;> simp [State.linkUp, HostLink.creditDue, h]
    simp [exec, execSendCreditReturn, hno]
  · simp only [exec, execSendControlReply]
    rcases h with h | h | h | h
    · simp [State.linkUp, h]
    · simp [HostLink.mayStart_eq_false (.inl h)]
    · simp [HostLink.mayStart_eq_false (.inr h)]
    · simp [h]
  · simp only [exec, execSendNotice]
    rcases h with h | h | h | h | ⟨h, h'⟩ | h
    · simp [State.linkUp, h]
    · simp [HostLink.mayStart_eq_false (.inl h)]
    · simp [HostLink.mayStart_eq_false (.inr h)]
    · simp [h]
    · simp [s.noticeFirst_eq_false_iff.2 ⟨h, h'⟩]
    · simp [h]
  · simp [exec, execSendCreditReturn, (State.linkUp_iff s).2 hup, HostLink.creditDue, hr, hf, State.setLink]
  · simp [exec, execSendControlReply, (State.linkUp_iff s).2 hup, hready.mayStart, hrep, State.setLink, HostLink.send]
  · have hfirst : s.noticeFirst = true := s.noticeFirst_iff.2 hturn
    simp [exec, execSendNotice, (State.linkUp_iff s).2 hup, hready.mayStart, hrep, hnot, hfirst, State.setLink, HostLink.send]

/-! ### A freed slot (R1, R3, R10, R13) -/

theorem State.endTableWait_link (s : State) :
    s.endTableWait.link = { s.link with headWait := if s.link.headWait = .tableFull then .none else s.link.headWait } := by
  unfold State.endTableWait
  split
  next h => simp [State.setLink, h]
  next h => simp [h]

theorem State.freeSlot_ex (s : State) (i : Slot) : (s.freeSlot i).ex =
    { s.ex with slots := s.ex.slots.set i ⟨(s.record i).generation + 1, none⟩, free := s.ex.free ++ [i] } := by
  simp [State.freeSlot, State.setFree, State.setRec]

theorem State.freeSlot_link (s : State) (i : Slot) : (s.freeSlot i).link =
    { s.link with headWait := if s.link.headWait = .tableFull then .none else s.link.headWait } := by
  rw [State.freeSlot, State.endTableWait_link]
  rfl

theorem State.record_congr {s t : State} (h : t.ex.slots = s.ex.slots) : t.record = s.record := by
  funext i
  simp only [State.record, h]

theorem State.record_freeSlot (s : State) (i j : Slot) :
    (s.freeSlot i).record j = if i = j then ⟨(s.record i).generation + 1, none⟩ else s.record j := by
  have h : (s.freeSlot i).record = (s.setRec i ⟨(s.record i).generation + 1, none⟩).record :=
    State.record_congr (by rw [State.freeSlot_ex]; rfl)
  rw [h, State.record_setRec]

/-- Settles O12. -/
theorem resultsAreSentAndFreed : Obligations.ResultsAreSentAndFreed := by
  refine ⟨fun s h => ?_, fun s i rest e status hup hready hrep hturn hres hlive hph => ?_⟩
  · simp only [exec, execSendResult]
    rcases h with h | h | h | h | ⟨h, h'⟩ | h
    · simp [State.linkUp, h]
    · simp [HostLink.mayStart_eq_false (.inl h)]
    · simp [HostLink.mayStart_eq_false (.inr h)]
    · simp [h]
    · simp [h, s.noticeFirst_iff.2 (.inr h')]
    · simp [h]
  · have hgo : (s.link.notices.isEmpty || !s.noticeFirst) = true := by
      rcases hturn with h | h
      · simp [h]
      · simp [s.noticeFirst_eq_false_iff.2 ⟨by simp [hres], h⟩]
    let u := (s.setLink ({ s.link with resultRun := s.link.resultRun + 1 }.send (.result (resultFrame e status)))).setResults rest
    have hrec : u.record = s.record := State.record_congr rfl
    have hex : (u.freeSlot i).ex = _ := State.freeSlot_ex u i
    refine ⟨u.freeSlot i, ?_, ?_, ?_, fun j hj => ?_, ?_⟩
    · simp [exec, execSendResult, (State.linkUp_iff s).2 hup, hready.mayStart, hrep, hgo, hres, hlive, hph, u]
    · rw [State.freeSlot_link]; rfl
    · rw [State.record_freeSlot, hrec, if_pos rfl]
    · rw [State.record_freeSlot, hrec, if_neg (Ne.symm hj)]
    · rw [hex]; exact ⟨rfl, rfl, rfl, rfl, rfl⟩

/-! ### A booking request at the ingress head (R12, R13, R32) -/

theorem State.BookingAtHead.headFree {s : State} {b : Booking} {rest : List HostFrame} (h : s.BookingAtHead b rest) :
    s.headFree = true := by
  simp [State.headFree, State.linkUp, h.up, h.free]

theorem State.BookingAtHead.execAdmission_eq {s : State} {b : Booking} {rest : List HostFrame} (h : s.BookingAtHead b rest) :
    execAdmission s = match s.ex.free with
      | [] => .next (s.setHeadWait .tableFull)
      | i :: free =>
        match s.refusal b with
        | some status => .next (s.refuse i free b status)
        | none =>
          match s.takeEntry b.session b.target.toNat with
          | none => .next (s.setHeadWait (.setFull (setIndex b.session b.target.toNat)))
          | some s1 => .next (s1.enter i free b).popIngress.close := by
  simp only [execAdmission, h.headFree, h.head, if_true] <;> rfl

/-- A miss in a set whose four ways hold pinned entries chooses no way. -/
theorem CacheSet.chooseWay_eq_none {x : CacheSet} (h : ∀ w : Fin 4, ∃ e, x.ways[w] = some e ∧ 0 < e.count) : x.chooseWay = none := by
  have hsome : allWays.find? (fun w => x.ways[w].isNone) = none := List.find?_eq_none.2 fun w _ => by
    obtain ⟨e, he, -⟩ := h w
    simp [he]
  have hidle : ∀ w, x.idleAt w = false := fun w => by
    obtain ⟨e, he, hpos⟩ := h w
    simp [CacheSet.idleAt, he, Entry.isIdle, Nat.pos_iff_ne_zero.1 hpos]
  have hfind : allWays.find? x.idleAt = none := List.find?_eq_none.2 fun w _ => by simp [hidle]
  rw [CacheSet.chooseWay, hsome]
  simp [hidle, hfind]

/-- Settles O14. -/
theorem requestsWaitForSlotOrWay : Obligations.RequestsWaitForSlotOrWay := by
  intro s b rest h
  refine ⟨fun hfree => ?_, fun hfree href hmiss hpinned => ?_⟩
  · simp only [exec, h.execAdmission_eq, hfree]
    rfl
  · obtain ⟨i, free, hcons⟩ := List.exists_cons_of_ne_nil hfree
    have htake : s.takeEntry b.session b.target.toNat = none := by
      simp [State.takeEntry, hmiss, CacheSet.chooseWay_eq_none (x := s.cacheSet (setIndex b.session b.target.toNat)) hpinned]
    simp only [exec, h.execAdmission_eq, hcons, href, htake]
    rfl

/-- R12's tests in order, as the model's `refusal` makes them. -/
theorem State.refusal_eq_some {s : State} {b : Booking} {status : ResultStatus}
    (h : if s.station.state ≠ .active then status = .withdrawn
      else if b.payload.length = 0 ∨ 512 < b.payload.length then status = .refused .tooLong
      else if b.cls ≠ 1#8 ∧ b.cls ≠ 2#8 then status = .refused .badClass
      else if 63 < b.target.toNat then status = .refused .badTarget
      else (∀ p : PortId, (s.cell b.target.toNat p).state = .absent) ∧ status = .noRoute) : s.refusal b = some status := by
  unfold State.refusal
  split at h
  next hst => rw [if_pos hst, h]
  next hst =>
    rw [if_neg hst]
    have hlen : (b.payload.length < 1 ∨ Config.payloadLimit < b.payload.length) ↔
        (b.payload.length = 0 ∨ 512 < b.payload.length) := by
      rw [Nat.lt_one_iff]; rfl
    rw [if_congr hlen rfl rfl]
    split at h
    next hl => rw [if_pos hl, h]
    next hl =>
      rw [if_neg hl]
      have hcls : ((!classKnown b.cls) = true) ↔ (b.cls ≠ 1#8 ∧ b.cls ≠ 2#8) := by simp [classKnown]
      rw [if_congr hcls rfl rfl]
      split at h
      next hc => rw [if_pos hc, h]
      next hc =>
        rw [if_neg hc]
        split at h
        next ht => rw [if_pos ht, h]
        next ht =>
          obtain ⟨habs, rfl⟩ := h
          rw [if_neg ht, if_pos (by simp [State.known, habs])]

/-- What a refusal leaves (R13). -/
theorem State.refuse_ex (s : State) (i : Slot) (free : List Slot) (b : Booking) (status : ResultStatus) :
    (s.refuse i free b status).ex.free = free ∧ (s.refuse i free b status).ex.results = s.ex.results ++ [i] ∧
    (s.refuse i free b status).ex.order = s.ex.order ∧ (s.refuse i free b status).ex.outstanding = s.ex.outstanding ∧
    (s.refuse i free b status).ex.ready = s.ex.ready := by
  simp only [State.refuse, State.popIngress_ex]
  exact ⟨rfl, rfl, rfl, rfl, rfl⟩

theorem State.record_modLive (s : State) (i j : Slot) (f : Exchange → Exchange) :
    (s.modLive i f).record j = if i = j then { s.record i with live := (s.live i).map f } else s.record j := by
  rw [State.modLive, State.record_setRec]

theorem State.record_answer (s : State) (i j : Slot) (status : ResultStatus) (payload : List Byte) :
    (s.answer i status payload).record j = if i = j then { s.record i with live := (s.live i).map (fun e =>
      { e with phase := .answered status, payload := if status = .completed then payload else [] }) } else s.record j := by
  have h : (s.answer i status payload).record = (s.modLive i (fun e =>
      { e with phase := .answered status, payload := if status = .completed then payload else [] })).record := State.record_congr rfl
  rw [h, State.record_modLive]

theorem State.record_fillSlot (s : State) (i j : Slot) (free : List Slot) (e : Exchange) :
    (s.fillSlot i free e).record j = if i = j then ⟨(s.record i).generation, some e⟩ else s.record j := by
  have h : (s.fillSlot i free e).record = (s.setRec i { s.record i with live := some e }).record := State.record_congr rfl
  rw [h, State.record_setRec]

theorem State.record_refuse (s : State) (i j : Slot) (free : List Slot) (b : Booking) (status : ResultStatus) :
    (s.refuse i free b status).record j = if i = j then ⟨(s.record i).generation, some { b.exchange (.waiting .firstSend) with
      phase := .answered status, payload := [] }⟩ else s.record j := by
  have h : (s.refuse i free b status).record = ((s.fillSlot i free (b.exchange (.waiting .firstSend))).answer i status []).record :=
    State.record_congr (by simp [State.refuse])
  rw [h, State.record_answer]
  by_cases hij : i = j
  · simp [hij, State.live, State.record_fillSlot]
  · simp [hij, State.record_fillSlot]

theorem State.refuse_link {s : State} {f : HostFrame} {rest : List HostFrame} (h : s.link.ingress = f :: rest) (i : Slot)
    (free : List Slot) (b : Booking) (status : ResultStatus) : (s.refuse i free b status).link = s.poppedLink rest := by
  have hlink : ((s.fillSlot i free (b.exchange (.waiting .firstSend))).answer i status []).link = s.link := by simp
  have hcfg : ((s.fillSlot i free (b.exchange (.waiting .firstSend))).answer i status []).config = s.config := by simp
  rw [State.refuse, State.popIngress_link (hlink ▸ h), State.poppedLink, hlink, hcfg]
  rfl

/-- Settles O13. -/
theorem refusedRequestsAreAnswered : Obligations.RefusedRequestsAreAnswered := by
  intro s b rest i free status h hfree hstatus
  obtain ⟨hf, hres, hord, hout, hready⟩ := s.refuse_ex i free b status
  refine ⟨s.refuse i free b status, ?_, ?_, fun j hj => ?_, hf, hres, hord, hout, hready, by simp, by simp,
    State.refuse_link h.head _ _ _ _⟩
  · simp only [exec, h.execAdmission_eq, hfree, State.refusal_eq_some hstatus]
  · rw [State.record_refuse, if_pos rfl]; rfl
  · rw [State.record_refuse, if_neg (Ne.symm hj)]

/-! ### The tree pointers and the replacement rule (R30, R31) -/

theorem CacheSet.use_ways (x : CacheSet) (w : Fin 4) : (x.use w).ways = x.ways := by
  unfold CacheSet.use
  (repeat' split) <;> rfl

/-- The first way of the set that passes a test is the lowest that does. -/
theorem find_allWays_eq_some {test : Fin 4 → Bool} {w : Fin 4} (h : allWays.find? test = some w) :
    test w = true ∧ ∀ v, test v = true → w ≤ v := by
  refine ⟨List.find?_some h, fun v hv => ?_⟩
  obtain ⟨-, before, after, hsplit, hbefore⟩ := List.find?_eq_some_iff_append.1 h
  have hsorted : (before ++ w :: after).Pairwise (· < ·) := hsplit ▸ by decide
  have hmem : v ∈ before ++ w :: after := hsplit ▸ (by decide : ∀ v : Fin 4, v ∈ allWays) v
  rcases List.mem_append.1 hmem with hv' | hv'
  · have := hbefore v hv'
    simp [hv] at this
  · rcases List.mem_cons.1 hv' with rfl | hv'
    · exact le_rfl
    · exact ((List.pairwise_cons.1 (List.pairwise_append.1 hsorted).2.1).1 v hv').le

theorem find_allWays_eq_none {test : Fin 4 → Bool} : allWays.find? test = none ↔ ∀ v, ¬ test v = true := by
  rw [List.find?_eq_none]
  exact ⟨fun h v => h v ((by decide : ∀ v : Fin 4, v ∈ allWays) v), fun h v _ => h v⟩

theorem CacheSet.idleAt_iff (x : CacheSet) (w : Fin 4) : x.idleAt w = true ↔ ∃ e, x.ways[w] = some e ∧ e.count = 0 := by
  cases h : x.ways[w] <;> simp [CacheSet.idleAt, h, Entry.isIdle_eq_true]

/-- Settles O16: the pointers way by way, and the replacement by its three tests in order. -/
theorem replacementRule : Obligations.ReplacementRule := by
  refine ⟨fun x w => ⟨?_, x.use_ways w, ?_, ?_⟩, fun x => ?_⟩
  · match w with
    | 0 | 1 | 2 | 3 => simp [CacheSet.use, CacheSet.treeVictim] <;> split <;> decide
  · match w with
    | 0 | 1 | 2 | 3 => rfl
  · match w with
    | 0 | 1 | 2 | 3 => simp [CacheSet.use]
  · have hinvalid : ∀ w : Fin 4, x.ways[w].isNone = true ↔ x.ways[w] = none := fun w => Option.isNone_iff_eq_none
    simp only [← CacheSet.idleAt_iff, CacheSet.chooseWay]
    cases hfind : allWays.find? (fun w => x.ways[w].isNone) with
    | some w =>
      obtain ⟨hw, hlow⟩ := find_allWays_eq_some hfind
      have hw' := (hinvalid w).1 hw
      refine ⟨fun v hv => ?_, by simpa using fun h => absurd hw' (h w)⟩
      obtain rfl : w = v := by simpa using hv
      exact .inl ⟨hw', fun v hv => hlow v ((hinvalid v).2 hv)⟩
    | none =>
      have hall : ∀ v : Fin 4, ¬ x.ways[v] = none := fun v hv => find_allWays_eq_none.1 hfind v ((hinvalid v).2 hv)
      dsimp only
      by_cases hvictim : x.idleAt x.treeVictim = true
      · rw [if_pos hvictim]
        refine ⟨fun v hv => .inr (.inl ⟨hall, hvictim, by simpa using hv.symm⟩), by simpa using fun _ => ⟨_, hvictim⟩⟩
      · rw [if_neg hvictim]
        refine ⟨fun v hv => ?_, ?_⟩
        · obtain ⟨hv1, hv2⟩ := find_allWays_eq_some hv
          exact .inr (.inr ⟨hall, hvictim, hv1, hv2⟩)
        · rw [find_allWays_eq_none]
          exact ⟨fun h => ⟨hall, h⟩, fun h => h.2⟩

end Sys2Proof.Machine

namespace Sys2Proof.Machine
open Sys2Proof

/-! ### Numbers as bytes and as bits, most significant first -/

theorem foldl_bytesOf (n x a : Nat) :
    (bytesOf n x).foldl (fun a b => 256 * a + b.toNat) a = a * 256 ^ n + x % 256 ^ n := by
  induction n generalizing a with
  | zero => simp [bytesOf, Nat.mod_one]
  | succ n ih =>
    have hmod : x % 256 ^ (n + 1) = x % 256 ^ n + 256 ^ n * (x / 256 ^ n % 256) := Nat.mod_pow_succ
    rw [bytesOf, List.foldl_cons, ih, BitVec.toNat_ofNat, hmod]
    ring

/-- A number within n bytes is read back from them. -/
theorem bytesVal_bytesOf {n x : Nat} (h : x < 256 ^ n) : bytesVal (bytesOf n x) = x := by
  rw [bytesVal, foldl_bytesOf, Nat.mod_eq_of_lt h]
  simp

@[simp] theorem length_bytesOf (n x : Nat) : (bytesOf n x).length = n := by
  induction n with
  | zero => rfl
  | succ n ih => simp [bytesOf, ih]

theorem foldl_bitsOf (n x a : Nat) : (bitsOf n x).foldl (fun a b => 2 * a + b.toNat) a = a * 2 ^ n + x % 2 ^ n := by
  induction n generalizing a with
  | zero => simp [bitsOf, Nat.mod_one]
  | succ n ih =>
    rw [bitsOf, List.foldl_cons, ih, Nat.toNat_testBit, Nat.mod_pow_succ, Nat.pow_succ]
    ring

/-- A number within n bits is read back from them. -/
theorem bitsVal_bitsOf {n x : Nat} (h : x < 2 ^ n) : bitsVal (bitsOf n x) = x := by
  rw [bitsVal, foldl_bitsOf, Nat.mod_eq_of_lt h]
  simp

@[simp] theorem length_bitsOf (n x : Nat) : (bitsOf n x).length = n := by
  induction n with
  | zero => rfl
  | succ n ih => simp [bitsOf, ih]

/-! ### Requests that are refused or answered (R157) -/

/-- The frame at the ingress head leaves the queue, in the words of the statements. -/
theorem State.popIngress_eq {s : State} {f : HostFrame} {rest : List HostFrame} (h : s.link.ingress = f :: rest) :
    s.popIngress = s.setLink (s.poppedLink rest) := by
  rw [← State.popIngress_link h]
  rfl

theorem State.popIngress_pushReply_eq {s : State} {f : HostFrame} {rest : List HostFrame} (h : s.link.ingress = f :: rest)
    (r : Reply) : s.popIngress.pushReply r = s.setLink (s.answeredLink rest r) := by
  rw [State.popIngress_eq h]
  rfl

theorem State.RequestAtHead.badIndex_eq {s : State} {code : Byte} {args : List Byte} {rest : List HostFrame}
    (h : s.RequestAtHead code args rest) {α : Type} {read : List Byte → Option α} (hread : read args = none) (body : ReplyBody)
    (owner : α → State → Answered) :
    s.takeControl code args body read owner = s.setLink (s.answeredLink rest ⟨code, .badIndex, body⟩) := by
  simp only [State.takeControl, hread]
  exact State.popIngress_pushReply_eq h.head _

theorem State.RequestAtHead.onRequest_badIndex {s : State} {code : Byte} {args : List Byte} {rest : List HostFrame}
    (h : s.RequestAtHead code args rest) {α : Type} {read : List Byte → Option α} (hread : (read args).isSome = false)
    (owner : α → State → Answered) :
    s.onRequest code read owner = .next (s.setLink (s.answeredLink rest ⟨code, .badIndex, .none⟩)) := by
  rw [Option.isSome_eq_false_iff, Option.isNone_iff_eq_none] at hread
  simp only [State.onRequest, h.controlHead_eq, if_true, h.badIndex_eq hread]

/-- A request that its owner refuses with a status changes nothing but the host link. -/
theorem State.RequestAtHead.onRequest_refused {s : State} {code : Byte} {args : List Byte} {rest : List HostFrame}
    (h : s.RequestAtHead code args rest) {α : Type} {read : List Byte → Option α} {x : α} (hread : read args = some x)
    {owner : α → State → Answered} {status : ReplyStatus} {body : ReplyBody}
    (howner : owner x s.popIngress = ⟨s.popIngress, status, body⟩) :
    s.onRequest code read owner = .next (s.setLink (s.answeredLink rest ⟨code, status, body⟩)) := by
  rw [h.onRequest_eq hread, howner, State.popIngress_pushReply_eq h.head]

/-- A reading request reports the state whose head has left the ingress queue. -/
theorem State.RequestAtHead.onRequest_report {s : State} {code : Byte} {args : List Byte} {rest : List HostFrame}
    (h : s.RequestAtHead code args rest) {α : Type} {read : List Byte → Option α} {x : α} (hread : read args = some x)
    (report : α → State → ReplyBody) :
    s.onRequest code read (fun x u => doneWith (report x u) u) =
      .next (s.setLink (s.answeredLink rest ⟨code, .done, report x { s with link := s.poppedLink rest }⟩)) := by
  rw [h.onRequest_refused hread (status := .done) (body := report x s.popIngress) rfl, State.popIngress_eq h.head]
  rfl

theorem argsNone_eq_none {args : List Byte} (h : args.isEmpty = false) : (argsNone args).isSome = false := by
  cases args with
  | nil => simp at h
  | cons _ _ => rfl

/-- A CONFIGURE that is not readable is refused with no clamped items (log 10). -/
theorem State.RequestAtHead.badConfigure {s : State} {args : List Byte} {rest : List HostFrame} (h : s.RequestAtHead 1 args rest)
    (hread : argsConfigure args = none) :
    exec .configure s = .next (s.setLink (s.answeredLink rest ⟨1, .badIndex, .clamped []⟩)) := by
  have hb := h.badIndex_eq hread (.clamped []) ownConfigure
  show execConfigure s = _
  simp only [execConfigure, h.controlHead_eq]
  exact (if_pos rfl).trans (congrArg Host.Outcome.next hb)

/-- A PORT OFF that is not readable is refused, whatever its mode reads. -/
theorem State.RequestAtHead.badPortOff {s : State} {args : List Byte} {rest : List HostFrame} (h : s.RequestAtHead 14 args rest)
    (hread : argsPortOff args = none) :
    exec (commandOf 14 args) s = .next (s.setLink (s.answeredLink rest ⟨14, .badIndex, .none⟩)) := by
  show exec (if modeImmediate args then .portOffImmediate else .portOffGraceful) s = _
  cases hm : modeImmediate args
  · have hb := h.badIndex_eq hread .none ownPortOffGraceful
    simp only [Bool.false_eq_true, if_false, exec, execPortOffGraceful, h.controlHead_eq, hm]
    exact (if_pos ⟨rfl, by simp⟩).trans (congrArg Host.Outcome.next hb)
  · have hb := h.badIndex_eq hread .none ownPortOffImmediate
    simp only [if_true, exec, execPortOffImmediate, h.controlHead_eq, hm]
    exact (if_pos ⟨rfl, by simp⟩).trans (congrArg Host.Outcome.next hb)

/-- Settles O17: code by code, the command's reader is the one that `argsReadable` names. -/
theorem unreadableRequestsChangeNothing : Obligations.UnreadableRequestsChangeNothing := by
  intro s code args rest h
  refine ⟨fun hcode => ?_, fun hcode hargs => ?_⟩
  · simp only [exec, execUnknownRequest, h.controlHead_eq, hcode, Bool.false_eq_true, if_false, State.takeControl, refusedWith,
      State.popIngress_pushReply_eq h.head]
  · obtain ⟨n, hlow, hhigh, rfl⟩ : ∃ n, 1 ≤ n ∧ n ≤ 19 ∧ code = BitVec.ofNat 8 n := by
      simp only [codeKnown, Bool.and_eq_true, decide_eq_true_eq] at hcode
      exact ⟨code.toNat, hcode.1, hcode.2, by simp⟩
    obtain rfl | rfl | hbare | hread : n = 1 ∨ n = 14 ∨ n ∈ [2, 3, 4, 5, 13, 19] ∨
        n ∈ [6, 7, 8, 9, 10, 11, 12, 15, 16, 17, 18] := by
      simp only [List.mem_cons, List.not_mem_nil, or_false]
      omega
    · exact h.badConfigure (by simpa [argsReadable] using hargs)
    · exact h.badPortOff (by simpa [argsReadable] using hargs)
    · fin_cases hbare <;> exact h.onRequest_badIndex (argsNone_eq_none hargs) _
    · fin_cases hread <;> exact h.onRequest_badIndex hargs _

theorem portIndex_ofNat (p : PortId) : portIndex (BitVec.ofNat 8 p.val) = some p := by
  match p with
  | 0 | 1 | 2 | 3 => rfl

theorem argsPort_ofNat (p : PortId) : argsPort [BitVec.ofNat 8 p.val] = some p := portIndex_ofNat p

theorem argsSlot_bytesOf (i : Slot) : argsSlot (bytesOf 2 i.val) = some i := by
  have hval : bytesVal (bytesOf 2 i.val) = i.val := bytesVal_bytesOf (by have := i.isLt; omega)
  have hlist : bytesOf 2 i.val = [BitVec.ofNat 8 (i.val / 256 ^ 1), BitVec.ofNat 8 (i.val / 256 ^ 0)] := rfl
  rw [hlist] at hval ⊢
  simp only [argsSlot, hval]
  exact dif_pos i.isLt

theorem targetByte_ofNat {y : Nat} (h1 : 1 ≤ y) (h63 : y ≤ 63) : targetByte (BitVec.ofNat 8 y) = true := by
  simp only [targetByte, BitVec.toNat_ofNat, Bool.and_eq_true, decide_eq_true_eq]
  omega

theorem targetIndex_ofNat {y : Nat} (h1 : 1 ≤ y) (h63 : y ≤ 63) : targetIndex (BitVec.ofNat 8 y) = some y := by
  rw [targetIndex, if_pos (targetByte_ofNat h1 h63), BitVec.toNat_ofNat, Nat.mod_eq_of_lt (by omega)]

theorem argsStation_ofNat (i : StationId) : argsStation [BitVec.ofNat 8 i.val] = some i := by
  have h : (BitVec.ofNat 8 i.val).toNat = i.val := by rw [BitVec.toNat_ofNat]; omega
  simp [argsStation, h]

theorem argsSwitch_ofNat {sw : Nat} (h1 : 1 ≤ sw) (h15 : sw ≤ 15) : argsSwitch [BitVec.ofNat 8 sw] = some sw := by
  have h : (BitVec.ofNat 8 sw).toNat = sw := by rw [BitVec.toNat_ofNat]; omega
  simp only [argsSwitch, h]
  rw [if_pos ⟨h1, h15⟩]

theorem bytesVal_word (x : Word32) : bytesVal (bytesOf 4 x.toNat) = x.toNat := bytesVal_bytesOf x.isLt

theorem argsPair_bytesOf (session : Word32) {y : Nat} (h1 : 1 ≤ y) (h63 : y ≤ 63) :
    argsPair (bytesOf 4 session.toNat ++ [BitVec.ofNat 8 y]) = some (session, y) := by
  have hval := bytesVal_word session
  simp only [bytesOf] at hval ⊢
  simp only [List.cons_append, List.nil_append, argsPair, targetIndex_ofNat h1 h63, hval]
  simp

theorem argsHostRef_bytesOf (x : Word32) : argsHostRef (bytesOf 4 x.toNat) = some x := by
  have hval := bytesVal_word x
  simp only [bytesOf] at hval ⊢
  simp only [argsHostRef, hval, BitVec.ofNat_toNat, BitVec.setWidth_eq]

/-- Settles O18. -/
theorem readingRequestsReport : Obligations.ReadingRequestsReport := by
  intro s rest
  refine ⟨fun h => h.onRequest_report (x := ()) rfl fun _ u => .status u.statusReport,
    fun h => h.onRequest_report (x := ()) rfl fun _ u => .config u.config.toList u.station.outcome u.station.locked,
    fun i h => h.onRequest_report (argsSlot_bytesOf i) fun i u => .exchange (u.exchangeReport i),
    fun p h => h.onRequest_report (argsPort_ofNat p) fun p u => .port (u.portReport p),
    fun y p h1 h63 h => h.onRequest_report (x := (y, p)) ?_ fun x u => .route (u.routeReport x.1 x.2),
    fun i h => h.onRequest_report (argsStation_ofNat i) fun i u => .peer (u.peerReport i),
    fun sw h1 h15 h => h.onRequest_report (argsSwitch_ofNat h1 h15) fun sw u => .verdict (u.verdictReport sw),
    fun session y h1 h63 h => h.onRequest_report (argsPair_bytesOf session h1 h63) fun x u => .lookup (u.lookupReport x.1 x.2)⟩
  simp [argsCell, targetIndex_ofNat h1 h63, portIndex_ofNat]

/-- Settles O20. -/
theorem enableAndWithdraw : Obligations.EnableAndWithdraw := by
  intro s rest
  refine ⟨fun h => ⟨fun hst => ?_, fun hst => ?_⟩, fun h => ⟨fun hst => ?_, fun hst => ?_⟩⟩
  · have howner : ownEnable () s.popIngress = doneWith .none (s.popIngress.setStation { s.station with state := .active, locked := true }) := by
      simp [ownEnable, hst]
    refine (State.RequestAtHead.onRequest_eq (code := codes.enable) h (x := ()) rfl ownEnable).trans ?_
    rw [howner, State.popIngress_eq h.head]
    rfl
  · exact State.RequestAtHead.onRequest_refused (code := codes.enable) h (x := ()) (read := argsNone) rfl (by simp [ownEnable, hst, refusedWith])
  · have howner : ownWithdraw () s.popIngress =
        doneWith .none ((s.popIngress.setStation { s.station with state := .withdrawn }).setRow s.row.withdraw) := by
      simp [ownWithdraw, hst]
    refine (State.RequestAtHead.onRequest_eq (code := codes.withdraw) h (x := ()) rfl ownWithdraw).trans ?_
    rw [howner, State.popIngress_eq h.head]
    rfl
  · exact State.RequestAtHead.onRequest_refused (code := codes.withdraw) h (x := ()) (read := argsNone) rfl (by simp [ownWithdraw, hst, refusedWith])

/-! ### PIN (R40) -/

theorem State.pinnedAt_iff (s : State) (set : Fin 64) (w : Fin 4) :
    (s.cacheSet set).pinnedAt w = true ↔ ∃ e, s.entryAt ⟨set, w⟩ = some e ∧ 0 < e.count := by
  change _ ↔ ∃ e, (s.cacheSet set).ways[w] = some e ∧ 0 < e.count
  cases h : (s.cacheSet set).ways[w] <;> simp [CacheSet.pinnedAt, h, Entry.isPinned]



/-- Two states with the same cache, ports and cells have the same selections and eligible ports where the other inputs agree. -/
theorem State.popIngress_cacheSet (s : State) : s.popIngress.cacheSet = s.cacheSet := State.cacheSet_congr s.popIngress_cache

theorem State.RequestAtHead.execPin_eq {s : State} {args : List Byte} {rest : List HostFrame} {a : PinArgs}
    (h : s.RequestAtHead 12 args rest) (ha : argsPin args = some a) :
    exec .pin s = .next ((ownPin a s.popIngress).state.pushReply
      ⟨12, (ownPin a s.popIngress).status, (ownPin a s.popIngress).body⟩) :=
  State.RequestAtHead.onRequest_eq (code := codes.pin) h ha ownPin

theorem State.pinPort_popIngress (s : State) (a : PinArgs) : s.popIngress.pinPort a = s.pinPort a := rfl

theorem State.ways_useWay (s : State) (pl : Place) (i : Fin 64) : ((s.useWay pl).cacheSet i).ways = (s.cacheSet i).ways := by
  rw [State.useWay, State.cacheSet_setCacheSet]
  split
  next h => rw [CacheSet.use_ways, h]
  · rfl

theorem State.entryAt_useWay (s : State) (pl pl' : Place) : (s.useWay pl).entryAt pl' = s.entryAt pl' := by
  simp only [State.entryAt, State.ways_useWay]

/-- What PIN's owner installs: the pair leaves its old way, and stands in the new one (R40). -/
theorem State.entryAt_install (s : State) (a : PinArgs) (w : Fin 4) (p : PortId) (pl : Place) :
    (s.install a w p).entryAt pl =
      if pl = ⟨setIndex a.session a.target, w⟩ then some (Entry.fresh a.session a.target (some p))
      else if s.findPlace a.session a.target = some pl then none else s.entryAt pl := by
  unfold State.install
  dsimp only
  rw [State.entryAt_useWay, State.entryAt_setEntryAt]
  by_cases hpl : pl = ⟨setIndex a.session a.target, w⟩
  · rw [if_pos hpl.symm, if_pos hpl]
  · rw [if_neg (Ne.symm hpl), if_neg hpl]
    cases hf : s.findPlace a.session a.target with
    | none => rfl
    | some old =>
      dsimp only
      rw [State.entryAt_setEntryAt]
      simp only [Option.some.injEq]

theorem State.findPlace_eq_some_iff (s : State) (session : Word32) (y : Nat) (pl : Place) :
    s.findPlace session y = some pl ↔
      pl.set = setIndex session y ∧ (s.cacheSet (setIndex session y)).findWay session y = some pl.way := by
  unfold State.findPlace
  cases h : (s.cacheSet (setIndex session y)).findWay session y with
  | none => simp
  | some w =>
    obtain ⟨i, v⟩ := pl
    simp [eq_comm]

/-- The pointers of the installed way's set are turned for a use of it. -/
theorem State.pointers_install (s : State) (a : PinArgs) (w : Fin 4) (p : PortId) :
    let set := setIndex a.session a.target
    ((s.install a w p).cacheSet set).root = ((s.cacheSet set).use w).root ∧
    ((s.install a w p).cacheSet set).left = ((s.cacheSet set).use w).left ∧
    ((s.install a w p).cacheSet set).right = ((s.cacheSet set).use w).right := by
  have hset : ∀ (u : State) (pl : Place) (e : Option Entry) (i : Fin 64),
      ∃ ways, (u.setEntryAt pl e).cacheSet i = { u.cacheSet i with ways := ways } := fun u pl e i => by
    rw [State.setEntryAt, State.cacheSet_setCacheSet]
    split
    next h => exact ⟨_, by rw [h]⟩
    · exact ⟨_, rfl⟩
  have hmany : ∃ ways, (s.install a w p).cacheSet (setIndex a.session a.target) =
      ({ s.cacheSet (setIndex a.session a.target) with ways := ways } : CacheSet).use w := by
    unfold State.install
    dsimp only
    rw [State.useWay, State.cacheSet_setCacheSet, if_pos rfl]
    split
    · obtain ⟨w1, h1⟩ := hset s (by assumption) none (setIndex a.session a.target)
      obtain ⟨w2, h2⟩ := hset (s.setEntryAt (by assumption) none) ⟨setIndex a.session a.target, w⟩
        (some (Entry.fresh a.session a.target (some p))) (setIndex a.session a.target)
      exact ⟨w2, by rw [h2, h1]⟩
    · obtain ⟨w2, h2⟩ := hset s ⟨setIndex a.session a.target, w⟩
        (some (Entry.fresh a.session a.target (some p))) (setIndex a.session a.target)
      exact ⟨w2, by rw [h2]⟩
  obtain ⟨ways, hways⟩ := hmany
  dsimp only
  rw [hways]
  unfold CacheSet.use
  (repeat' split) <;> exact ⟨rfl, rfl, rfl⟩

/-- PIN's checks on the ways pass, and name the way w (R40). -/
theorem CacheSet.pinWay_eq_some {x : CacheSet} {a : PinArgs} {w : Fin 4}
    (hnot : ¬∃ v, x.findWay a.session a.target = some v ∧ x.pinnedAt v = true)
    (hw : match a.way with
      | some v => w = v ∧ ¬ x.pinnedAt v = true
      | none => match x.findWay a.session a.target with
        | some v => w = v
        | none => x.chooseWay = some w) : x.pinWay a = some w := by
  have hany : (x.findWay a.session a.target).any x.pinnedAt = false := by
    cases hf : x.findWay a.session a.target with
    | none => rfl
    | some v =>
      have : ¬ x.pinnedAt v = true := fun hv => hnot ⟨v, hf, hv⟩
      simpa using this
  simp only [CacheSet.pinWay, hany, Bool.false_eq_true, if_false]
  cases hway : a.way with
  | some v =>
    rw [hway] at hw
    obtain ⟨rfl, hv⟩ := hw
    simp [hv]
  | none =>
    rw [hway] at hw
    cases hf : x.findWay a.session a.target with
    | some v => rw [hf] at hw; exact congrArg some (Eq.symm hw)
    | none => rw [hf] at hw; exact hw

/-- Settles O21: PIN's checks in order, and the install. -/
theorem pinInstallsThePair : Obligations.PinInstallsThePair := by
  intro s args rest a h ha set present pinnedWay pinned
  have hexec := h.execPin_eq ha
  have hrefused : ∀ status, ownPin a s.popIngress = refusedWith status s.popIngress →
      exec .pin s = .next (s.setLink (s.answeredLink rest ⟨12, status, .none⟩)) := fun status ho => by
    rw [hexec, ho]
    exact congrArg _ (State.popIngress_pushReply_eq h.head _)
  have hway : ∀ w, pinnedWay w ↔ (s.cacheSet set).pinnedAt w = true := fun w => (s.pinnedAt_iff set w).symm
  have hown : ownPin a s.popIngress = match (s.cacheSet set).pinWay a with
      | none => refusedWith .pinned s.popIngress
      | some w => match s.pinPort a with
        | none => refusedWith .notGood s.popIngress
        | some p => doneWith (.pinned w p) (s.popIngress.install a w p) := by
    rw [ownPin, s.popIngress_cacheSet, State.pinPort_popIngress] <;> rfl
  have hpinned : (s.cacheSet set).pinWay a = none → pinned := fun hn => hrefused _ (by rw [hown, hn])
  refine ⟨fun ⟨w, hw, hp⟩ => hpinned ?_, fun ⟨w, hw, hp⟩ => hpinned ?_, fun hnone hpres hp => hpinned ?_, fun w hnot hw => ?_⟩
  · have hw' : (s.cacheSet set).findWay a.session a.target = some w := hw
    simp [CacheSet.pinWay, hw', (hway w).1 hp]
  · simp only [CacheSet.pinWay, hw, (hway w).1 hp, if_true, ite_self]
  · have hno : (s.cacheSet set).chooseWay = none := CacheSet.chooseWay_eq_none hp
    have hpres' : (s.cacheSet set).findWay a.session a.target = none := hpres
    simp [CacheSet.pinWay, hnone, hpres', hno]
  · have hpin : (s.cacheSet set).pinWay a = some w := by
      refine CacheSet.pinWay_eq_some (by simpa only [hway] using hnot) ?_
      cases hv : a.way with
      | some v => rw [hv] at hw; exact ⟨hw.1, fun hp => hw.2 ((hway v).2 hp)⟩
      | none => rw [hv] at hw; exact hw
    rw [hpin] at hown
    intro chosen
    have hchosen : chosen = s.pinPort a := by
      simp only [chosen, State.pinPort]
      cases a.port with
      | some p => simp only [State.eligible_iff]
      | none => rfl
    rw [hchosen]
    refine ⟨fun hc => hrefused _ (by rw [hown, hc]), fun p hc => ?_⟩
    have hdone : ownPin a s.popIngress = doneWith (.pinned w p) (s.popIngress.install a w p) := by rw [hown, hc]
    have hinst : s.popIngress.sameButCache (s.popIngress.install a w p) := State.install_sameButCache _ _ _ _
    have hlink : (s.popIngress.install a w p).link = s.popIngress.link := by rw [hinst]
    have hentry : ∀ pl r, ((s.popIngress.install a w p).pushReply r).entryAt pl =
        if pl = ⟨set, w⟩ then some (Entry.fresh a.session a.target (some p))
        else if s.findPlace a.session a.target = some pl then none else s.entryAt pl := fun pl r => by
      rw [State.entryAt_congr (State.pushReply_cache _ _), State.entryAt_install, State.entryAt_congr s.popIngress_cache]
      rfl
    rw [hexec, hdone]
    refine ⟨_, rfl, h.link_answered hlink _, ?_, fun v hv => ?_, fun pl hpl => ?_, ?_⟩
    · rw [doneWith, hentry, if_pos rfl]
      rfl
    · rw [doneWith, hentry, if_neg (by simpa using hv)]
      simp only [State.findPlace_eq_some_iff, true_and, set]
      rfl
    · have hne : ¬ pl = ⟨set, w⟩ := fun e => hpl (by rw [e])
      have hno : ¬ s.findPlace a.session a.target = some pl := fun e => hpl ((s.findPlace_eq_some_iff _ _ _).1 e).1
      rw [doneWith, hentry, if_neg hne, if_neg hno]
    · obtain ⟨hroot, hleft, hright⟩ := s.popIngress.pointers_install a w p
      rw [doneWith, State.cacheSet_congr (State.pushReply_cache _ _), ← s.popIngress_cacheSet]
      exact congrArg₂ _ hroot (congrArg₂ _ hleft hright)

/-! ### Traces and frames that need a credit (R68, R113) -/

/-- Settles O27. -/
theorem tracesAreTransmitted : Obligations.TracesAreTransmitted := by
  refine ⟨fun s p i rest hlinked hcredit hprobes htraces => ?_, fun s p h => ?_⟩
  · have hmay : ((s.port p).maySend && (s.port p).pendingProbes.isEmpty) = true := by
      simp [Port.maySend, hlinked, hprobes]
      omega
    refine ⟨fun e he => ?_, fun he => ?_⟩
    · simp only [exec, execTraceTransmission, hmay, if_true, htraces, he, State.transmit, State.modPort, State.port_setPort_self]
      simp [State.setPort]
    · simp only [exec, execTraceTransmission, hmay, if_true, htraces, he]
      rfl
  · have hmay : (s.port p).maySend = false := by
      rcases h with h | h <;> simp [Port.maySend, h]
    simp [exec, execSendExchange, execTraceTransmission, execProbeSend, hmay]

/-! ### Work items taken up (R96, R97, R105) -/

/-- The entries at the places that pass a test, with their pairs, in one pass. -/
theorem State.refsAt_placesWith (s : State) (test : Entry → Bool) :
    s.refsAt (s.placesWith test) = allPlaces.filterMap (fun pl => (s.entryAt pl).bind (fun e =>
      if test e = true then some ⟨pl, e.session, e.target⟩ else none)) := by
  rw [State.refsAt, State.placesWith, List.filterMap_filter]
  refine List.filterMap_congr fun pl _ => ?_
  cases s.entryAt pl with
  | none => simp
  | some e => simp

/-- Settles O40. -/
theorem workItemsAreTakenUp : Obligations.WorkItemsAreTakenUp := by
  intro s rest hup hidle takes
  have hgo : ¬ (s.station.state = .loading ∨ s.failover.current.isSome = true) := by simp [hup, hidle]
  refine ⟨fun p horizon hw => ?_, fun y p hw => ?_, fun y hw => ?_, fun hw => ?_, fun item => ?_⟩
  · simp only [takes, exec, execWorkItemTakenUp, if_neg hgo, hw]
    rfl
  · have hcell : (s.setWork rest).cell y p = s.cell y p := rfl
    simp only [takes, exec, execWorkItemTakenUp, if_neg hgo, hw, hcell]
    split <;> simp [State.setWork, State.setCurrent, State.setFailover, hidle]
  · intro unplaced held
    simp only [takes, exec, execWorkItemTakenUp, if_neg hgo, hw]
    have hrefs : (s.setWork rest).refsAt ((s.setWork rest).placesWith (fun e => e.port == none && e.target == y)) = unplaced := by
      rw [State.refsAt_placesWith]
      simp [unplaced, and_comm, State.entryAt, State.cacheSet]
    have hheld : (s.setWork rest).heldRefs y = held := rfl
    rw [State.beginPairs, hrefs, State.beginHeld, hheld]
    cases unplaced with
    | cons r l => simp [State.setWork, State.setCurrent, State.setFailover]
    | nil =>
      cases held with
      | cons r l => simp [State.setWork, State.setCurrent, State.setFailover]
      | nil => simp [State.setWork, State.setCurrent, State.setFailover]
  · simp [exec, execWorkItemTakenUp, hw]
  · exact if_pos (.inr rfl)

end Sys2Proof.Machine

namespace Sys2Proof.Machine
open Sys2Proof

/-! ### The check sequence of a frame of bytes (R168) -/

/-- A frame closed by its check sequence opens to what was closed. -/
theorem openFrame_sealFrame (body : List Byte) : openFrame (sealFrame body) = some body := by
  have hlen : (sealFrame body).length - 2 = body.length := by simp [sealFrame]
  have htake : (sealFrame body).take body.length = body := by simp [sealFrame]
  have hdrop : (sealFrame body).drop body.length = bytesOf 2 (crcBytes body).toNat := by simp [sealFrame]
  simp [openFrame, hlen, htake, hdrop, sealFrame]

/-! ### Fabric frames (R169) -/

theorem bytesVal_tag (tag : Tag) : bytesVal (bytesOf 2 tag.toNat) = tag.toNat := bytesVal_bytesOf tag.isLt

theorem tagFrom_bytes (tag : Tag) :
    tagFrom (BitVec.ofNat 8 (tag.toNat / 256 ^ 1)) (BitVec.ofNat 8 (tag.toNat / 256 ^ 0)) = tag := by
  have h : bytesVal [BitVec.ofNat 8 (tag.toNat / 256 ^ 1), BitVec.ofNat 8 (tag.toNat / 256 ^ 0)] = tag.toNat := bytesVal_tag tag
  rw [tagFrom, h]
  simp

theorem readPayload_bytes {payload : List Byte} (h : payload.length ≤ 512) :
    readPayload (bytesOf 2 payload.length ++ payload) = some payload := by
  have hlen : bytesVal (bytesOf 2 payload.length) = payload.length := bytesVal_bytesOf (by omega)
  have htake : (bytesOf 2 payload.length ++ payload).take 2 = bytesOf 2 payload.length := by
    rw [List.take_left' (length_bytesOf _ _)]
  have hdrop : (bytesOf 2 payload.length ++ payload).drop 2 = payload := by rw [List.drop_left' (length_bytesOf _ _)]
  simp [readPayload, htake, hdrop, hlen, Config.payloadLimit, h]

theorem findingOf_findingCode (f : Finding) : findingOf (findingCode f) = some f := by cases f <;> rfl

/-- The body of every well-formed frame is read back, kind by kind. -/
theorem readFabricBody_bytes (f : FabricFrame) (h : f.wf = true) : readFabricBody f.bytes = some f := by
  cases f with
  | request tag cls session target attempt payload =>
    have hp : readPayload (bytesOf 2 payload.length ++ payload) = some payload := readPayload_bytes (of_decide_eq_true h)
    have hs : bytesVal [BitVec.ofNat 8 (session.toNat / 256 ^ 3), BitVec.ofNat 8 (session.toNat / 256 ^ 2),
      BitVec.ofNat 8 (session.toNat / 256 ^ 1), BitVec.ofNat 8 (session.toNat / 256 ^ 0)] = session.toNat := bytesVal_word session
    have hbytes : (FabricFrame.request tag cls session target attempt payload).bytes =
        1#8 :: BitVec.ofNat 8 (tag.toNat / 256 ^ 1) :: BitVec.ofNat 8 (tag.toNat / 256 ^ 0) :: cls ::
        BitVec.ofNat 8 (session.toNat / 256 ^ 3) :: BitVec.ofNat 8 (session.toNat / 256 ^ 2) ::
        BitVec.ofNat 8 (session.toNat / 256 ^ 1) :: BitVec.ofNat 8 (session.toNat / 256 ^ 0) :: target :: attempt ::
        (bytesOf 2 payload.length ++ payload) := by simp [FabricFrame.bytes, bytesOf]
    rw [hbytes]
    simp only [readFabricBody, if_true, hp, Option.map_some, tagFrom_bytes, hs, BitVec.ofNat_toNat, BitVec.setWidth_eq]
  | answer tag attempt payload =>
    have hp : readPayload (bytesOf 2 payload.length ++ payload) = some payload := readPayload_bytes (of_decide_eq_true h)
    have hbytes : (FabricFrame.answer tag attempt payload).bytes =
        2#8 :: BitVec.ofNat 8 (tag.toNat / 256 ^ 1) :: BitVec.ofNat 8 (tag.toNat / 256 ^ 0) :: attempt ::
        (bytesOf 2 payload.length ++ payload) := by simp [FabricFrame.bytes, bytesOf]
    rw [hbytes]
    simp only [readFabricBody, hp, Option.map_some, tagFrom_bytes]
    rfl
  | trace tag target attempt =>
    have ht : targetByte target = true := h
    have hbytes : (FabricFrame.trace tag target attempt).bytes =
        [3#8, BitVec.ofNat 8 (tag.toNat / 256 ^ 1), BitVec.ofNat 8 (tag.toNat / 256 ^ 0), target, attempt] := rfl
    rw [hbytes]
    simp only [readFabricBody, ht, if_true, tagFrom_bytes]
    rfl
  | traceReply tag attempt finding payload =>
    obtain ⟨hlen, hdone⟩ : payload.length ≤ 512 ∧ (finding == .done || payload.isEmpty) = true := by
      exact (Bool.and_eq_true_iff.1 h).imp of_decide_eq_true id
    have hbytes : (FabricFrame.traceReply tag attempt finding payload).bytes =
        4#8 :: BitVec.ofNat 8 (tag.toNat / 256 ^ 1) :: BitVec.ofNat 8 (tag.toNat / 256 ^ 0) :: attempt :: findingCode finding ::
        (bytesOf 2 payload.length ++ payload) := by simp [FabricFrame.bytes, bytesOf]
    rw [hbytes]
    simp only [readFabricBody, findingOf_findingCode, readPayload_bytes hlen, Option.bind_some, hdone, if_true, tagFrom_bytes]
    rfl
  | probe target number =>
    have ht : targetByte target = true := h
    simp only [FabricFrame.bytes, readFabricBody, ht, if_true]
    rfl
  | echo target number =>
    have ht : targetByte target = true := h
    simp only [FabricFrame.bytes, readFabricBody, ht, if_true]
    rfl
  | linkOffer identity grant reachList =>
    have hr : bytesVal (bytesOf 8 reachList.toNat) = reachList.toNat := bytesVal_bytesOf reachList.isLt
    simp only [FabricFrame.bytes, readFabricBody, length_bytesOf, if_true, hr, BitVec.ofNat_toNat, BitVec.setWidth_eq]
    rfl
  | linkAccept station => rfl
  | reach reachList =>
    have hr : bytesVal (bytesOf 8 reachList.toNat) = reachList.toNat := bytesVal_bytesOf reachList.isLt
    simp only [FabricFrame.bytes, readFabricBody, length_bytesOf, if_true, hr, BitVec.ofNat_toNat, BitVec.setWidth_eq]
    rfl
  | credit count => rfl
  | idleTick => rfl

theorem FabricFrame.kindKnown_bytes (f : FabricFrame) : ∃ kind body, f.bytes = kind :: body ∧ kindKnown f.bytes = true := by
  cases f <;> exact ⟨_, _, rfl, rfl⟩

theorem readFabricFrame_onLane {f : FabricFrame} (h : f.wf = true) : readFabricFrame f.onLane = .frame f := by
  obtain ⟨kind, body, hbytes, hknown⟩ := f.kindKnown_bytes
  have hread := readFabricBody_bytes f h
  rw [hbytes] at hknown hread
  simp only [readFabricFrame, FabricFrame.onLane, openFrame_sealFrame, hbytes, hknown, hread, if_true]

/-- Settles O52: two frames with the same bytes are read as the same frame. -/
theorem fabricFramesAreReadBack : Obligations.FabricFramesAreReadBack := by
  refine ⟨fun f h => readFabricFrame_onLane h, fun f g hf hg he => ?_⟩
  have h : FabricIn.frame f = .frame g := by rw [← readFabricFrame_onLane hf, he, readFabricFrame_onLane hg]
  exact FabricIn.frame.inj h

/-! ### Host frames (R168) -/

theorem readHostBody_bytes (f : HostFrame) (h : f.wf = true) : readHostBody f.bytes = some (.frame f) := by
  cases f with
  | booking b =>
    obtain ⟨ht, hlen⟩ : b.target ≠ 0#8 ∧ b.payload.length < 65536 := by simpa [HostFrame.wf] using h
    have hs := bytesVal_word b.session
    have hr := bytesVal_word b.hostRef
    have hl : bytesVal (bytesOf 2 b.payload.length) = b.payload.length := bytesVal_bytesOf (by omega)
    have hread : readBooking b.target b.cls
        (bytesOf 4 b.session.toNat ++ bytesOf 4 b.hostRef.toNat ++ bytesOf 2 b.payload.length ++ b.payload) = some b := by
      simp only [bytesOf] at hs hr hl ⊢
      simp only [readBooking, List.cons_append, List.nil_append, List.drop_succ_cons, List.take_succ_cons, List.drop_zero,
        List.take_zero, hs, hr, hl, List.length_cons, BitVec.ofNat_toNat, BitVec.setWidth_eq]
      simp
    simp only [HostFrame.bytes, Booking.bytes, readHostBody, if_neg ht, hread]
    rfl
  | control code args =>
    have hlen : (BitVec.ofNat 8 args.length).toNat = args.length := by
      have : args.length < 256 := by simpa [HostFrame.wf] using h
      rw [BitVec.toNat_ofNat]
      omega
    simp only [HostFrame.bytes, readHostBody, hlen, if_true]
    rfl

theorem readHostFrame_sealFrame {f : HostFrame} (h : f.wf = true) : readHostFrame (sealFrame f.bytes) = .frame f := by
  rw [readHostFrame, openFrame_sealFrame, Option.bind_some, readHostBody_bytes f h]

theorem readHostFrame_credit (n : Byte) : readHostFrame (sealFrame [2#8, n]) = .credit n := by
  rw [readHostFrame, openFrame_sealFrame, Option.bind_some]
  rfl

theorem readHostFrame_damaged {frame : List Byte} (h : openFrame frame = none) :
    readHostFrame frame = .damaged (frame.head? == some 1#8) := by
  rw [readHostFrame, h, Option.bind_none]

/-- Settles O10. -/
theorem hostFramesAreTaken : Obligations.HostFramesAreTaken := by
  refine ⟨fun f s hf hup hraised => ⟨fun hroom => ?_, fun hfull hnotices => ?_, fun hfull hnotices => ?_⟩,
    fun frame s hup hbad => ⟨fun hone => ?_, fun hother => ?_⟩, fun n s hup => ?_⟩
  · simp only [exec, execHostRequestArrival, (State.linkUp_iff s).2 hup, if_true, State.takeHostFrame, readHostFrame_sealFrame hf,
      State.joinIngress, if_pos (show s.link.ingress.length < Config.ingressLimit from hroom)]
    rfl
  · simp only [exec, execHostRequestArrival, (State.linkUp_iff s).2 hup, if_true, State.takeHostFrame, readHostFrame_sealFrame hf,
      State.joinIngress, if_neg (show ¬ s.link.ingress.length < Config.ingressLimit from Nat.not_lt.2 hfull)]
    simp [State.flush, State.raise, hraised, orderNotices, NoticeBody.rank, List.range_succ, queueNotice, Config.noticeLimit, hnotices]
  · simp only [exec, execHostRequestArrival, (State.linkUp_iff s).2 hup, if_true, State.takeHostFrame, readHostFrame_sealFrame hf,
      State.joinIngress, if_neg (show ¬ s.link.ingress.length < Config.ingressLimit from Nat.not_lt.2 hfull)]
    simp [State.flush, State.raise, hraised, orderNotices, NoticeBody.rank, List.range_succ, queueNotice, Config.noticeLimit,
      Nat.not_lt.2 hnotices]
  · simp only [exec, execHostRequestArrival, (State.linkUp_iff s).2 hup, if_true, State.takeHostFrame, readHostFrame_damaged hbad, hone]
    rfl
  · have hno : (frame.head? == some 1#8) = false := by simpa using hother
    simp only [exec, execHostRequestArrival, execHostCreditArrival, (State.linkUp_iff s).2 hup, if_true, State.takeHostFrame,
      readHostFrame_damaged hbad, hno, and_self]
  · simp only [exec, execHostCreditArrival, (State.linkUp_iff s).2 hup, if_true, State.takeHostFrame, readHostFrame_credit]
    rfl

/-! ### Row bus frames (R126, R130, R170) -/

/-- The separators of a string are read off again where it is cut into whole groups of four, and not otherwise. -/
theorem unseparate_separate (l : List Bool) : unseparate (separate l) = if l.length % 4 = 0 then some l else none := by
  induction l using separate.induct with
  | case1 a b c d rest ih =>
    simp only [separate, unseparate, if_true, ih, List.length_cons, Nat.add_assoc, Nat.reduceAdd, Nat.add_mod_right]
    split <;> rfl
  | case2 l h =>
    match l with
    | [] => rfl
    | [_] | [_, _] | [_, _, _] => rfl
    | a :: b :: c :: d :: rest => exact absurd rfl (h a b c d rest)

/-- What is made of a line whose data bits are separated and closed by the end mark. -/
theorem readRowFrame_line (data : List Bool) : readRowFrame (false :: (separate data ++ [false])) =
    if data.length % 4 = 0 ∧ 16 ≤ data.length ∧
        data.drop (data.length - 16) = bitsOf 16 (crcBits (data.take (data.length - 16))).toNat
    then readRowContent (data.take (data.length - 16)) else none := by
  simp only [readRowFrame, List.getLast?_append, List.getLast?_singleton, Option.some_or, if_true, List.dropLast_concat,
    unseparate_separate]
  by_cases h : data.length % 4 = 0 <;> simp [h]

theorem readRowFrame_content (content : List Bool) :
    readRowFrame (false :: (separate (content ++ bitsOf 16 (crcBits content).toNat) ++ [false])) =
      if content.length % 4 = 0 then readRowContent content else none := by
  have hlen : (content ++ bitsOf 16 (crcBits content).toNat).length = content.length + 16 := by simp
  have hmod : (content.length + 16) % 4 = content.length % 4 := by omega
  rw [readRowFrame_line, hlen, Nat.add_sub_cancel, List.take_left, List.drop_left, hmod]
  simp

theorem SwitchEntry.bounds_of_wf {e : SwitchEntry} (h : e.wf = true) :
    e.switch < 2 ^ 4 ∧ e.cables < 2 ^ 3 ∧ e.lost < 2 ^ 3 ∧ e.load < 2 ^ 10 := by
  simp only [SwitchEntry.wf, isSwitch, Bool.and_eq_true, decide_eq_true_eq] at h
  omega

@[simp] theorem length_entryBits (e : SwitchEntry) : (entryBits e).length = 20 := by simp [entryBits]

theorem length_flatMap_entryBits (l : List SwitchEntry) : (l.flatMap entryBits).length = 20 * l.length := by
  induction l with
  | nil => rfl
  | cons e l ih => rw [List.flatMap_cons, List.length_append, ih, length_entryBits, List.length_cons]; ring

theorem readEntries_entryBits (l : List SwitchEntry) (h : ∀ e ∈ l, e.wf = true) :
    readEntries l.length (l.flatMap entryBits) = l := by
  induction l with
  | nil => rfl
  | cons e l ih =>
    obtain ⟨h1, h2, h3, h4⟩ := SwitchEntry.bounds_of_wf (h e (by simp))
    have hrest := ih fun x hx => h x (List.mem_cons_of_mem _ hx)
    simp only [List.length_cons, List.flatMap_cons, readEntries]
    have v1 := bitsVal_bitsOf h1
    have v2 := bitsVal_bitsOf h2
    have v3 := bitsVal_bitsOf h3
    have v4 := bitsVal_bitsOf h4
    simp only [entryBits, bitsOf] at v1 v2 v3 v4 ⊢
    simp only [List.cons_append, List.nil_append, List.drop_succ_cons, List.take_succ_cons, List.drop_zero, List.take_zero,
      v1, v2, v3, v4, hrest]

theorem rowStateOf_rowStateCode {st : StationState} (h : st ≠ .loading) : rowStateOf (rowStateCode st) = some st := by
  cases st <;> first | rfl | exact absurd rfl h

theorem sightingWf_iff (st : StationState) (l : List SwitchEntry) : sightingWf st l = true ↔
    st ≠ .loading ∧ l.length ≤ 4 ∧ (∀ e ∈ l, e.wf = true) ∧ entriesRise l = true := by
  simp [sightingWf, and_assoc]

theorem readRowContent_content (f : RowFrame) (h : f.wf = true) : readRowContent f.content = some f ∧ f.content.length % 4 = 0 := by
  cases f with
  | sighting id st l =>
    obtain ⟨hst, hlen, hwf, -⟩ := (sightingWf_iff st l).1 h
    have hid : bitsVal (bitsOf 5 id.val) = id.val := bitsVal_bitsOf id.isLt
    have hcode : bitsVal (bitsOf 2 (rowStateCode st)) = rowStateCode st := bitsVal_bitsOf (by cases st <;> decide)
    have hcount : bitsVal (bitsOf 3 l.length) = l.length := bitsVal_bitsOf (by omega)
    have hkind : bitsVal (bitsOf 2 1) = 1 := rfl
    have hid' : id.val % 32 = id.val := Nat.mod_eq_of_lt id.isLt
    have hread := readEntries_entryBits l hwf
    have hbits := length_flatMap_entryBits l
    refine ⟨?_, ?_⟩
    · simp only [RowFrame.content, bitsOf] at hid hcode hcount hkind ⊢
      simp only [readRowContent, List.cons_append, List.nil_append, List.drop_succ_cons, List.take_succ_cons,
        List.drop_zero, List.take_zero, hid, hcode, hcount, hkind]
      simp [rowStateOf_rowStateCode hst, hlen, hread, hbits, hid']
      omega
    · simp [RowFrame.content, hbits]
      omega
  | withdraw id =>
    have hid : bitsVal (bitsOf 5 id.val) = id.val := bitsVal_bitsOf id.isLt
    have hkind : bitsVal (bitsOf 2 2) = 2 := rfl
    have hid' : id.val % 32 = id.val := Nat.mod_eq_of_lt id.isLt
    refine ⟨?_, by simp [RowFrame.content]⟩
    simp [readRowContent, RowFrame.content, List.drop_append, List.take_append, hid, hkind, hid']

theorem readRowFrame_onLine {f : RowFrame} (h : f.wf = true) : readRowFrame f.onLine = some f := by
  obtain ⟨hread, hlen⟩ := readRowContent_content f h
  rw [RowFrame.onLine, RowFrame.dataBits, readRowFrame_content, if_pos hlen, hread]

theorem rowCommand_of_none {line : List Bool} (h : readRowFrame line = none) : rowCommand line = .frameBrokenOff := by
  rw [rowCommand, h]

/-- A content that fails a check of R170 is read as no frame. -/
theorem readRowContent_eq_none {content : List Bool}
    (h : let kind := bitsVal ((content.drop 5).take 2)
      kind = 0 ∨ kind = 3 ∨ (kind = 1 ∧ (bitsVal ((content.drop 7).take 2) = 3 ∨ 5 ≤ bitsVal ((content.drop 9).take 3))) ∨
        (kind = 2 ∧ content.drop 7 ≠ [false])) : readRowContent content = none := by
  rcases h with h | h | ⟨h, h3 | h5⟩ | ⟨h, hf⟩
  · simp [readRowContent, h]
  · simp [readRowContent, h]
  · simp [readRowContent, h, h3, rowStateOf]
  · have hno : ¬ bitsVal ((content.drop 9).take 3) ≤ 4 := by omega
    simp only [readRowContent, h, hno, false_and, if_false, if_true]
    cases rowStateOf (bitsVal ((content.drop 7).take 2)) <;> rfl
  · simp [readRowContent, h, hf]

/-! ### A sighting that the part composes (R134, R170) -/

theorem length_filter_allPorts_le (test : PortId → Bool) : (allPorts.filter test).length ≤ 4 :=
  List.length_filter_le _ _

theorem pairwise_allSwitches : allSwitches.Pairwise (· < ·) := by decide

/-- Each port is a cable of one switch, so that cables lead to four switches at most. -/
theorem State.length_cabledSwitches_le (s : State) :
    (allSwitches.filter (fun sw => decide (1 ≤ (s.countCables sw).cables))).length ≤ 4 := by
  have hsub : allSwitches.filter (fun sw => decide (1 ≤ (s.countCables sw).cables)) ⊆
      allPorts.filterMap (fun p => (s.port p).identity) := by
    intro sw hsw
    have hpos : 0 < (allPorts.filter (s.isCable sw)).length := of_decide_eq_true (List.mem_filter.1 hsw).2
    obtain ⟨p, hp⟩ := List.exists_mem_of_length_pos hpos
    obtain ⟨hmem, hcable⟩ := List.mem_filter.1 hp
    refine List.mem_filterMap.2 ⟨p, hmem, ?_⟩
    simp only [State.isCable, Bool.and_eq_true, beq_iff_eq] at hcable
    exact hcable.1
  have hnodup : (allSwitches.filter (fun sw => decide (1 ≤ (s.countCables sw).cables))).Nodup :=
    (pairwise_allSwitches.imp Nat.ne_of_lt).filter _
  exact (hnodup.subperm hsub).length_le.trans (List.length_filterMap_le _ _)

theorem entriesRise_of_pairwise {l : List SwitchEntry} (h : l.Pairwise (fun a b => a.switch < b.switch)) : entriesRise l = true := by
  induction l with
  | nil => rfl
  | cons a l ih =>
    cases l with
    | nil => rfl
    | cons b l =>
      obtain ⟨ha, hl⟩ := List.pairwise_cons.1 h
      simp only [entriesRise, Bool.and_eq_true, decide_eq_true_eq]
      exact ⟨ha b (by simp), ih hl⟩

/-- No exchange stands on two outstanding lists, so that the four lists together hold 512 at most (R5). -/
theorem State.TableAgrees.length_flatMap_outstanding_le {s : State} (h : s.TableAgrees) :
    (allPorts.flatMap s.outstanding).length ≤ 512 := by
  have hnodup : (allPorts.flatMap s.outstanding).Nodup := by
    rw [List.nodup_flatMap]
    refine ⟨fun p _ => h.outstandingOnce p, ?_⟩
    have hne : allPorts.Pairwise (· ≠ ·) := by decide
    refine hne.imp fun {p q} hpq i hp hq => hpq ?_
    have h1 := (h.outstanding i p).1 hp
    have h2 := (h.outstanding i q).1 hq
    rw [h1] at h2
    exact Option.some.inj h2
  simpa using hnodup.length_le_card

theorem State.TableAgrees.loadOf_le {s : State} (h : s.TableAgrees) (sw : Nat) : s.loadOf sw ≤ 512 := by
  unfold State.loadOf
  split
  · exact Nat.zero_le _
  · have hsub : ((allPorts.filter (fun p => (s.port p).state == .up && (s.port p).identity == some sw)).map
        (fun p => (s.outstanding p).length)).sum ≤ (allPorts.map (fun p => (s.outstanding p).length)).sum :=
      (List.filter_sublist.map _).sum_le_sum fun _ _ => Nat.zero_le _
    have hall := h.length_flatMap_outstanding_le
    rw [List.length_flatMap] at hall
    exact hsub.trans hall

theorem State.countCables_lost_le (s : State) (sw : Nat) : (s.countCables sw).lost ≤ (s.countCables sw).cables := by
  simp only [State.countCables, ← List.countP_eq_length_filter]
  exact List.countP_mono_left fun p _ hp => (Bool.and_eq_true_iff.1 hp).1

theorem State.Sound.sightingEntries_wf {s : State} (h : s.Sound) (hup : s.station.state ≠ .loading) :
    sightingWf s.station.state s.sightingEntries = true := by
  refine (sightingWf_iff _ _).2 ⟨hup, ?_, fun e he => ?_, entriesRise_of_pairwise ?_⟩
  · simpa [State.sightingEntries] using s.length_cabledSwitches_le
  · obtain ⟨sw, hsw, rfl⟩ := List.mem_map.1 he
    obtain ⟨hmem, hcables⟩ := List.mem_filter.1 hsw
    have hcables' : 1 ≤ (s.countCables sw).cables := by simpa using hcables
    have hsw' : 1 ≤ sw ∧ sw ≤ 15 := by
      simp only [allSwitches, List.mem_range'_1] at hmem
      omega
    have hfour : (s.countCables sw).cables ≤ 4 := length_filter_allPorts_le _
    have hlost := s.countCables_lost_le sw
    have hload := h.table.loadOf_le sw
    simp [SwitchEntry.wf, isSwitch, hsw', hcables', hfour, hlost, hload]
  · exact (pairwise_allSwitches.filter _).map _ fun _ _ h => h

/-- Settles O53. -/
theorem rowAndHostFramesAreReadBack : Obligations.RowAndHostFramesAreReadBack := by
  refine ⟨fun f h => readRowFrame_onLine h, fun f h => ?_, fun line h => rowCommand_of_none h, fun data h => rowCommand_of_none ?_,
    fun content => by
      intro kind h
      exact rowCommand_of_none (by rw [readRowFrame_content, readRowContent_eq_none h, ite_self]), fun f h => readHostFrame_sealFrame h, fun s f h hup hf => ?_⟩
  · rw [rowCommand, readRowFrame_onLine h]
    cases f <;> rfl
  · rw [readRowFrame_line, if_neg fun hc => h hc.2.2]
  · unfold State.composeFrame at hf
    split at hf
    · cases hf
    · cases hf; exact h.sightingEntries_wf hup
    · cases hf; rfl

end Sys2Proof.Machine

namespace Sys2Proof.Machine
open Sys2Proof

/-! ### What every step keeps: from commands to steps -/

/-- Every next state that the outcome answers meets the predicate. -/
def Leads (P : State → Prop) (o : Host.Outcome State Fault Refusal) : Prop := ∀ t, o = .next t → P t

theorem Leads.next {P : State → Prop} {t : State} (h : P t) : Leads P (.next t) := by
  rintro u ⟨⟩
  exact h

/-- The invariants speak of no queue of commands. -/
theorem State.Sound.setPending {s : State} (h : s.Sound) (l : List Instr) : ({ s with pending := l } : State).Sound where
  link := by obtain ⟨⟩ := h.link; constructor <;> assumption
  bounded := by obtain ⟨⟩ := h.bounded; constructor <;> assumption
  routes := by obtain ⟨⟩ := h.routes; constructor <;> assumption
  table := by obtain ⟨⟩ := h.table; constructor <;> assumption
  cache := by obtain ⟨⟩ := h.cache; constructor <;> assumption
  exchanges := h.exchanges
  verdicts := h.verdicts
  peers := by obtain ⟨⟩ := h.peers; constructor <;> assumption
  own := h.own
  work := by obtain ⟨⟩ := h.work; constructor <;> assumption
  row := by obtain ⟨⟩ := h.row; constructor <;> assumption
  station := by obtain ⟨⟩ := h.station; constructor <;> assumption

/-- Nor do they speak of the Time Base, so that a tick keeps them. -/
theorem State.Sound.setTimeBase {s : State} (h : s.Sound) (now : Time) : ({ s with timeBase := now } : State).Sound where
  link := by obtain ⟨⟩ := h.link; constructor <;> assumption
  bounded := by obtain ⟨⟩ := h.bounded; constructor <;> assumption
  routes := by obtain ⟨⟩ := h.routes; constructor <;> assumption
  table := by obtain ⟨⟩ := h.table; constructor <;> assumption
  cache := by obtain ⟨⟩ := h.cache; constructor <;> assumption
  exchanges := h.exchanges
  verdicts := h.verdicts
  peers := by obtain ⟨⟩ := h.peers; constructor <;> assumption
  own := h.own
  work := by obtain ⟨⟩ := h.work; constructor <;> assumption
  row := by obtain ⟨⟩ := h.row; constructor <;> assumption
  station := by obtain ⟨⟩ := h.station; constructor <;> assumption

theorem State.Sound.tick {s : State} (h : s.Sound) : s.tick.Sound := by
  unfold State.tick
  split
  · exact h
  · exact h.setTimeBase _

/-- A predicate that holds of every sound state and that every command leads to from one holds after every step. -/
theorem Leads.step {P : State → Prop} (hsound : ∀ s : State, s.Sound → P s)
    (hexec : ∀ (c : Instr) (s : State), s.Sound → Leads P (exec c s)) (s t : State) (h : s.Sound) (ht : step s = .next t) : P t := by
  unfold Machine.step at ht
  split at ht
  next c rest _ => exact hexec c _ (h.setPending rest) t ht
  · exact Leads.next (hsound _ h.tick) t ht

theorem State.controlHead_eq_some {s : State} {head : Byte} {args : List Byte} (h : s.controlHead = some (head, args)) :
    s.station.state ≠ .loading ∧ s.link.replies.length < 8 ∧ ∃ rest, s.link.ingress = .control head args :: rest := by
  unfold State.controlHead at h
  split at h
  next hfree =>
    simp only [State.headFree, Bool.and_eq_true, State.linkUp_iff] at hfree
    split at h
    next heq =>
      cases h
      exact ⟨hfree.1.1, of_decide_eq_true hfree.2, _, heq⟩
    · cases h
  · cases h

/-- A control request leads to P where it does so both refused and carried out; where it cannot be taken the state stands. -/
theorem Leads.takeControl {P : State → Prop} {α : Type} {s : State} {code : Byte} {args : List Byte} {body : ReplyBody}
    {read : List Byte → Option α} {owner : α → State → Answered}
    (hbad : ∀ r, P (s.popIngress.pushReply r)) (hown : ∀ x r, P ((owner x s.popIngress).state.pushReply r)) :
    P (s.takeControl code args body read owner) := by
  unfold State.takeControl
  split
  · exact hbad _
  · exact hown _ _

theorem Leads.onRequest {P : State → Prop} {α : Type} {s : State} {code : Byte} {read : List Byte → Option α}
    {owner : α → State → Answered} (hs : P s)
    (htaken : s.station.state ≠ .loading → s.link.replies.length < 8 → (∃ f rest, s.link.ingress = f :: rest) →
      (∀ r, P (s.popIngress.pushReply r)) ∧ ∀ x r, P ((owner x s.popIngress).state.pushReply r)) :
    Leads P (s.onRequest code read owner) := by
  unfold State.onRequest
  split
  next head args hhead =>
    obtain ⟨hup, hroom, rest, hin⟩ := s.controlHead_eq_some hhead
    obtain ⟨hbad, hown⟩ := htaken hup hroom ⟨_, rest, hin⟩
    split
    · exact .next (Leads.takeControl hbad hown)
    · exact .next hs
  · exact .next hs

/-! ### The configuration stays in its ranges -/

theorem clampTo_mem {r : Config.ItemRange} (h : r.low ≤ r.high) (v : Nat) : r.low ≤ clampTo r v ∧ clampTo r v ≤ r.high := by
  unfold clampTo
  split <;> (try split) <;> omega

theorem clampTo_of_mem {r : Config.ItemRange} {v : Nat} (h : r.low ≤ v ∧ v ≤ r.high) : clampTo r v = v := by
  unfold clampTo
  split <;> (try split) <;> omega

theorem clampRanges_of_mem {v : Config.Settings}
    (h : ∀ i (hi : i < 26), Config.itemTable[i].low ≤ v[i] ∧ v[i] ≤ Config.itemTable[i].high) : clampRanges v = v := by
  ext i hi
  rw [getElem_clampRanges, clampTo_of_mem (h i hi)]

theorem getElem_clampRanges_mem (v : Config.Settings) (i : Nat) (hi : i < 26) :
    Config.itemTable[i].low ≤ (clampRanges v)[i] ∧ (clampRanges v)[i] ≤ Config.itemTable[i].high := by
  rw [getElem_clampRanges]
  exact clampTo_mem (itemTable_low_le_high ⟨i, hi⟩) _

theorem getElem_clampAll_mem (v : Config.Settings) (i : Nat) (hi : i < 26) :
    Config.itemTable[i].low ≤ (clampAll v)[i] ∧ (clampAll v)[i] ≤ Config.itemTable[i].high := by
  have h := getElem_clampRanges_mem v i hi
  rw [getElem_clampAll]
  split
  next h9 =>
    subst h9
    exact ⟨Nat.zero_le _, (Nat.min_le_left _ _).trans h.2⟩
  · exact h

/-- What clamping leaves, clamping leaves as it is. -/
theorem configInRange_clampAll (v : Config.Settings) : configInRange (clampAll v) := by
  have hr : clampRanges (clampAll v) = clampAll v := clampRanges_of_mem (getElem_clampAll_mem v)
  unfold configInRange
  ext i hi
  rw [getElem_clampAll _ i hi, hr]
  split
  next h9 =>
    subst h9
    rw [getElem_clampAll v 9, getElem_clampAll v 8]
    simp
  · rfl

theorem configInRange_loadImage (image : Option (List Byte)) : configInRange (loadImage image).2 := by
  unfold loadImage
  split
  · exact configInRange_defaults
  · split
    · exact configInRange_defaults
    · split
      · exact configInRange_defaults
      · split
        · exact configInRange_defaults
        · split
          next h => exact h
          · exact configInRange_clampAll _

theorem configInRange.mem {cfg : Config.Settings} (h : configInRange cfg) (i : Nat) (hi : i < 26) :
    Config.itemTable[i].low ≤ cfg[i] ∧ cfg[i] ≤ Config.itemTable[i].high := by
  have hm := getElem_clampAll_mem cfg i hi
  rwa [show clampAll cfg = cfg from h] at hm

theorem configInRange.creditBatch_pos {cfg : Config.Settings} (h : configInRange cfg) : 1 ≤ creditBatch cfg := by
  have hlow : Config.itemTable[25].low = 1 := rfl
  have hm := (h.mem 25 (by decide)).1
  rwa [hlow] at hm

/-! ### The host link but for what its head waits for -/

/-- The link with its head waiting for nothing: what LinkBounded speaks of. -/
def HostLink.counted (l : HostLink) : HostLink := { l with headWait := .none }

@[simp] theorem State.endSetWait_counted (s : State) (i : Fin 64) : (s.endSetWait i).link.counted = s.link.counted := by
  unfold State.endSetWait
  split <;> rfl

@[simp] theorem State.lowerCount_counted (s : State) (a : Word32) (t : Nat) : (s.lowerCount a t).link.counted = s.link.counted := by
  unfold State.lowerCount
  dsimp only
  split <;> simp

@[simp] theorem State.leavePair_counted (s : State) (i : Slot) (e : Exchange) : (s.leavePair i e).link.counted = s.link.counted := by
  simp [State.leavePair]

@[simp] theorem State.decideResult_counted (s : State) (i : Slot) (st : ResultStatus) (l : List Byte) :
    (s.decideResult i st l).link.counted = s.link.counted := by
  unfold State.decideResult
  split <;> simp

@[simp] theorem State.freeSlot_counted (s : State) (i : Slot) : (s.freeSlot i).link.counted = s.link.counted := by
  unfold State.freeSlot State.endTableWait
  split <;> rfl

@[simp] theorem State.seekFate_counted (s : State) (i : Slot) (x : Option PortId) :
    (s.seekFate i x).link.counted = s.link.counted := by
  unfold State.seekFate
  (repeat' split) <;> simp

@[simp] theorem State.handBack_counted (s : State) (p : PortId) (i : Slot) :
    (State.handBack p s i).link.counted = s.link.counted := by
  simp [State.handBack, State.unanswered]

@[simp] theorem State.dropLink_counted (s : State) (p : PortId) (st : PortState) :
    (s.dropLink p st).link.counted = s.link.counted := by
  simp only [State.dropLink, State.offerPortLoss_frame]
  rw [foldl_keeps (fun u => u.link.counted) _ fun u i => u.handBack_counted p i]
  simp

@[simp] theorem State.loseLink_counted (s : State) (p : PortId) (c : PortCause) :
    (s.loseLink p c).link.counted = s.link.counted := by
  simp [State.loseLink]

@[simp] theorem State.takeDamaged_counted (s : State) (p : PortId) : (s.takeDamaged p).link.counted = s.link.counted := by
  simp only [State.takeDamaged]
  (repeat' split) <;> simp

@[simp] theorem State.resetPort_counted (s : State) (p : PortId) : (s.resetPort p).link.counted = s.link.counted := by
  simp only [State.resetPort]
  split <;> simp

@[simp] theorem State.portOff_counted (s : State) (p : PortId) : (s.portOff p).link.counted = s.link.counted := by
  simp only [State.portOff]
  split <;> simp

@[simp] theorem State.drain_counted (s : State) (p : PortId) : (s.drain p).link.counted = s.link.counted := by
  simp [State.drain]

@[simp] theorem State.quiesce_counted (s : State) (p : PortId) : (s.quiesce p).link.counted = s.link.counted := by
  simp only [State.quiesce]
  split <;> simp

@[simp] theorem State.drainEmptied_counted (before s : State) : (before.drainEmptied s).link.counted = s.link.counted :=
  foldl_keeps (fun u => u.link.counted) _ (fun u p => by split <;> simp) _ _

@[simp] theorem State.dueResend_counted (s : State) (i : Slot) (e : Exchange) : (s.dueResend i e).link.counted = s.link.counted := by
  unfold State.dueResend
  (repeat' split) <;> simp

@[simp] theorem State.takeFinding_counted (s : State) (p : PortId) (i : Slot) (e : Exchange) (l : List Byte) (f : Finding) :
    (s.takeFinding p i e l f).link.counted = s.link.counted := by
  cases f <;> simp [State.takeFinding]

@[simp] theorem State.moveSent_counted (s : State) (p : PortId) (i : Slot) (e : Exchange) :
    (s.moveSent p i e).link.counted = s.link.counted := by
  unfold State.moveSent
  (repeat' split) <;> simp

@[simp] theorem State.walkOne_counted (s : State) (p : PortId) (i : Slot) (e : Exchange) :
    (s.walkOne p i e).link.counted = s.link.counted := by
  simp only [State.walkOne, State.unanswered]
  (repeat' split) <;> simp

/-! ### Notices join the queue -/

theorem foldl_queueNotice (notices : List Notice) (l : HostLink) : ∃ queue dropped,
    notices.foldl queueNotice l = { l with notices := queue, dropped := dropped } ∧ (l.notices.length ≤ 16 → queue.length ≤ 16) := by
  induction notices generalizing l with
  | nil => exact ⟨l.notices, l.dropped, rfl, id⟩
  | cons n notices ih =>
    rw [List.foldl_cons]
    obtain ⟨queue, dropped, heq, hlen⟩ := ih (queueNotice l n)
    rw [heq]
    unfold queueNotice at hlen ⊢
    split at hlen
    next h =>
      refine ⟨queue, dropped, by rw [if_pos h], fun _ => hlen ?_⟩
      have : l.notices.length < 16 := h
      simp only [List.length_append, List.length_singleton]
      omega
    next h => exact ⟨queue, dropped, by rw [if_neg h], hlen⟩

/-- Everything of the link but its notices and their dropped mark. -/
theorem State.flush_link_eq (s : State) : ∃ queue dropped,
    s.flush.link = { s.link with notices := queue, dropped := dropped } ∧ (s.link.notices.length ≤ 16 → queue.length ≤ 16) :=
  foldl_queueNotice _ _

/-! ### What LinkBounded rests on -/

/-- With nothing raised, the bounds rest on the station's state, CREDIT BATCH and the link but for what its head waits for. -/
theorem State.LinkBounded.of_counted {s t : State} (h : s.LinkBounded) (hlink : t.link.counted = s.link.counted)
    (hstation : t.station = s.station) (hconfig : t.config = s.config) (hraised : t.raised = []) : t.LinkBounded := by
  have hl : ∀ {α : Type} (f : HostLink → α), f t.link.counted = f s.link.counted := fun f => by rw [hlink]
  have ingress : t.link.ingress = s.link.ingress := hl HostLink.ingress
  have freed : t.link.freed = s.link.freed := hl HostLink.freed
  have due : t.link.returnDue = s.link.returnDue := hl HostLink.returnDue
  have credits : t.link.credits = s.link.credits := hl HostLink.credits
  have replies : t.link.replies = s.link.replies := hl HostLink.replies
  have notices : t.link.notices = s.link.notices := hl HostLink.notices
  constructor
  · rw [ingress]; exact h.ingress
  · rw [freed]; exact h.freed
  · rw [credits]; exact h.credits
  · rw [replies]; exact h.replies
  · rw [notices]; exact h.notices
  · exact hraised
  · rw [due, freed]; exact h.counted
  · rw [hconfig, due, freed]; exact h.batch
  · rw [ingress, due, freed]; exact h.emptied
  · rw [hstation, freed]; exact h.loading

theorem State.LinkBounded.flush {s : State} (h : ({ s with raised := [] } : State).LinkBounded) : s.flush.LinkBounded := by
  obtain ⟨queue, dropped, heq, hlen⟩ := s.flush_link_eq
  obtain ⟨ingress, freed, credits, replies, notices, raised, counted, batch, emptied, loading⟩ := h
  constructor <;> try rw [heq]
  all_goals first | assumption | exact hlen notices

theorem State.LinkBounded.flush_of_counted {s t : State} (h : s.LinkBounded) (hlink : t.link.counted = s.link.counted)
    (hstation : t.station = s.station) (hconfig : t.config = s.config) : t.flush.LinkBounded :=
  State.LinkBounded.flush (h.of_counted hlink hstation hconfig rfl)

theorem State.LinkBounded.close_of_counted {s t : State} (h : s.LinkBounded) (hlink : t.link.counted = s.link.counted)
    (hstation : t.station = s.station) (hconfig : t.config = s.config) : t.close.LinkBounded :=
  h.flush_of_counted (by simpa using hlink) (by simpa using hstation) (by simpa using hconfig)

end Sys2Proof.Machine

namespace Sys2Proof.Machine
open Sys2Proof

/-! ### The commands that work on the host link itself -/

theorem State.LinkBounded.closeFrom_of_counted {s t : State} (h : s.LinkBounded) (before : State)
    (hlink : t.link.counted = s.link.counted) (hstation : t.station = s.station) (hconfig : t.config = s.config) :
    (before.closeFrom t).LinkBounded :=
  h.close_of_counted (by simpa using hlink) (by simpa using hstation) (by simpa using hconfig)

/-- A credit freed on a link that may receive: a return falls due where R153 makes it so. -/
theorem State.LinkBounded.freeCredit {s : State} (h : s.LinkBounded) (hup : s.station.state ≠ .loading) (ingress : List HostFrame)
    (hlen : ingress.length ≤ 32) (wait : HeadWait) :
    (s.setLink (freeCredit (creditBatch s.config) { s.link with ingress := ingress, headWait := wait })).LinkBounded := by
  have hfreed := h.freed
  constructor
  · exact hlen
  · exact Nat.min_le_right _ _
  · exact h.credits
  · exact h.replies
  · exact h.notices
  · exact h.raised
  · intro _
    show 1 ≤ min (s.link.freed + 1) 32
    omega
  · intro (hb : creditBatch s.config ≤ min (s.link.freed + 1) 32)
    show (s.link.returnDue || decide (creditBatch s.config ≤ min (s.link.freed + 1) 32) || _) = true
    simp [hb]
  · rintro (rfl : ingress = []) -
    show (s.link.returnDue || _ || List.isEmpty []) = true
    simp
  · exact fun hl => absurd hl hup

theorem State.LinkBounded.popIngress {s : State} (h : s.LinkBounded) (hup : s.station.state ≠ .loading) : s.popIngress.LinkBounded :=
  h.freeCredit hup _ (by have := h.ingress; simp only [List.length_tail]; omega) _

theorem State.LinkBounded.pushReply {s : State} (h : s.LinkBounded) (hroom : s.link.replies.length < 8) (r : Reply) :
    (s.pushReply r).LinkBounded := by
  obtain ⟨ingress, freed, credits, replies, notices, raised, counted, batch, emptied, loading⟩ := h
  constructor <;> first | assumption | skip
  simp only [State.pushReply_link, List.length_append, List.length_singleton]
  omega

@[simp] theorem State.flush_replies (s : State) : s.flush.link.replies = s.link.replies := by
  obtain ⟨_, _, heq, -⟩ := s.flush_link_eq
  rw [heq]

@[simp] theorem State.close_replies (s : State) : s.close.link.replies = s.link.replies := by
  simp [State.close]

/-- A control request keeps the bounds where its owner does so and leaves room for its reply. -/
theorem State.Sound.leads_onRequest_link {s : State} (h : s.Sound) {α : Type} {code : Byte} {read : List Byte → Option α}
    {owner : α → State → Answered}
    (hown : ∀ x (u : State), u.LinkBounded → configInRange u.config → u.station.state ≠ .loading → u.link.replies.length < 8 →
      (owner x u).state.LinkBounded ∧ (owner x u).state.link.replies.length < 8) :
    Leads State.LinkBounded (s.onRequest code read owner) := by
  refine Leads.onRequest h.link fun hup hroom _ => ?_
  have hpop := h.link.popIngress hup
  refine ⟨fun r => hpop.pushReply hroom r, fun x r => ?_⟩
  obtain ⟨hb, hr⟩ := hown x _ hpop h.bounded.config hup hroom
  exact hb.pushReply hr r

/-- What an owner that closes its step leaves of the link. -/
theorem State.LinkBounded.owner_close {u t : State} (h : u.LinkBounded) (hroom : u.link.replies.length < 8)
    (hlink : t.link.counted = u.link.counted) (hstation : t.station = u.station) (hconfig : t.config = u.config) :
    t.close.LinkBounded ∧ t.close.link.replies.length < 8 := by
  refine ⟨h.close_of_counted hlink hstation hconfig, ?_⟩
  have hr : t.link.counted.replies = u.link.counted.replies := by rw [hlink]
  rw [State.close_replies]
  exact hr ▸ hroom

/-! #### CONFIGURE, the load and the host reset -/

/-- The credit return under a new CREDIT BATCH (R153, R165). -/
theorem State.applyItems_link (s : State) (after : Config.Settings) : (s.applyItems after).link =
    { s.link with returnDue := s.link.returnDue || (itemChanges s.config after 26 && decide (creditBatch after ≤ s.link.freed)) } := by
  have hlast : ∀ u : State, u.link = s.link →
      (if (itemChanges s.config after 26 && decide (creditBatch after ≤ u.link.freed)) = true then
        u.setLink { u.link with returnDue := true } else u).link =
      { s.link with returnDue := s.link.returnDue || (itemChanges s.config after 26 && decide (creditBatch after ≤ s.link.freed)) } := by
    intro u hu
    rw [hu]
    cases itemChanges s.config after 26 && decide (creditBatch after ≤ s.link.freed) <;> simp [hu, State.setLink]
  unfold State.applyItems
  refine hlast _ ?_
  simp only [State.mapCells, State.dropExpired]
  (repeat' split) <;> simp

theorem item_creditBatch (v : Config.Settings) : item v 26 = creditBatch v := rfl

@[simp] theorem State.applyItems_config (s : State) (after : Config.Settings) : (s.applyItems after).config = after := by
  simp only [State.applyItems, State.mapCells, State.dropExpired]
  (repeat' split) <;> simp

theorem State.LinkBounded.applyItems {s : State} (h : s.LinkBounded) {after : Config.Settings} (hafter : configInRange after) :
    (s.applyItems after).close.LinkBounded := by
  have hpos := hafter.creditBatch_pos
  have hlink := s.applyItems_link after
  refine State.LinkBounded.flush ?_
  constructor <;> simp only [State.settleReady_link, State.settleReady_config, State.settleReady_station, hlink,
    State.applyItems_config, State.applyItems_frame]
  · exact h.ingress
  · exact h.freed
  · exact h.credits
  · exact h.replies
  · exact h.notices
  · simp only [Bool.or_eq_true, Bool.and_eq_true, decide_eq_true_eq]
    rintro (hdue | ⟨-, hb⟩)
    · exact h.counted hdue
    · omega
  · intro hb
    by_cases hchanged : itemChanges s.config after 26 = true
    · simp [hchanged, hb]
    · have heq : creditBatch s.config = creditBatch after := by simpa [itemChanges, item_creditBatch] using hchanged
      simp [h.batch (heq ▸ hb)]
  · intro he hf
    simp [h.emptied he hf]
  · exact h.loading

theorem State.LinkBounded.enterStandby {s : State} (h : s.LinkBounded) (hload : s.station.state = .loading)
    (loaded : LoadOutcome × Config.Settings) (hrange : configInRange loaded.2) (sequence : Bool) :
    (s.enterStandby loaded sequence).LinkBounded := by
  have hpos := hrange.creditBatch_pos
  have hfreed := h.loading hload
  have hbase : ∀ (station : Station) (row : RowBus), station.state = .standby →
      ({ s with config := loaded.2, station := station, row := row } : State).LinkBounded := by
    intro station row hst
    obtain ⟨ingress, freed, credits, replies, notices, raised, counted, batch, emptied, loading⟩ := h
    constructor <;> first | assumption | skip
    · exact fun (hb : creditBatch loaded.2 ≤ s.link.freed) => by omega
    · intro hl
      rw [show ({ s with config := loaded.2, station := station, row := row } : State).station = station from rfl, hst] at hl
      cases hl
  unfold State.enterStandby
  refine (hbase { s.station with
    state := .standby, loadBegan := none, outcome := some loaded.1
    resetKind := { s.station.resetKind with host := s.station.resetKind.host || sequence } }
    { s.row with phase := .waiting, pending := .sighting } rfl).close_of_counted ?_ ?_ ?_ <;> simp

theorem State.LinkBounded.hostReset (s : State) (hrange : configInRange s.config) :
    s.hostReset.LinkBounded ∧ s.hostReset.link.replies = [] := by
  have hpos := hrange.creditBatch_pos
  have hcleared : s.hostCleared.LinkBounded := by
    constructor <;> simp [State.hostCleared, State.loseQuiescingCells, HostLink.afterReset]
    rw [foldl_keeps (fun u => u.config) _ fun u p => by simp]
    omega
  have hrestart : s.hostCleared.queueRestart.LinkBounded ∧ s.hostCleared.queueRestart.link.replies = [] := by
    unfold State.queueRestart
    dsimp only
    have hstarted := hcleared.flush_of_counted (t := s.hostCleared.raise (.started s.hostCleared.station.id
      s.hostCleared.station.resetKind s.hostCleared.station.outcome)) rfl rfl rfl
    split
    · exact ⟨hstarted.flush_of_counted rfl rfl rfl, by simp [State.hostCleared, HostLink.afterReset]⟩
    · exact ⟨hstarted, by simp [State.hostCleared, HostLink.afterReset]⟩
  unfold State.hostReset
  dsimp only
  refine ⟨hrestart.1.close_of_counted ?_ ?_ ?_, ?_⟩ <;> split <;> simp [hrestart.2]

/-! #### Frames from and to the host -/

theorem State.LinkBounded.takeHostFrame {s : State} (h : s.LinkBounded) (hup : s.station.state ≠ .loading) (frame : List Byte) :
    (s.takeHostFrame frame).LinkBounded := by
  obtain ⟨ingress, freed, credits, replies, notices, raised, counted, batch, emptied, loading⟩ := id h
  unfold State.takeHostFrame
  split
  · unfold State.joinIngress
    split
    next hroom =>
      have hroom' : s.link.ingress.length < 32 := hroom
      constructor <;> first | assumption | skip
      · simp only [State.setLink, List.length_append, List.length_singleton]
        omega
      · simp [State.setLink]
    · exact h.flush_of_counted rfl rfl rfl
  · constructor <;> first | assumption | exact Nat.min_le_right _ _
  · exact h.freeCredit hup s.link.ingress ingress s.link.headWait
  · exact h

theorem State.LinkBounded.sendCreditReturn {s : State} (h : s.LinkBounded) (hpos : 1 ≤ creditBatch s.config) :
    Leads State.LinkBounded (execSendCreditReturn s) := by
  unfold execSendCreditReturn
  split
  · refine .next ?_
    constructor <;> simp only [State.setLink]
    · exact h.ingress
    · exact Nat.zero_le _
    · exact h.credits
    · exact h.replies
    · exact h.notices
    · exact h.raised
    · simp
    · exact fun (hb : creditBatch s.config ≤ 0) => by omega
    · exact fun _ hf => absurd hf (by decide)
    · exact fun _ => trivial
  · exact .next h

/-- A frame that leaves its queue takes a credit; the queues only get shorter. -/
theorem State.LinkBounded.send {s : State} (h : s.LinkBounded) (replies : List Reply) (notices : List Notice) (run : Nat) (dropped : Bool)
    (hr : replies.length ≤ 8) (hn : notices.length ≤ 16) (f : HostBound) :
    (s.setLink ({ s.link with replies := replies, notices := notices, resultRun := run, dropped := dropped }.send f)).LinkBounded := by
  obtain ⟨ingress, freed, credits, -, -, raised, counted, batch, emptied, loading⟩ := h
  constructor <;> first | assumption | skip
  exact (Nat.sub_le _ _).trans credits

theorem State.LinkBounded.sendControlReply {s : State} (h : s.LinkBounded) : Leads State.LinkBounded (execSendControlReply s) := by
  unfold execSendControlReply
  split
  · split
    · exact .next h
    next r rest hq =>
      have hlen := h.replies
      rw [hq, List.length_cons] at hlen
      exact .next (h.send rest s.link.notices s.link.resultRun s.link.dropped (by omega) h.notices _)
  · exact .next h

theorem State.LinkBounded.sendNotice {s : State} (h : s.LinkBounded) : Leads State.LinkBounded (execSendNotice s) := by
  unfold execSendNotice
  split
  · split
    · exact .next h
    next n rest hq =>
      have hlen := h.notices
      rw [hq, List.length_cons] at hlen
      exact .next (h.send s.link.replies rest 0 false h.replies (by omega) _)
  · exact .next h

theorem State.LinkBounded.sendResult {s : State} (h : s.LinkBounded) : Leads State.LinkBounded (execSendResult s) := by
  unfold execSendResult
  split
  · split
    · exact .next h
    next i rest _ =>
      split
      next e _ =>
        split
        next status _ =>
          have hsent := h.send s.link.replies s.link.notices (s.link.resultRun + 1) s.link.dropped h.replies h.notices
            (.result (resultFrame e status))
          exact .next (hsent.of_counted (by simp) (by simp) (by simp) (by simpa using h.raised))
        · exact .next h
      · exact .next h
  · exact .next h

theorem State.LinkBounded.admission {s : State} (h : s.LinkBounded) : Leads State.LinkBounded (execAdmission s) := by
  unfold execAdmission
  split
  next hfree =>
    have hup : s.station.state ≠ .loading := by
      simp only [State.headFree, Bool.and_eq_true, State.linkUp_iff] at hfree
      exact hfree.1
    split
    next b rest _ =>
      split
      · exact .next (h.of_counted rfl rfl rfl h.raised)
      next i free _ =>
        split
        next status _ =>
          have hfilled : ((s.fillSlot i free (b.exchange (.waiting .firstSend))).answer i status []).LinkBounded :=
            h.of_counted (by simp) (by simp) (by simp) (by simpa using h.raised)
          exact .next (hfilled.popIngress (by simpa using hup))
        · split
          · exact .next (h.of_counted rfl rfl rfl h.raised)
          next u htake =>
            have hu := State.takeEntry_frame htake
            have hentered : (u.enter i free b).LinkBounded :=
              h.of_counted (by simp [hu]) (by simp [hu]) (by simp [hu]) (by simpa [hu] using h.raised)
            exact .next ((hentered.popIngress (by simpa [hu] using hup)).close_of_counted rfl rfl rfl)
    · exact .next h
  · exact .next h

end Sys2Proof.Machine

namespace Sys2Proof.Machine
open Sys2Proof

/-! ### O54 -/

/-- What an owner that changes neither link nor notices, or answers a report, keeps of the link. -/
theorem State.LinkBounded.owner_same {u t : State} (h : u.LinkBounded) (hroom : u.link.replies.length < 8) (hlink : t.link = u.link)
    (hstation : t.station = u.station) (hconfig : t.config = u.config) (hraised : t.raised = u.raised) :
    t.LinkBounded ∧ t.link.replies.length < 8 :=
  ⟨h.of_counted (by rw [hlink]) hstation hconfig (hraised.trans h.raised), hlink ▸ hroom⟩

/-- ENABLE and WITHDRAW move the station among the states in which the link is up. -/
theorem State.LinkBounded.owner_station {u t : State} (h : u.LinkBounded) (hroom : u.link.replies.length < 8) (hlink : t.link = u.link)
    (hstation : t.station.state ≠ .loading) (hconfig : t.config = u.config) (hraised : t.raised = u.raised) :
    t.LinkBounded ∧ t.link.replies.length < 8 := by
  obtain ⟨ingress, freed, credits, replies, notices, raised, counted, batch, emptied, loading⟩ := h
  refine ⟨?_, hlink ▸ hroom⟩
  constructor <;> simp only [hlink, hconfig, hraised] <;> first | assumption | exact fun hl => absurd hl hstation

theorem ownConfigure_linkBounded (items : List (Nat × Nat)) (u : State) (h : u.LinkBounded) (hroom : u.link.replies.length < 8) :
    (ownConfigure items u).state.LinkBounded ∧ (ownConfigure items u).state.link.replies.length < 8 := by
  unfold ownConfigure
  split
  · exact ⟨h, hroom⟩
  · split
    · exact ⟨h, hroom⟩
    · refine ⟨h.applyItems (configInRange_clampAll _), ?_⟩
      simpa [State.applyItems_link] using hroom

theorem ownPin_linkBounded (a : PinArgs) (u : State) (h : u.LinkBounded) (hroom : u.link.replies.length < 8) :
    (ownPin a u).state.LinkBounded ∧ (ownPin a u).state.link.replies.length < 8 := by
  unfold ownPin
  split
  · exact ⟨h, hroom⟩
  · split
    · exact ⟨h, hroom⟩
    · have hi := u.install_sameButCache a
      refine h.owner_same hroom ?_ ?_ ?_ ?_ <;> simp only [doneWith] <;> rw [hi] <;> rfl

theorem ownPort_linkBounded (u : State) (h : u.LinkBounded) (hroom : u.link.replies.length < 8) :
    (∀ a, (ownPortOffGraceful a u).state.LinkBounded ∧ (ownPortOffGraceful a u).state.link.replies.length < 8) ∧
    (∀ a, (ownPortOffImmediate a u).state.LinkBounded ∧ (ownPortOffImmediate a u).state.link.replies.length < 8) ∧
    (∀ p, (ownPortOn p u).state.LinkBounded ∧ (ownPortOn p u).state.link.replies.length < 8) := by
  refine ⟨fun a => ?_, fun a => ?_, fun p => ?_⟩
  · unfold ownPortOffGraceful
    split
    · exact h.owner_close hroom (by simp) (by simp) (by simp)
    · exact h.owner_close hroom (by simp) (by simp) (by simp)
    · exact h.owner_close hroom (by simp) (by simp) (by simp)
    · exact h.owner_close hroom (by simp) (by simp) (by simp)
    · exact ⟨h, hroom⟩
    · exact ⟨h, hroom⟩
  · unfold ownPortOffImmediate
    split
    · exact ⟨h, hroom⟩
    · exact h.owner_close hroom (by simp) (by simp) (by simp)
  · unfold ownPortOn
    split
    · exact h.owner_close hroom (by simp) (by simp) (by simp)
    · exact h.owner_close hroom (by simp) (by simp) (by simp)
    all_goals exact ⟨h, hroom⟩

theorem endWith_linkBounded {act : Slot → Exchange → State → State} (hact : ∀ i e u, (act i e u).link.counted = u.link.counted ∧
    (act i e u).station = u.station ∧ (act i e u).config = u.config) (x : Word32) (u : State) (h : u.LinkBounded)
    (hroom : u.link.replies.length < 8) :
    (endWith act x u).state.LinkBounded ∧ (endWith act x u).state.link.replies.length < 8 := by
  unfold endWith
  split
  · exact ⟨h, hroom⟩
  next i _ =>
    split
    · exact ⟨h, hroom⟩
    next e _ =>
      split
      · obtain ⟨hlink, hstation, hconfig⟩ := hact i e u
        exact h.owner_close hroom (by simpa using hlink) (by simpa using hstation) (by simpa using hconfig)
      · exact ⟨h, hroom⟩

/-- PORT OFF's two commands and CONFIGURE read the head themselves. -/
theorem State.LinkBounded.takeControl {s : State} (h : s.LinkBounded) (hup : s.station.state ≠ .loading)
    (hroom : s.link.replies.length < 8) {α : Type} {code : Byte} {args : List Byte} {body : ReplyBody} {read : List Byte → Option α}
    {owner : α → State → Answered}
    (hown : ∀ x (u : State), u.LinkBounded → u.link.replies.length < 8 →
      (owner x u).state.LinkBounded ∧ (owner x u).state.link.replies.length < 8) :
    (s.takeControl code args body read owner).LinkBounded := by
  have hpop := h.popIngress hup
  refine Leads.takeControl (fun r => hpop.pushReply hroom r) fun x r => ?_
  obtain ⟨hb, hr⟩ := hown x _ hpop hroom
  exact hb.pushReply hr r

/-- Every command keeps the host link within its bounds. -/
theorem exec_linkBounded (c : Instr) (s : State) (h : s.Sound) : Leads State.LinkBounded (exec c s) := by
  have hl := h.link
  cases c with
  | powerOn straps pin =>
    simp only [exec, execPowerOn, State.fullResetHeld, State.fullResetBegun]
    split <;> exact .next (State.afterFullReset_linkBounded _ _ _)
  | resetPinAsserted =>
    simp only [exec, execResetPinAsserted, State.fullResetHeld]
    split
    · exact .next hl
    · exact .next (State.afterFullReset_linkBounded _ _ _)
  | resetPinReleased straps =>
    simp only [exec, execResetPinReleased, State.fullResetBegun]
    split
    · exact .next (State.afterFullReset_linkBounded _ _ _)
    · exact .next hl
  | eepromLoadComplete image sequence =>
    simp only [exec, execEepromLoadComplete]
    split
    next hload _ => exact .next (hl.enterStandby hload _ (configInRange_loadImage _) _)
    · exact .next hl
  | eepromReadTimeout sequence =>
    simp only [exec, execEepromReadTimeout]
    split
    next hload _ =>
      split
      · exact .next (hl.enterStandby hload _ (configInRange_loadImage _) _)
      · exact .next hl
    · exact .next hl
  | hostRequestArrival frame =>
    simp only [exec, execHostRequestArrival]
    split
    next hup => exact .next (hl.takeHostFrame ((State.linkUp_iff s).1 hup) _)
    · exact .next hl
  | hostCreditArrival frame =>
    simp only [exec, execHostCreditArrival]
    split
    next hup => exact .next (hl.takeHostFrame ((State.linkUp_iff s).1 hup) _)
    · exact .next hl
  | hostLinkResetSequence =>
    simp only [exec, execHostLinkResetSequence]
    split
    · exact .next hl
    · exact .next (State.LinkBounded.hostReset s h.bounded.config).1
  | admission => exact hl.admission
  | sendCreditReturn => exact hl.sendCreditReturn h.bounded.config.creditBatch_pos
  | sendControlReply => exact hl.sendControlReply
  | sendNotice => exact hl.sendNotice
  | sendResult => exact hl.sendResult
  | configure =>
    simp only [exec, execConfigure]
    split
    next hhead =>
      obtain ⟨hup, hroom, -⟩ := s.controlHead_eq_some hhead
      split
      · exact .next (hl.takeControl hup hroom ownConfigure_linkBounded)
      · exact .next hl
    · exact .next hl
  | enable =>
    refine h.leads_onRequest_link fun x u hu _ hup hroom => ?_
    unfold ownEnable
    split
    · exact hu.owner_station hroom rfl (by simp [doneWith, State.setStation]) rfl rfl
    · exact ⟨hu, hroom⟩
  | withdraw =>
    refine h.leads_onRequest_link fun x u hu _ hup hroom => ?_
    unfold ownWithdraw
    split
    · exact hu.owner_station hroom rfl (by simp [doneWith, State.setStation, State.setRow]) rfl rfl
    · exact ⟨hu, hroom⟩
  | status | readConfig | readExchange | readPort | readRoute | readPeer | readVerdict | lookup =>
    exact h.leads_onRequest_link fun x u hu _ _ hroom => ⟨hu, hroom⟩
  | pin => exact h.leads_onRequest_link fun a u hu _ _ hroom => ownPin_linkBounded a u hu hroom
  | flush => exact h.leads_onRequest_link fun _ u hu _ _ hroom => hu.owner_same hroom rfl rfl rfl rfl
  | portOffGraceful =>
    simp only [exec, execPortOffGraceful]
    split
    next hhead =>
      obtain ⟨hup, hroom, -⟩ := s.controlHead_eq_some hhead
      split
      · exact .next (hl.takeControl hup hroom fun a u hu hr => (ownPort_linkBounded u hu hr).1 a)
      · exact .next hl
    · exact .next hl
  | portOffImmediate =>
    simp only [exec, execPortOffImmediate]
    split
    next hhead =>
      obtain ⟨hup, hroom, -⟩ := s.controlHead_eq_some hhead
      split
      · exact .next (hl.takeControl hup hroom fun a u hu hr => (ownPort_linkBounded u hu hr).2.1 a)
      · exact .next hl
    · exact .next hl
  | portOn => exact h.leads_onRequest_link fun p u hu _ _ hroom => (ownPort_linkBounded u hu hroom).2.2 p
  | resetPort => exact h.leads_onRequest_link fun p u hu _ _ hroom => hu.owner_close hroom (by simp) (by simp) (by simp)
  | endExchange =>
    exact h.leads_onRequest_link fun x u hu _ _ hroom => endWith_linkBounded (fun i e u => by simp) x u hu hroom
  | cancel =>
    exact h.leads_onRequest_link fun x u hu _ _ hroom => endWith_linkBounded (fun i e u => by simp) x u hu hroom
  | hostReset =>
    refine h.leads_onRequest_link fun _ u hu hrange _ _ => ?_
    obtain ⟨hb, hr⟩ := State.LinkBounded.hostReset u hrange
    exact ⟨hb, by simp [doneWith, hr]⟩
  | unknownRequest =>
    simp only [exec, execUnknownRequest]
    split
    next hhead =>
      obtain ⟨hup, hroom, -⟩ := s.controlHead_eq_some hhead
      split
      · exact .next hl
      · exact .next (hl.takeControl hup hroom fun _ u hu hr => ⟨hu, hr⟩)
    · exact .next hl
  | sendExchange | answerArrival | answerWaitExpiry | holdExpiry | traceReplyArrival | traceWaitExpiry | signalArriving | signalLost
  | trainingWaitExpiry | linkOffer | reach | damagedFrame | linkSilenceExpiry | portResetHoldExpiry | echo | probeWaitExpiry | walkStep
  | entriesStep | pairPhaseStep | heldPhaseStep | rowFrameStart | sightingReceived | withdrawReceived | lineHeldLow | cleared
  | peerEntryStale | peerEntryExpired | clearHoldExpiry | staggerExpiry | traceTransmission | fabricCreditArrival | idleTick | probeDue
  | probeSend | workItemTakenUp | lostArbitration | bitError | rowFrameSentWhole | frameBrokenOff | driveRetryExpiry
  | periodicSightingDue | changeSightingDue =>
    simp only [exec, execSendExchange, execAnswerArrival, execAnswerWaitExpiry, execHoldExpiry, execTraceReplyArrival,
      execTraceWaitExpiry, execSignalArriving, execSignalLost, execTrainingWaitExpiry, execLinkOffer, execReach, execDamagedFrame,
      execLinkSilenceExpiry, execPortResetHoldExpiry, execEcho, execProbeWaitExpiry, execWalkStep, execEntriesStep,
      execPairPhaseStep, execHeldPhaseStep, execRowFrameStart, execSightingReceived, execWithdrawReceived, execLineHeldLow,
      execCleared, execPeerEntryStale, execPeerEntryExpired, execClearHoldExpiry, execStaggerExpiry, execTraceTransmission,
      execFabricCreditArrival, execIdleTick, execProbeDue, execProbeSend, execWorkItemTakenUp, execLostArbitration, execBitError,
      execRowFrameSentWhole, execFrameBrokenOff, execDriveRetryExpiry, execPeriodicSightingDue, execChangeSightingDue,
      State.failDrive, State.conflict, State.replacePeer, State.unanswered]
    (repeat' split) <;> apply Leads.next <;> first
      | with_reducible exact hl
      | with_reducible refine hl.closeFrom_of_counted _ ?_ ?_ ?_ <;> simp
      | with_reducible refine hl.close_of_counted ?_ ?_ ?_ <;> simp
      | with_reducible refine hl.flush_of_counted ?_ ?_ ?_ <;> simp [State.endReceive]
      | refine hl.of_counted ?_ ?_ ?_ ?_ <;> simp [hl.raised, State.endReceive]

/-- Settles O54. -/
theorem hostLinkStaysBounded : Obligations.HostLinkStaysBounded := fun s t h ht =>
  Leads.step (fun _ h => h.link) exec_linkBounded s t h ht

end Sys2Proof.Machine

namespace Sys2Proof.Machine
open Sys2Proof

/-! ### What of the ports and of the cache the exchange table rests on -/

theorem mem_allPlaces (pl : Place) : pl ∈ allPlaces := by
  obtain ⟨i, w⟩ := pl
  refine List.mem_flatMap.2 ⟨i, List.mem_finRange i, List.mem_map.2 ⟨w, ?_, rfl⟩⟩
  show w ∈ ([0, 1, 2, 3] : List (Fin 4))
  revert w
  decide

/-- The pending traces of each port. -/
def tracesOf (ports : Vector Port 4) (p : PortId) : List Slot := ports[p].pendingTraces

/-- The state of each port. -/
def statesOf (ports : Vector Port 4) (p : PortId) : PortState := ports[p].state

/-- An entry without its drain marks. -/
def Entry.core (e : Entry) : Entry := { e with quiesceMark := false, verdictMark := none }

/-- The entry at each place without its drain marks. -/
def coresOf (cache : Vector CacheSet 64) (pl : Place) : Option Entry := ((cache[pl.set]).ways[pl.way]).map Entry.core

theorem tracesOf_eq (s : State) (p : PortId) : tracesOf s.ports p = (s.port p).pendingTraces := rfl
theorem statesOf_eq (s : State) (p : PortId) : statesOf s.ports p = (s.port p).state := rfl
theorem coresOf_eq (s : State) (pl : Place) : coresOf s.cache pl = (s.entryAt pl).map Entry.core := rfl

/-- A change of a port that leaves its pending traces leaves all of them. -/
theorem State.tracesOf_modPort (s : State) (p : PortId) (f : Port → Port) (h : (f (s.port p)).pendingTraces = (s.port p).pendingTraces) :
    tracesOf (s.modPort p f).ports = tracesOf s.ports := by
  funext q
  rw [tracesOf_eq, tracesOf_eq, State.port_modPort]
  split
  next he => rw [h, he]
  · rfl

theorem State.statesOf_modPort (s : State) (p : PortId) (f : Port → Port) (h : (f (s.port p)).state = (s.port p).state) :
    statesOf (s.modPort p f).ports = statesOf s.ports := by
  funext q
  rw [statesOf_eq, statesOf_eq, State.port_modPort]
  split
  next he => rw [h, he]
  · rfl

/-! #### Operations that leave the pending traces -/

@[simp] theorem State.joinProbe_tracesOf (s : State) (y : Nat) (p : PortId) : tracesOf (s.joinProbe y p).ports = tracesOf s.ports := by
  unfold State.joinProbe
  dsimp only
  rw [State.tracesOf_modPort _ _ _ (by split <;> rfl), State.modCell_ports]

@[simp] theorem State.joinProbe_statesOf (s : State) (y : Nat) (p : PortId) : statesOf (s.joinProbe y p).ports = statesOf s.ports := by
  unfold State.joinProbe
  dsimp only
  rw [State.statesOf_modPort _ _ _ (by split <;> rfl), State.modCell_ports]

@[simp] theorem State.fallDue_tracesOf (s : State) (y : Nat) (p : PortId) : tracesOf (s.fallDue y p).ports = tracesOf s.ports := by
  unfold State.fallDue
  split <;> simp

@[simp] theorem State.fallDue_statesOf (s : State) (y : Nat) (p : PortId) : statesOf (s.fallDue y p).ports = statesOf s.ports := by
  unfold State.fallDue
  split <;> simp

@[simp] theorem State.enterUntested_tracesOf (s : State) (y : Nat) (p : PortId) :
    tracesOf (s.enterUntested y p).ports = tracesOf s.ports := by
  simp [State.enterUntested]

@[simp] theorem State.enterAbsent_tracesOf (s : State) (y : Nat) (p : PortId) :
    tracesOf (s.enterAbsent y p).ports = tracesOf s.ports := by
  unfold State.enterAbsent
  rw [State.tracesOf_modPort _ _ _ rfl, State.modCell_ports]

@[simp] theorem State.trainCells_tracesOf (s : State) (p : PortId) (l : List Nat) :
    tracesOf (s.trainCells p l).ports = tracesOf s.ports :=
  foldl_keeps (fun u => tracesOf u.ports) _ (fun u y => by split <;> simp) _ _

@[simp] theorem State.miss_tracesOf (s : State) (y : Nat) (p : PortId) : tracesOf (s.miss y p).ports = tracesOf s.ports := by
  simp only [State.miss]
  (repeat' split) <;> simp

@[simp] theorem State.exchangeMiss_tracesOf (s : State) (y : Nat) (p : PortId) (at_ : Time) :
    tracesOf (s.exchangeMiss y p at_).ports = tracesOf s.ports := by
  unfold State.exchangeMiss
  split <;> simp

@[simp] theorem State.resolveEcho_tracesOf (s : State) (y : Nat) (p : PortId) (f : Flight) :
    tracesOf (s.resolveEcho y p f).ports = tracesOf s.ports := by
  simp only [State.resolveEcho, State.echoState, State.fallDue_tracesOf]
  (repeat' split) <;> simp

@[simp] theorem State.detect_tracesOf (s : State) (p : PortId) : tracesOf (s.detect p).ports = tracesOf s.ports := by
  unfold State.detect
  split
  · rw [(State.announce_frame _ _ _ _).2.2.2.2.2.1, State.tracesOf_modPort _ _ _ rfl]
  · rfl

@[simp] theorem State.heard_tracesOf (s : State) (p : PortId) : tracesOf (s.heard p).ports = tracesOf s.ports := by
  unfold State.heard
  split
  · rw [State.tracesOf_modPort _ _ _ rfl]
  · rfl

@[simp] theorem State.heard_statesOf (s : State) (p : PortId) : statesOf (s.heard p).ports = statesOf s.ports := by
  unfold State.heard
  split
  · rw [State.statesOf_modPort _ _ _ rfl]
  · rfl

@[simp] theorem State.transmit_tracesOf (s : State) (p : PortId) (f : FabricFrame) : tracesOf (s.transmit p f).ports = tracesOf s.ports :=
  State.tracesOf_modPort _ _ _ rfl

@[simp] theorem State.transmit_statesOf (s : State) (p : PortId) (f : FabricFrame) : statesOf (s.transmit p f).ports = statesOf s.ports :=
  State.statesOf_modPort _ _ _ rfl

@[simp] theorem State.comeUp_tracesOf (s : State) (p : PortId) (a b : Byte) (l : BitVec 64) :
    tracesOf (s.comeUp p a b l).ports = tracesOf s.ports := by
  unfold State.comeUp
  dsimp only
  rw [(State.announce_frame _ _ _ _).2.2.2.2.2.1, State.trainCells_tracesOf, State.tracesOf_modPort _ _ _ rfl]

@[simp] theorem State.reachTarget_tracesOf (s : State) (p : PortId) (old new : List Nat) (y : Nat) :
    tracesOf (State.reachTarget p old new s y).ports = tracesOf s.ports := by
  simp only [State.reachTarget]
  (repeat' split) <;> simp

@[simp] theorem State.takeReach_tracesOf (s : State) (p : PortId) (new : List Nat) :
    tracesOf (s.takeReach p new).ports = tracesOf s.ports := by
  simp only [State.takeReach, State.reportIfLostness_frame]
  rw [foldl_keeps (fun u => tracesOf u.ports) _ fun u y => by simp]
  exact State.tracesOf_modPort _ _ _ rfl

@[simp] theorem State.switchOn_tracesOf (s : State) (p : PortId) : tracesOf (s.switchOn p).ports = tracesOf s.ports := by
  simp only [State.switchOn, State.detect_tracesOf, State.announce_frame]
  exact State.tracesOf_modPort _ _ _ rfl

@[simp] theorem State.resume_tracesOf (s : State) (p : PortId) : tracesOf (s.resume p).ports = tracesOf s.ports := by
  simp only [State.resume]
  rw [foldl_keeps (fun u => tracesOf u.ports) _ fun u y => by simp]
  simp only [State.announce_frame, State.clearQuiesceMarks_frame]
  exact State.tracesOf_modPort _ _ _ rfl

@[simp] theorem State.fallDueAll_tracesOf (s : State) : tracesOf s.fallDueAll.ports = tracesOf s.ports :=
  foldl_keeps (fun u => tracesOf u.ports) _
    (fun u y => foldl_keeps (fun v => tracesOf v.ports) _ (fun v p => v.fallDue_tracesOf y p) allPorts u) _ _

/-! #### Operations that change no more of the cache than its drain marks -/

theorem State.coresOf_mapEntries (s : State) (f : Entry → Entry) (h : ∀ e, (f e).core = e.core) :
    coresOf (s.mapEntries f).cache = coresOf s.cache := by
  funext pl
  have hf : Entry.core ∘ f = Entry.core := funext h
  simp [coresOf, State.mapEntries, Option.map_map, hf]

@[simp] theorem State.setQuiesceMarks_coresOf (s : State) (p : PortId) : coresOf (s.setQuiesceMarks p).cache = coresOf s.cache :=
  s.coresOf_mapEntries _ fun e => by split <;> rfl

@[simp] theorem State.clearQuiesceMarks_coresOf (s : State) (p : PortId) : coresOf (s.clearQuiesceMarks p).cache = coresOf s.cache :=
  s.coresOf_mapEntries _ fun e => by split <;> rfl

@[simp] theorem State.setVerdictMarks_coresOf (s : State) (sw : Nat) : coresOf (s.setVerdictMarks sw).cache = coresOf s.cache :=
  s.coresOf_mapEntries _ fun e => by split <;> rfl

@[simp] theorem State.clearVerdictMarks_coresOf (s : State) (sw : Nat) : coresOf (s.clearVerdictMarks sw).cache = coresOf s.cache :=
  s.coresOf_mapEntries _ fun e => by split <;> rfl

@[simp] theorem State.expireStagger_coresOf (s : State) (sw : Nat) : coresOf (s.expireStagger sw).cache = coresOf s.cache := by
  simp [State.expireStagger]

@[simp] theorem State.becomeFailing_coresOf (s : State) (sw : Nat) (b : Verdict) (v : VerdictRecord) :
    coresOf (s.becomeFailing sw b v).cache = coresOf s.cache := by
  simp only [State.becomeFailing]
  split <;> simp

@[simp] theorem State.recompute_coresOf (s : State) (sw : Nat) : coresOf (s.recompute sw).cache = coresOf s.cache := by
  simp only [State.recompute]
  (repeat' split) <;> simp

@[simp] theorem State.recomputeThose_coresOf (s : State) (which : Nat → Bool) :
    coresOf (s.recomputeThose which).cache = coresOf s.cache :=
  foldl_keeps (fun u => coresOf u.cache) _ (fun u sw => u.recompute_coresOf sw) _ _

@[simp] theorem State.clearVerdict_coresOf (s : State) (sw : Nat) : coresOf (s.clearVerdict sw).cache = coresOf s.cache := by
  simp [State.clearVerdict]

@[simp] theorem State.reportCables_coresOf (s : State) : coresOf s.reportCables.cache = coresOf s.cache := by
  simp [State.reportCables]

@[simp] theorem State.reportIfLostness_coresOf (s : State) (b : Bool) (p : PortId) :
    coresOf (State.reportIfLostness b p s).cache = coresOf s.cache := by
  unfold State.reportIfLostness
  split <;> simp

@[simp] theorem State.announce_coresOf (s : State) (p : PortId) (l : PortState) (c : PortCause) :
    coresOf (s.announce p l c).cache = coresOf s.cache := by
  simp [State.announce]

@[simp] theorem State.detect_coresOf (s : State) (p : PortId) : coresOf (s.detect p).cache = coresOf s.cache := by
  unfold State.detect
  split <;> simp

@[simp] theorem State.miss_coresOf (s : State) (y : Nat) (p : PortId) : coresOf (s.miss y p).cache = coresOf s.cache := by
  simp only [State.miss]
  (repeat' split) <;> simp

@[simp] theorem State.exchangeMiss_coresOf (s : State) (y : Nat) (p : PortId) (at_ : Time) :
    coresOf (s.exchangeMiss y p at_).cache = coresOf s.cache := by
  unfold State.exchangeMiss
  split <;> simp

@[simp] theorem State.resolveEcho_coresOf (s : State) (y : Nat) (p : PortId) (f : Flight) :
    coresOf (s.resolveEcho y p f).cache = coresOf s.cache := by
  simp only [State.resolveEcho, State.echoState, State.fallDue_frame]
  (repeat' split) <;> simp

@[simp] theorem State.comeUp_coresOf (s : State) (p : PortId) (a b : Byte) (l : BitVec 64) :
    coresOf (s.comeUp p a b l).cache = coresOf s.cache := by
  simp [State.comeUp]

@[simp] theorem State.takeReach_coresOf (s : State) (p : PortId) (new : List Nat) :
    coresOf (s.takeReach p new).cache = coresOf s.cache := by
  simp only [State.takeReach, State.reportIfLostness_coresOf]
  rw [foldl_keeps (fun u => u.cache) _ fun u y => by simp]
  rfl

@[simp] theorem State.switchOn_coresOf (s : State) (p : PortId) : coresOf (s.switchOn p).cache = coresOf s.cache := by
  simp [State.switchOn]

@[simp] theorem State.resume_coresOf (s : State) (p : PortId) : coresOf (s.resume p).cache = coresOf s.cache := by
  simp only [State.resume]
  rw [foldl_keeps (fun u => u.cache) _ fun u y => by simp]
  simp

@[simp] theorem State.replacePeer_coresOf (s : State) (i : StationId) (e : Option PeerEntry) :
    coresOf (s.replacePeer i e).cache = coresOf s.cache := by
  simp [State.replacePeer]

@[simp] theorem State.applyItems_coresOf (s : State) (v : Config.Settings) : coresOf (s.applyItems v).cache = coresOf s.cache := by
  simp only [State.applyItems, State.mapCells, State.dropExpired]
  (repeat' split) <;> simp

/-! ### Finding a pair in the cache -/

theorem Entry.holds_iff (e : Entry) (a : Word32) (y : Nat) : e.holds a y = true ↔ e.session = a ∧ e.target = y := by
  simp [Entry.holds]

/-- What stands at the place found holds the pair. -/
theorem State.entryAt_of_findPlace {s : State} {a : Word32} {y : Nat} {pl : Place} (h : s.findPlace a y = some pl) :
    ∃ c, s.entryAt pl = some c ∧ c.session = a ∧ c.target = y := by
  obtain ⟨hset, hway⟩ := (s.findPlace_eq_some_iff a y pl).1 h
  have hholds := List.find?_some hway
  rw [← hset] at hholds
  obtain ⟨c, hc, hh⟩ := (Option.any_eq_true _ _).1 hholds
  exact ⟨c, hc, (c.holds_iff a y).1 hh⟩

/-- Nothing in its set holds a pair that is not found. -/
theorem State.not_holds_of_findPlace_none {s : State} {a : Word32} {y : Nat} (h : s.findPlace a y = none) {pl : Place}
    (hset : pl.set = setIndex a y) {c : Entry} (hc : s.entryAt pl = some c) : ¬ (c.session = a ∧ c.target = y) := by
  intro hholds
  have hnone : (s.cacheSet (setIndex a y)).findWay a y = none := by simpa [State.findPlace] using h
  have := find_allWays_eq_none.1 hnone pl.way
  rw [← hset] at this
  exact this ((Option.any_eq_true _ _).2 ⟨c, hc, (c.holds_iff a y).2 hholds⟩)

/-- The port of a pair rests on the entries without their marks. -/
theorem State.findPlace_congr {s t : State} (h : coresOf t.cache = coresOf s.cache) (a : Word32) (y : Nat) :
    t.findPlace a y = s.findPlace a y := by
  have hany : ∀ pl, (t.entryAt pl).any (·.holds a y) = (s.entryAt pl).any (·.holds a y) := by
    intro pl
    have hpl := congrFun h pl
    rw [coresOf_eq, coresOf_eq] at hpl
    have hcore : ∀ e : Entry, e.holds a y = e.core.holds a y := fun e => rfl
    have hmap : ∀ o : Option Entry, o.any (·.holds a y) = (o.map Entry.core).any (·.holds a y) := by
      intro o
      cases o <;> simp [← hcore]
    rw [hmap, hmap (s.entryAt pl), hpl]
  unfold State.findPlace CacheSet.findWay
  congr 2
  funext w
  exact hany ⟨setIndex a y, w⟩

theorem State.pairPort_congr {s t : State} (h : coresOf t.cache = coresOf s.cache) (a : Word32) (y : Nat) :
    t.pairPort a y = s.pairPort a y := by
  unfold State.pairPort State.entryOf
  rw [State.findPlace_congr h]
  cases s.findPlace a y with
  | none => rfl
  | some pl =>
    have hpl := congrFun h pl
    rw [coresOf_eq, coresOf_eq] at hpl
    have hport : ∀ o : Option Entry, o.bind (·.port) = (o.map Entry.core).bind (·.port) := by
      intro o
      cases o <;> rfl
    rw [Option.bind_some, Option.bind_some, hport, hport (s.entryAt pl), hpl]

end Sys2Proof.Machine

namespace Sys2Proof.Machine
open Sys2Proof

/-! ### The lists of the exchange table between the settlings of the ready lists -/

/-- TableAgrees but for what the ready lists hold, which the close of a step settles (R6). -/
structure State.Listed (s : State) : Prop where
  free : ∀ i : Slot, i ∈ s.ex.free ↔ s.live i = none
  order : ∀ i : Slot, i ∈ s.ex.order ↔ s.slotOpen i = true
  results : ∀ i : Slot, i ∈ s.ex.results ↔ s.slotAnswered i = true
  outstanding : ∀ (i : Slot) (p : PortId), i ∈ s.outstanding p ↔ s.slotPort i = some p
  traces : ∀ (i : Slot) (p : PortId), i ∈ tracesOf s.ports p → s.tracingOn i p = true
  freeOnce : s.ex.free.Nodup
  orderOnce : s.ex.order.Nodup
  resultsOnce : s.ex.results.Nodup
  outstandingOnce : ∀ p : PortId, (s.outstanding p).Nodup
  readyOnce : ∀ p : PortId, (s.ready p).Nodup
  tracesOnce : ∀ p : PortId, (tracesOf s.ports p).Nodup

theorem State.TableAgrees.listed {s : State} (h : s.TableAgrees) : s.Listed :=
  ⟨h.free, h.order, h.results, h.outstanding, h.traces, h.freeOnce, h.orderOnce, h.resultsOnce, h.outstandingOnce, h.readyOnce,
    h.tracesOnce⟩

theorem State.TableAgrees.of_listed {s : State} (h : s.Listed) (hready : ∀ (i : Slot) (p : PortId), i ∈ s.ready p ↔ s.sendable i = some p) :
    s.TableAgrees :=
  ⟨h.free, h.order, h.results, h.outstanding, hready, h.traces, h.freeOnce, h.orderOnce, h.resultsOnce, h.outstandingOnce, h.readyOnce,
    h.tracesOnce⟩

theorem State.phase_of_live {s : State} {i : Slot} {e : Exchange} (h : s.live i = some e) : s.phase i = some e.phase := by
  rw [State.phase, h, Option.map_some]

theorem State.slotOpen_iff (s : State) (i : Slot) : s.slotOpen i = true ↔ ∃ e, s.live i = some e ∧ e.phase.isOpen = true := by
  unfold State.slotOpen State.phase
  cases s.live i <;> simp

theorem State.slotAnswered_iff (s : State) (i : Slot) :
    s.slotAnswered i = true ↔ ∃ e, s.live i = some e ∧ e.phase.isOpen = false := by
  unfold State.slotAnswered State.phase
  cases s.live i <;> simp

theorem State.slotPort_iff (s : State) (i : Slot) (p : PortId) :
    s.slotPort i = some p ↔ ∃ e, s.live i = some e ∧ e.phase.port = some p := by
  unfold State.slotPort State.phase
  cases s.live i <;> simp

theorem State.tracingOn_iff (s : State) (i : Slot) (p : PortId) :
    s.tracingOn i p = true ↔ ∃ e d at_, s.live i = some e ∧ e.phase = .tracing p d at_ := by
  unfold State.tracingOn State.phase
  cases h : s.live i with
  | none => simp
  | some e => cases hp : e.phase <;> simp [hp]

theorem State.sendable_iff (s : State) (i : Slot) (p : PortId) : s.sendable i = some p ↔ ∃ e, s.live i = some e ∧
    s.pairPort e.session e.target = some p ∧ s.isWaiting i = true ∧ (s.port p).state = .up ∧
    (s.pairOrder e.session e.target).find? (fun j => !s.isSent j) = some i ∧
    ((s.pairOrder e.session e.target).filter s.inFlight).length < sessionDepth s.config := by
  unfold State.sendable
  cases s.live i with
  | none => simp
  | some e =>
    simp only [Option.some.injEq, exists_eq_left']
    cases hp : s.pairPort e.session e.target with
    | none => simp
    | some q =>
      simp only [Bool.and_eq_true, beq_iff_eq, decide_eq_true_eq, and_assoc, Option.some.injEq]
      constructor
      · intro h
        split at h
        next hc =>
          cases h
          exact ⟨rfl, hc⟩
        · cases h
      · rintro ⟨rfl, hc⟩
        rw [if_pos hc]

theorem State.isWaiting_iff (s : State) (i : Slot) : s.isWaiting i = true ↔ ∃ e a, s.live i = some e ∧ e.phase = .waiting a := by
  unfold State.isWaiting State.phase
  cases h : s.live i with
  | none => simp
  | some e => cases hp : e.phase <;> simp [hp]

/-- A sendable exchange is WAITING, and so open and in the order. -/
theorem State.Listed.mem_order_of_sendable {s : State} (h : s.Listed) {i : Slot} {p : PortId} (hs : s.sendable i = some p) :
    i ∈ s.ex.order := by
  obtain ⟨_, _, _, hw, _⟩ := (s.sendable_iff i p).1 hs
  obtain ⟨e, a, hlive, hphase⟩ := (s.isWaiting_iff i).1 hw
  exact (h.order i).2 ((s.slotOpen_iff i).2 ⟨e, hlive, by rw [hphase]; rfl⟩)

theorem State.ready_settleReady (s : State) (p : PortId) : s.settleReady.ready p =
    (s.ready p).filter (fun i => s.sendable i == some p) ++
      s.ex.order.filter (fun i => s.sendable i == some p && !(s.ready p).contains i) := by
  simp [State.ready, State.settleReady]

/-- The close settles the ready lists (R6). -/
theorem State.Listed.settleReady {s : State} (h : s.Listed) : s.settleReady.TableAgrees := by
  refine .of_listed ⟨h.free, h.order, h.results, h.outstanding, h.traces, h.freeOnce, h.orderOnce, h.resultsOnce, h.outstandingOnce,
    fun p => ?_, h.tracesOnce⟩ fun i p => ?_
  · rw [State.ready_settleReady]
    refine List.Nodup.append ((h.readyOnce p).filter _) (h.orderOnce.filter _) fun i hi hj => ?_
    have hready := (List.mem_filter.1 hi).1
    have hnot := (List.mem_filter.1 hj).2
    simp [hready] at hnot
  · show i ∈ s.settleReady.ready p ↔ s.sendable i = some p
    rw [State.ready_settleReady, List.mem_append, List.mem_filter, List.mem_filter]
    constructor
    · rintro (⟨_, hs⟩ | ⟨_, hs⟩)
      · exact beq_iff_eq.1 hs
      · exact beq_iff_eq.1 (Bool.and_eq_true_iff.1 hs).1
    · intro hs
      by_cases hready : i ∈ s.ready p
      · exact .inl ⟨hready, beq_iff_eq.2 hs⟩
      · exact .inr ⟨h.mem_order_of_sendable hs, by simp [hs, hready]⟩

/-! ### The cache and the open exchanges of its pairs -/

/-- What of an entry its place and its count rest on. -/
def Entry.shape (e : Entry) : Word32 × Nat × Nat := (e.session, e.target, e.count)

/-- What of an exchange its pair's count rests on: the pair, and whether it is open. -/
def Exchange.key (e : Exchange) : Word32 × Nat × Bool := (e.session, e.target, e.phase.isOpen)

def State.keyOf (s : State) (i : Slot) : Option (Word32 × Nat × Bool) := (s.live i).map Exchange.key

/-- Each entry stands in its pair's set, and no two hold one pair (R28). -/
structure State.PairsPlaced (s : State) : Prop where
  placed : ∀ pl e, s.entryAt pl = some e → pl.set = setIndex e.session e.target
  unique : ∀ pl pl' e e', s.entryAt pl = some e → s.entryAt pl' = some e' → e.session = e'.session → e.target = e'.target → pl = pl'

/-- CacheAgrees but for its clause on WAITING exchanges. -/
structure State.CacheCounted (s : State) : Prop extends s.PairsPlaced where
  counted : ∀ pl e, s.entryAt pl = some e → e.count = (s.openOf e.session e.target).length
  covered : ∀ i a y, s.keyOf i = some (a, y, true) → ∃ pl c, s.entryAt pl = some c ∧ c.session = a ∧ c.target = y

/-- The pair of each WAITING exchange is placed (R14, R100). -/
def State.WaitingPlaced (s : State) : Prop :=
  ∀ i e, s.live i = some e → ∀ action, e.phase = .waiting action → (s.pairPort e.session e.target).isSome = true

theorem State.keyOf_eq_some_iff (s : State) (i : Slot) (a : Word32) (y : Nat) (b : Bool) : s.keyOf i = some (a, y, b) ↔
    ∃ e, s.live i = some e ∧ e.session = a ∧ e.target = y ∧ e.phase.isOpen = b := by
  unfold State.keyOf
  cases s.live i <;> simp [Exchange.key]

theorem State.PairsPlaced.findPlace_iff {s : State} (h : s.PairsPlaced) (a : Word32) (y : Nat) (pl : Place) :
    s.findPlace a y = some pl ↔ ∃ c, s.entryAt pl = some c ∧ c.session = a ∧ c.target = y := by
  refine ⟨State.entryAt_of_findPlace, fun ⟨c, hc, ha, hy⟩ => ?_⟩
  cases hf : s.findPlace a y with
  | none => exact absurd ⟨ha, hy⟩ (State.not_holds_of_findPlace_none hf (by rw [h.placed pl c hc, ha, hy]) hc)
  | some pl' =>
    obtain ⟨c', hc', ha', hy'⟩ := State.entryAt_of_findPlace hf
    rw [h.unique pl' pl c' c hc' hc (ha'.trans ha.symm) (hy'.trans hy.symm)]

theorem State.PairsPlaced.entryOf_iff {s : State} (h : s.PairsPlaced) (a : Word32) (y : Nat) (c : Entry) :
    s.entryOf a y = some c ↔ ∃ pl, s.entryAt pl = some c ∧ c.session = a ∧ c.target = y := by
  unfold State.entryOf
  rw [Option.bind_eq_some_iff]
  constructor
  · rintro ⟨pl, hpl, hc⟩
    obtain ⟨c', hc', hh⟩ := State.entryAt_of_findPlace hpl
    cases hc.symm.trans hc'
    exact ⟨pl, hc, hh⟩
  · rintro ⟨pl, hc, hh⟩
    exact ⟨pl, (h.findPlace_iff a y pl).2 ⟨c, hc, hh⟩, hc⟩

theorem State.PairsPlaced.pairPort_iff {s : State} (h : s.PairsPlaced) (a : Word32) (y : Nat) (p : PortId) :
    s.pairPort a y = some p ↔ ∃ pl c, s.entryAt pl = some c ∧ c.session = a ∧ c.target = y ∧ c.port = some p := by
  unfold State.pairPort
  rw [Option.bind_eq_some_iff]
  constructor
  · rintro ⟨c, hc, hp⟩
    obtain ⟨pl, hpl, ha, hy⟩ := (h.entryOf_iff a y c).1 hc
    exact ⟨pl, c, hpl, ha, hy, hp⟩
  · rintro ⟨pl, c, hpl, ha, hy, hp⟩
    exact ⟨c, (h.entryOf_iff a y c).2 ⟨pl, hpl, ha, hy⟩, hp⟩

theorem State.CacheAgrees.cacheCounted {s : State} (h : s.CacheAgrees) : s.CacheCounted where
  placed pl e := h.placed pl (mem_allPlaces pl) e
  unique pl pl' e e' he he' ha hy := h.unique pl (mem_allPlaces pl) pl' (mem_allPlaces pl') e e' he he' ((e.holds_iff _ _).2 ⟨ha, hy⟩)
  counted pl e := h.counted pl (mem_allPlaces pl) e
  covered i a y hk := by
    obtain ⟨e, hlive, rfl, rfl, hopen⟩ := (s.keyOf_eq_some_iff i a y true).1 hk
    obtain ⟨c, hc⟩ := Option.isSome_iff_exists.1 (h.covered i e hlive hopen)
    obtain ⟨pl, hpl, -⟩ := Option.bind_eq_some_iff.1 hc
    obtain ⟨c', hc', hh⟩ := State.entryAt_of_findPlace hpl
    exact ⟨pl, c', hc', hh⟩

theorem State.CacheCounted.cacheAgrees {s : State} (h : s.CacheCounted) (hw : s.WaitingPlaced) : s.CacheAgrees where
  placed pl _ e := h.placed pl e
  unique pl _ pl' _ e e' he he' hh := h.unique pl pl' e e' he he' ((e.holds_iff _ _).1 hh).1 ((e.holds_iff _ _).1 hh).2
  counted pl _ e := h.counted pl e
  covered i e hlive hopen := by
    obtain ⟨pl, c, hc, hh⟩ := h.covered i e.session e.target ((s.keyOf_eq_some_iff i _ _ _).2 ⟨e, hlive, rfl, rfl, hopen⟩)
    rw [(h.entryOf_iff e.session e.target c).2 ⟨pl, hc, hh⟩]
    rfl
  waiting := hw

theorem State.mem_openOf (s : State) (a : Word32) (y : Nat) (i : Slot) : i ∈ s.openOf a y ↔ s.keyOf i = some (a, y, true) := by
  unfold State.openOf
  rw [List.mem_filter, Bool.and_eq_true, s.slotOpen_iff, s.keyOf_eq_some_iff]
  cases s.live i with
  | none => simp
  | some e =>
    simp only [List.mem_finRange, true_and, Option.some.injEq, exists_eq_left', Option.any_some, Exchange.ofPair, Bool.and_eq_true,
      beq_iff_eq]
    tauto

theorem State.openOf_congr {s t : State} (a : Word32) (y : Nat)
    (h : ∀ i, t.keyOf i = some (a, y, true) ↔ s.keyOf i = some (a, y, true)) : t.openOf a y = s.openOf a y := by
  refine List.filter_congr fun i _ => ?_
  have hi := h i
  rw [← State.mem_openOf, ← State.mem_openOf, State.openOf, State.openOf, List.mem_filter, List.mem_filter] at hi
  exact Bool.eq_iff_iff.2 (by simpa [List.mem_finRange] using hi)

theorem State.nodup_openOf (s : State) (a : Word32) (y : Nat) : (s.openOf a y).Nodup := (List.nodup_finRange 512).filter _

/-- The shapes of the entries and the keys of the exchanges are all that CacheCounted rests on. -/
theorem State.CacheCounted.congr {s t : State} (h : s.CacheCounted)
    (hshape : ∀ pl, (t.entryAt pl).map Entry.shape = (s.entryAt pl).map Entry.shape) (hkey : ∀ i, t.keyOf i = s.keyOf i) :
    t.CacheCounted := by
  have hold : ∀ {pl e}, t.entryAt pl = some e →
      ∃ c, s.entryAt pl = some c ∧ c.session = e.session ∧ c.target = e.target ∧ c.count = e.count := by
    intro pl e he
    have hpl := hshape pl
    rw [he] at hpl
    obtain ⟨c, hc, hs⟩ := Option.map_eq_some_iff.1 hpl.symm
    simp only [Entry.shape, Prod.mk.injEq] at hs
    exact ⟨c, hc, hs⟩
  refine ⟨⟨fun pl e he => ?_, fun pl pl' e e' he he' ha hy => ?_⟩, fun pl e he => ?_, fun i a y hi => ?_⟩
  · obtain ⟨c, hc, ha, hy, -⟩ := hold he
    rw [h.placed pl c hc, ha, hy]
  · obtain ⟨c, hc, hca, hcy, -⟩ := hold he
    obtain ⟨c', hc', hca', hcy', -⟩ := hold he'
    exact h.unique pl pl' c c' hc hc' (by rw [hca, hca', ha]) (by rw [hcy, hcy', hy])
  · obtain ⟨c, hc, ha, hy, hn⟩ := hold he
    rw [← hn, h.counted pl c hc, ha, hy, State.openOf_congr (s := s) (t := t) _ _ fun i => by rw [hkey]]
  · obtain ⟨pl, c, hc, ha, hy⟩ := h.covered i a y (hkey i ▸ hi)
    have hpl := hshape pl
    rw [hc] at hpl
    obtain ⟨e, he, hs⟩ := Option.map_eq_some_iff.1 hpl
    simp only [Entry.shape, Prod.mk.injEq] at hs
    exact ⟨pl, e, he, hs.1.trans ha, hs.2.1.trans hy⟩

theorem shape_of_coresOf {s t : State} (h : coresOf t.cache = coresOf s.cache) (pl : Place) :
    (t.entryAt pl).map Entry.shape = (s.entryAt pl).map Entry.shape := by
  have hpl := congrFun h pl
  rw [coresOf_eq, coresOf_eq] at hpl
  have hmap : ∀ o : Option Entry, o.map Entry.shape = (o.map Entry.core).map Entry.shape := by
    intro o
    cases o <;> rfl
  rw [hmap, hmap (s.entryAt pl), hpl]

/-! ### The bundle that the operations on exchanges keep -/

/-- What the exchange table keeps between the operations of a step: its lists, the cache, and each exchange (O56, O57). -/
structure State.Tabled (s : State) : Prop where
  listed : s.Listed
  cached : s.CacheCounted
  waiting : s.WaitingPlaced
  exchanges : s.ExchangesSound

/-- What O56 and O57 say of a state after a step. -/
def State.TableTrue (s : State) : Prop := s.TableAgrees ∧ s.CacheAgrees ∧ s.ExchangesSound

theorem State.Sound.tableTrue {s : State} (h : s.Sound) : s.TableTrue := ⟨h.table, h.cache, h.exchanges⟩

theorem State.TableTrue.tabled {s : State} (h : s.TableTrue) : s.Tabled :=
  ⟨h.1.listed, h.2.1.cacheCounted, h.2.1.waiting, h.2.2⟩

theorem State.Tabled.cacheAgrees {s : State} (h : s.Tabled) : s.CacheAgrees := h.cached.cacheAgrees h.waiting

theorem State.live_congr {s t : State} (h : t.ex = s.ex) : t.live = s.live := by
  unfold State.live State.record
  rw [h]

/-- What stands outside the exchange table, the pending traces and the entries without their marks does not matter to it. -/
theorem State.Tabled.neutral {s t : State} (h : s.Tabled) (hex : t.ex = s.ex) (htraces : tracesOf t.ports = tracesOf s.ports)
    (hcores : coresOf t.cache = coresOf s.cache) (hconfig : t.config = s.config) : t.Tabled := by
  have hlive := State.live_congr hex
  have hphase : t.phase = s.phase := by unfold State.phase; rw [hlive]
  obtain ⟨⟨free, order, results, outstanding, traces, freeOnce, orderOnce, resultsOnce, outstandingOnce, readyOnce, tracesOnce⟩,
    cached, waiting, exchanges⟩ := h
  refine ⟨⟨?_, ?_, ?_, ?_, ?_, ?_, ?_, ?_, ?_, ?_, ?_⟩, cached.congr (shape_of_coresOf hcores) fun i => ?_, ?_, ?_⟩
  all_goals simp only [State.slotOpen, State.slotAnswered, State.slotPort, State.tracingOn, State.outstanding, State.ready, State.keyOf,
    State.WaitingPlaced, State.ExchangesSound, hphase, hlive, hex, htraces, hconfig, State.pairPort_congr hcores] <;> assumption

/-- Sendability rests on the table, the entries without their marks, the states of the ports and SESSION DEPTH. -/
theorem State.sendable_congr {s t : State} (hex : t.ex = s.ex) (hstates : statesOf t.ports = statesOf s.ports)
    (hcores : coresOf t.cache = coresOf s.cache) (hconfig : t.config = s.config) : t.sendable = s.sendable := by
  have hlive := State.live_congr hex
  have hphase : t.phase = s.phase := by unfold State.phase; rw [hlive]
  have hstate : ∀ p, (t.port p).state = (s.port p).state := fun p => congrFun hstates p
  funext i
  have hwaiting : t.isWaiting = s.isWaiting := by
    funext j
    simp only [State.isWaiting, hphase]
  have hsent : t.isSent = s.isSent := by
    funext j
    simp only [State.isSent, hphase]
  have hflight : t.inFlight = s.inFlight := by
    funext j
    simp only [State.inFlight, hphase]
  simp only [State.sendable, State.pairOrder, hlive, hex, hconfig, State.pairPort_congr hcores, hstate, hwaiting, hsent, hflight] <;> rfl

/-- A command that settles no ready list and changes nothing they rest on. -/
theorem State.TableTrue.neutral {s t : State} (h : s.TableTrue) (hex : t.ex = s.ex) (htraces : tracesOf t.ports = tracesOf s.ports)
    (hstates : statesOf t.ports = statesOf s.ports) (hcores : coresOf t.cache = coresOf s.cache) (hconfig : t.config = s.config) :
    t.TableTrue := by
  have ht := h.tabled.neutral hex htraces hcores hconfig
  refine ⟨.of_listed ht.listed fun i p => ?_, ht.cacheAgrees, ht.exchanges⟩
  rw [State.sendable_congr hex hstates hcores hconfig, State.ready, hex]
  exact h.1.ready i p

/-- The close of a step makes the table true. -/
theorem State.Tabled.close {s : State} (h : s.Tabled) : s.close.TableTrue := by
  have htable : s.settleReady.TableTrue := ⟨h.listed.settleReady, ?_, h.exchanges⟩
  · exact htable.neutral rfl rfl rfl rfl rfl
  · obtain ⟨placed, unique, counted, covered, waiting⟩ := h.cacheAgrees
    exact ⟨placed, unique, counted, covered, waiting⟩

end Sys2Proof.Machine

namespace Sys2Proof.Machine
open Sys2Proof

/-! ### Taking one exchange off its lists -/

/-- `u` differs from `s` in exchange i and the lists that hold it alone, and outside the exchange table in nothing that it rests on;
the slot's generation stands. -/
structure State.SameBut (s u : State) (i : Slot) : Prop where
  others : ∀ j, j ≠ i → u.record j = s.record j
  generation : (u.record i).generation = (s.record i).generation
  order : u.ex.order = s.ex.order
  results : u.ex.results = s.ex.results
  free : u.ex.free = s.ex.free
  outstanding : ∀ q, (u.outstanding q).filter (· != i) = (s.outstanding q).filter (· != i)
  traces : ∀ q, (tracesOf u.ports q).filter (· != i) = (tracesOf s.ports q).filter (· != i)
  ready : ∀ q, (u.ready q).Sublist (s.ready q)
  cores : coresOf u.cache = coresOf s.cache
  config : u.config = s.config
  time : u.timeBase = s.timeBase

/-- The exchange stands on no outstanding list and on no list of pending traces. -/
structure State.Off (s : State) (i : Slot) : Prop where
  outstanding : ∀ q, i ∉ s.outstanding q
  traces : ∀ q, i ∉ tracesOf s.ports q

theorem State.SameBut.refl (s : State) (i : Slot) : s.SameBut s i :=
  ⟨fun _ _ => rfl, rfl, rfl, rfl, rfl, fun _ => rfl, fun _ => rfl, fun _ => .refl _, rfl, rfl, rfl⟩

theorem State.SameBut.trans {s u v : State} {i : Slot} (h : s.SameBut u i) (g : u.SameBut v i) : s.SameBut v i where
  others j hj := (g.others j hj).trans (h.others j hj)
  generation := g.generation.trans h.generation
  order := g.order.trans h.order
  results := g.results.trans h.results
  free := g.free.trans h.free
  outstanding q := (g.outstanding q).trans (h.outstanding q)
  traces q := (g.traces q).trans (h.traces q)
  ready q := (g.ready q).trans (h.ready q)
  cores := g.cores.trans h.cores
  config := g.config.trans h.config
  time := g.time.trans h.time

theorem State.record_of_ex {s t : State} (h : t.ex = s.ex) : t.record = s.record := State.record_congr (by rw [h])

/-- What neither the exchange table nor the pending traces nor the entries without their marks see. -/
theorem State.SameBut.neutral {s u v : State} {i : Slot} (h : s.SameBut u i) (hex : v.ex = u.ex)
    (htraces : tracesOf v.ports = tracesOf u.ports) (hcores : coresOf v.cache = coresOf u.cache) (hconfig : v.config = u.config)
    (htime : v.timeBase = u.timeBase) : s.SameBut v i := by
  refine h.trans ⟨fun j _ => ?_, ?_, ?_, ?_, ?_, fun q => ?_, fun q => ?_, fun q => ?_, hcores, hconfig, htime⟩
  all_goals simp only [State.record_of_ex hex, State.outstanding, State.ready, hex, htraces, List.Sublist.refl]

theorem State.Off.neutral {u v : State} {i : Slot} (h : u.Off i) (hex : v.ex = u.ex) (htraces : tracesOf v.ports = tracesOf u.ports) :
    v.Off i :=
  ⟨fun q => by rw [State.outstanding, hex]; exact h.outstanding q, fun q => htraces ▸ h.traces q⟩

theorem State.outstanding_detach (s : State) (i : Slot) (q : PortId) : (s.detach i).outstanding q = (s.outstanding q).filter (· != i) := by
  simp [State.outstanding, State.detach]

theorem State.ready_detach (s : State) (i : Slot) (q : PortId) : (s.detach i).ready q = (s.ready q).filter (· != i) := by
  simp [State.ready, State.detach]

theorem State.port_detach (s : State) (i : Slot) (q : PortId) :
    (s.detach i).port q = { s.port q with pendingTraces := (s.port q).pendingTraces.filter (· != i) } := by
  simp [State.port, State.detach]

theorem State.tracesOf_detach (s : State) (i : Slot) (q : PortId) :
    tracesOf (s.detach i).ports q = (tracesOf s.ports q).filter (· != i) := by
  rw [tracesOf_eq, State.port_detach]
  rfl

@[simp] theorem State.statesOf_detach (s : State) (i : Slot) : statesOf (s.detach i).ports = statesOf s.ports := by
  funext q
  rw [statesOf_eq, State.port_detach]
  rfl

@[simp] theorem State.record_detach (s : State) (i : Slot) : (s.detach i).record = s.record := rfl
@[simp] theorem State.live_detach (s : State) (i : Slot) : (s.detach i).live = s.live := rfl
@[simp] theorem State.phase_detach (s : State) (i : Slot) : (s.detach i).phase = s.phase := rfl
@[simp] theorem State.order_detach (s : State) (i : Slot) : (s.detach i).ex.order = s.ex.order := rfl
@[simp] theorem State.results_detach (s : State) (i : Slot) : (s.detach i).ex.results = s.ex.results := rfl
@[simp] theorem State.free_detach (s : State) (i : Slot) : (s.detach i).ex.free = s.ex.free := rfl

theorem filter_ne_filter_ne (i : Slot) (l : List Slot) : (l.filter (· != i)).filter (· != i) = l.filter (· != i) := by
  simp [List.filter_filter]

theorem filter_ne_of_notMem {i : Slot} {l : List Slot} (h : i ∉ l) : l.filter (· != i) = l :=
  List.filter_eq_self.2 fun j hj => bne_iff_ne.2 fun e => h (e ▸ hj)

theorem State.sameBut_detach (s : State) (i : Slot) : s.SameBut (s.detach i) i where
  others _ _ := rfl
  generation := rfl
  order := rfl
  results := rfl
  free := rfl
  outstanding q := by rw [State.outstanding_detach, filter_ne_filter_ne]
  traces q := by rw [State.tracesOf_detach, filter_ne_filter_ne]
  ready q := by rw [State.ready_detach]; exact List.filter_sublist
  cores := rfl
  config := rfl
  time := rfl

theorem State.off_detach (s : State) (i : Slot) : (s.detach i).Off i :=
  ⟨fun q => by rw [State.outstanding_detach]; simp, fun q => by rw [State.tracesOf_detach]; simp⟩

theorem State.sameBut_modLive (s : State) (i : Slot) (f : Exchange → Exchange) : s.SameBut (s.modLive i f) i where
  others j hj := by rw [State.record_modLive, if_neg fun e => hj e.symm]
  generation := by rw [State.record_modLive, if_pos rfl]
  order := rfl
  results := rfl
  free := rfl
  outstanding _ := rfl
  traces _ := rfl
  ready _ := .refl _
  cores := rfl
  config := rfl
  time := rfl

theorem State.Off.modLive {s : State} {i : Slot} (h : s.Off i) (f : Exchange → Exchange) : (s.modLive i f).Off i :=
  ⟨h.outstanding, h.traces⟩

/-- An exchange that is neither SENT nor TRACING is on no such list. -/
theorem State.Listed.off {s : State} (h : s.Listed) {i : Slot} {e : Exchange} (hlive : s.live i = some e) (hport : e.phase.port = none) :
    s.Off i := by
  refine ⟨fun q hq => ?_, fun q hq => ?_⟩
  · obtain ⟨e', he', hp⟩ := (s.slotPort_iff i q).1 ((h.outstanding i q).1 hq)
    cases hlive.symm.trans he'
    rw [hport] at hp
    cases hp
  · obtain ⟨e', d, at_, he', hp⟩ := (s.tracingOn_iff i q).1 (h.traces i q hq)
    cases hlive.symm.trans he'
    rw [hp] at hport
    cases hport

/-! ### An exchange that stays open -/

/-- Between `s` and `t` exchange i has moved to the record e, and nothing that the table rests on has changed beside it. -/
structure State.Rehomed (s t : State) (i : Slot) (e : Exchange) : Prop extends s.Moved t i e where
  ready : ∀ q, (t.ready q).Sublist (s.ready q)
  cores : coresOf t.cache = coresOf s.cache
  config : t.config = s.config
  time : t.timeBase = s.timeBase

theorem State.live_of_record {s : State} {i : Slot} {g : Fin 128} {x : Option Exchange} (h : s.record i = ⟨g, x⟩) : s.live i = x := by
  rw [State.live, h]

theorem State.Moved.live_self {s t : State} {i : Slot} {e : Exchange} (h : s.Moved t i e) : t.live i = some e :=
  State.live_of_record h.record

theorem State.Moved.live_other {s t : State} {i : Slot} {e : Exchange} (h : s.Moved t i e) {j : Slot} (hj : j ≠ i) :
    t.live j = s.live j := by
  rw [State.live, h.others j hj]
  rfl

/-- The general form of the operations that settle an exchange taken off its lists. -/
theorem State.SameBut.rehomed {s u t : State} {i : Slot} {e : Exchange} (h : s.SameBut u i) (hoff : u.Off i)
    (hrecord : t.record i = ⟨(u.record i).generation, some e⟩) (hothers : ∀ j, j ≠ i → t.record j = u.record j)
    (horder : t.ex.order = u.ex.order) (hresults : t.ex.results = u.ex.results) (hfree : t.ex.free = u.ex.free)
    (hout : ∀ q, t.outstanding q = u.outstanding q ++ (if e.phase.port = some q then [i] else []))
    (htraces : ∀ q, tracesOf t.ports q = tracesOf u.ports q ++ (match e.phase with | .tracing r _ _ => if r = q then [i] else [] | _ => []))
    (hready : ∀ q, t.ready q = u.ready q) (hcores : coresOf t.cache = coresOf u.cache) (hconfig : t.config = u.config)
    (htime : t.timeBase = u.timeBase) : s.Rehomed t i e where
  record := by rw [hrecord, h.generation]
  others j hj := (hothers j hj).trans (h.others j hj)
  order := horder.trans h.order
  results := hresults.trans h.results
  free := hfree.trans h.free
  outstanding q := by rw [hout, ← h.outstanding q, filter_ne_of_notMem (hoff.outstanding q)]
  traces q := by
    rw [← tracesOf_eq, htraces, ← tracesOf_eq, ← h.traces q, filter_ne_of_notMem (hoff.traces q)] <;> rfl
  ready q := by rw [hready]; exact h.ready q
  cores := hcores.trans h.cores
  config := hconfig.trans h.config
  time := htime.trans h.time

theorem State.record_setPhase (s : State) (i j : Slot) (ph : Phase) : (s.setPhase i ph).record j =
    if i = j then ⟨(s.record i).generation, (s.live i).map (fun e => { e with phase := ph })⟩ else s.record j :=
  State.record_modLive s i j _

/-- WAITING or HELD anew. -/
theorem State.SameBut.setPhase {s u : State} {i : Slot} {e : Exchange} (h : s.SameBut u i) (hoff : u.Off i) (hlive : u.live i = some e)
    {ph : Phase} (hport : ph.port = none) : s.Rehomed (u.setPhase i ph) i { e with phase := ph } := by
  refine h.rehomed hoff ?_ (fun j hj => ?_) rfl rfl rfl (fun q => ?_) (fun q => ?_) (fun q => rfl) rfl rfl rfl
  · rw [State.record_setPhase, if_pos rfl, hlive, Option.map_some]
  · rw [State.record_setPhase, if_neg fun e => hj e.symm]
  · rw [if_neg (by rw [hport]; exact fun h => nomatch h), List.append_nil]
    rfl
  · cases ph with
    | tracing => cases hport
    | _ => exact (List.append_nil _).symm

theorem State.hold_ex (s : State) (i : Slot) (a : Action) : (s.hold i a).ex = (s.setPhase i (s.heldNow a)).ex ∧
    (s.hold i a).ports = s.ports := by
  unfold State.hold
  dsimp only
  split
  · split <;> simp [State.heldNow]
  · simp [State.heldNow]

/-- HELD, with its placement item offered or not. -/
theorem State.SameBut.hold {s u : State} {i : Slot} {e : Exchange} (h : s.SameBut u i) (hoff : u.Off i) (hlive : u.live i = some e)
    (a : Action) : s.Rehomed (u.hold i a) i { e with phase := u.heldNow a } := by
  obtain ⟨hex, hports⟩ := u.hold_ex i a
  have hr := h.setPhase hoff hlive (ph := u.heldNow a) rfl
  have hrecord := State.record_of_ex hex
  obtain ⟨⟨record, others, order, results, free, outstanding, traces⟩, ready, cores, config, time⟩ := hr
  refine ⟨⟨?_, ?_, ?_, ?_, ?_, ?_, ?_⟩, ?_, ?_, ?_, ?_⟩
  all_goals simp only [hrecord, hex, State.outstanding, State.ready, State.port, hports, State.hold_frame] <;> assumption

theorem State.becomeSent_ready (s : State) (i : Slot) (p q : PortId) : (s.becomeSent i p).ready q = s.ready q := rfl

theorem State.outstanding_becomeSent (s : State) (i : Slot) (p q : PortId) :
    (s.becomeSent i p).outstanding q = s.outstanding q ++ (if p = q then [i] else []) := by
  unfold State.becomeSent
  rw [State.outstanding_setOutstanding]
  split
  next h => rw [h]
  · exact (List.append_nil _).symm

/-- SENT on p with a new answer wait. -/
theorem State.SameBut.becomeSent {s u : State} {i : Slot} {e : Exchange} (h : s.SameBut u i) (hoff : u.Off i)
    (hlive : u.live i = some e) (p : PortId) : s.Rehomed (u.becomeSent i p) i
      { e with phase := .sent p (u.timeBase + ms (responseWait u.config)) u.timeBase } := by
  refine h.rehomed hoff ?_ (fun j hj => ?_) rfl rfl rfl (fun q => ?_) (fun q => ?_) (fun q => rfl) rfl rfl rfl
  · exact (State.record_setPhase u i i _).trans (by rw [if_pos rfl, hlive, Option.map_some])
  · exact (State.record_setPhase u i j _).trans (by rw [if_neg fun e => hj e.symm])
  · rw [State.outstanding_becomeSent]
    simp [Phase.port]
  · exact (List.append_nil _).symm

/-- The record of an exchange that has just been traced on q. -/
def State.tracedOn (s : State) (q : PortId) (e : Exchange) : Exchange :=
  { e with traces := e.traces + 1, phase := .tracing q (s.timeBase + ms (traceWait s.config)) s.timeBase }

theorem State.tracesOf_placeTrace (s : State) (i : Slot) (p q : PortId) :
    tracesOf (s.placeTrace i p).ports q = tracesOf s.ports q ++ (if p = q then [i] else []) := by
  rw [tracesOf_eq]
  unfold State.placeTrace
  dsimp only
  rw [State.port_modPort]
  split
  next h => subst h; rfl
  · exact (List.append_nil _).symm

theorem State.outstanding_placeTrace (s : State) (i : Slot) (p q : PortId) :
    (s.placeTrace i p).outstanding q = s.outstanding q ++ (if p = q then [i] else []) := by
  unfold State.placeTrace
  refine (State.outstanding_setOutstanding _ p q _).trans ?_
  split
  next h => subst h; rfl
  · exact (List.append_nil _).symm

/-- TRACING on p, with its trace pending. -/
theorem State.SameBut.placeTrace {s u : State} {i : Slot} {e : Exchange} (h : s.SameBut u i) (hoff : u.Off i)
    (hlive : u.live i = some e) (p : PortId) : s.Rehomed (u.placeTrace i p) i (u.tracedOn p e) := by
  refine h.rehomed hoff ?_ (fun j hj => ?_) rfl rfl rfl (fun q => ?_) (fun q => ?_) (fun q => rfl) rfl rfl rfl
  · refine (State.record_modLive u i i _).trans ?_
    rw [if_pos rfl, hlive, Option.map_some]
    rfl
  · exact (State.record_modLive u i j _).trans (by rw [if_neg fun e => hj e.symm])
  · rw [State.outstanding_placeTrace]
    simp [Phase.port, State.tracedOn]
  · rw [State.tracesOf_placeTrace]
    rfl

/-! #### What such a move keeps -/

theorem Phase.port_of_not_isOpen {ph : Phase} (h : ph.isOpen = false) : ph.port = none := by
  cases ph <;> first | rfl | cases h

/-- A move from one open record to another keeps the lists. -/
theorem State.Listed.rehomed {s t : State} {i : Slot} {e0 e : Exchange} (h : s.Listed) (hr : s.Rehomed t i e)
    (hlive : s.live i = some e0) (hopen0 : e0.phase.isOpen = true) (hopen : e.phase.isOpen = true) : t.Listed := by
  have hself := hr.live_self
  have hother : ∀ {j}, j ≠ i → t.live j = s.live j := fun hj => hr.live_other hj
  refine ⟨fun j => ?_, fun j => ?_, fun j => ?_, fun j q => ?_, fun j q => ?_, ?_, ?_, ?_, fun q => ?_, fun q => ?_, fun q => ?_⟩
  · rw [hr.free, h.free]
    by_cases hj : j = i
    · subst hj; simp [hself, hlive]
    · rw [hother hj]
  · rw [hr.order, h.order, State.slotOpen_iff, State.slotOpen_iff]
    by_cases hj : j = i
    · subst hj; simp [hself, hlive, hopen, hopen0]
    · rw [hother hj]
  · rw [hr.results, h.results, State.slotAnswered_iff, State.slotAnswered_iff]
    by_cases hj : j = i
    · subst hj; simp [hself, hlive, hopen, hopen0]
    · rw [hother hj]
  · rw [hr.outstanding, List.mem_append, List.mem_filter, h.outstanding, State.slotPort_iff, State.slotPort_iff]
    by_cases hj : j = i
    · subst hj
      simp only [bne_self_eq_false, Bool.false_eq_true, and_false, false_or, hself, Option.some.injEq, exists_eq_left']
      split <;> simp_all
    · rw [hother hj]
      split <;> simp [hj]
  · rw [tracesOf_eq, hr.traces, List.mem_append, List.mem_filter, State.tracingOn_iff]
    by_cases hj : j = i
    · subst hj
      simp only [bne_self_eq_false, Bool.false_eq_true, and_false, false_or, hself, Option.some.injEq]
      split
      next r d at_ hp =>
        split
        next hrq => exact fun _ => ⟨e, d, at_, rfl, hrq ▸ hp⟩
        · simp
      · simp
    · rw [hother hj, ← State.tracingOn_iff]
      rintro (⟨hm, -⟩ | hm)
      · exact h.traces j q hm
      · split at hm
        · split at hm <;> simp_all
        · simp at hm
  · rw [hr.free]; exact h.freeOnce
  · rw [hr.order]; exact h.orderOnce
  · rw [hr.results]; exact h.resultsOnce
  · rw [hr.outstanding]
    refine List.Nodup.append ((h.outstandingOnce q).filter _) (by split <;> simp) ?_
    split <;> simp
  · exact (h.readyOnce q).sublist (hr.ready q)
  · rw [tracesOf_eq, hr.traces]
    refine List.Nodup.append ((h.tracesOnce q).filter _) (by split <;> (try split) <;> simp) ?_
    split <;> (try split) <;> simp

/-- Where the pair stays the same, so does its count. -/
theorem State.Rehomed.keyOf {s t : State} {i : Slot} {e0 e : Exchange} (hr : s.Rehomed t i e) (hlive : s.live i = some e0)
    (hkey : e.key = e0.key) (j : Slot) : t.keyOf j = s.keyOf j := by
  by_cases hj : j = i
  · subst hj
    rw [State.keyOf, State.keyOf, hr.live_self, hlive, Option.map_some, Option.map_some, hkey]
  · rw [State.keyOf, State.keyOf, hr.live_other hj]

theorem State.Rehomed.exchangesSound {s t : State} {i : Slot} {e : Exchange} (hr : s.Rehomed t i e) (h : s.ExchangesSound)
    (hsound : e.Sound (traceLimit s.config)) : t.ExchangesSound := by
  intro j x hx
  rw [hr.config]
  by_cases hj : j = i
  · subst hj
    cases hr.live_self.symm.trans hx
    exact hsound
  · exact h j x (hr.live_other hj ▸ hx)

theorem Exchange.key_eq {e e0 : Exchange} (hsession : e.session = e0.session) (htarget : e.target = e0.target)
    (hopen : e.phase.isOpen = e0.phase.isOpen) : e.key = e0.key := by
  rw [Exchange.key, Exchange.key, hsession, htarget, hopen]

/-- A move to a sound record of the same pair, open still, keeps the table. -/
theorem State.Tabled.rehomed {s t : State} {i : Slot} {e0 e : Exchange} (h : s.Tabled) (hr : s.Rehomed t i e)
    (hlive : s.live i = some e0) (hopen0 : e0.phase.isOpen = true) (hopen : e.phase.isOpen = true) (hsession : e.session = e0.session)
    (htarget : e.target = e0.target) (hsound : e.Sound (traceLimit s.config))
    (hwait : ∀ a, e.phase = .waiting a → (s.pairPort e.session e.target).isSome = true) : t.Tabled := by
  refine ⟨h.listed.rehomed hr hlive hopen0 hopen, h.cached.congr (shape_of_coresOf hr.cores)
    (hr.keyOf hlive (Exchange.key_eq hsession htarget (hopen.trans hopen0.symm))), fun j x hx a ha => ?_,
    hr.exchangesSound h.exchanges hsound⟩
  rw [State.pairPort_congr hr.cores]
  by_cases hj : j = i
  · subst hj
    cases hr.live_self.symm.trans hx
    exact hwait a ha
  · exact h.waiting j x (hr.live_other hj ▸ hx) a ha

end Sys2Proof.Machine

namespace Sys2Proof.Machine
open Sys2Proof

/-! ### An exchange that leaves its pair -/

theorem State.entryAt_modEntryOf (s : State) (a : Word32) (y : Nat) (f : Entry → Entry) (pl : Place) :
    (s.modEntryOf a y f).entryAt pl = if s.findPlace a y = some pl then (s.entryAt pl).map f else s.entryAt pl := by
  unfold State.modEntryOf
  cases s.findPlace a y with
  | none => simp
  | some pl' =>
    rw [State.entryAt_setEntryAt]
    by_cases h : pl' = pl
    · subst h; simp
    · rw [if_neg h, if_neg fun e => h (Option.some.inj e)]

theorem State.lowerCount_cache (s : State) (a : Word32) (y : Nat) :
    (s.lowerCount a y).cache = (s.modEntryOf a y (fun e => { e with count := e.count - 1 })).cache := by
  unfold State.lowerCount
  dsimp only
  split <;> simp

theorem State.entryAt_lowerCount (s : State) (a : Word32) (y : Nat) (pl : Place) : (s.lowerCount a y).entryAt pl =
    if s.findPlace a y = some pl then (s.entryAt pl).map (fun e => { e with count := e.count - 1 }) else s.entryAt pl := by
  rw [State.entryAt_congr (s.lowerCount_cache a y), State.entryAt_modEntryOf]

/-- The entries without their marks once the count of a pair is one lower. -/
def State.coresLowered (s : State) (a : Word32) (y : Nat) (pl : Place) : Option Entry :=
  if s.findPlace a y = some pl then (coresOf s.cache pl).map (fun e => { e with count := e.count - 1 }) else coresOf s.cache pl

theorem State.coresOf_lowerCount (s : State) (a : Word32) (y : Nat) : coresOf (s.lowerCount a y).cache = s.coresLowered a y := by
  funext pl
  rw [coresOf_eq, State.entryAt_lowerCount, State.coresLowered, coresOf_eq]
  split
  · rw [Option.map_map, Option.map_map]
    rfl
  · rfl

/-- The open exchanges of a pair once slot i holds none. -/
theorem State.openOf_eq_erase {s t : State} {i : Slot} (hclosed : ∀ b z, t.keyOf i ≠ some (b, z, true))
    (hothers : ∀ j, j ≠ i → t.keyOf j = s.keyOf j) (a : Word32) (y : Nat) : t.openOf a y = (s.openOf a y).erase i := by
  rw [(s.nodup_openOf _ _).erase_eq_filter]
  unfold State.openOf
  rw [List.filter_filter]
  refine List.filter_congr fun j _ => ?_
  rw [Bool.eq_iff_iff]
  have ht := t.mem_openOf a y j
  have hs := s.mem_openOf a y j
  simp only [State.openOf, List.mem_filter, List.mem_finRange, true_and] at ht hs
  rw [ht, Bool.and_eq_true, hs, bne_iff_ne]
  by_cases hj : j = i
  · subst hj; simp [hclosed]
  · simp [hj, hothers j hj]

/-- One open exchange fewer of a pair, and its entry's count one lower (R33). -/
theorem State.CacheCounted.leave {s t : State} (h : s.CacheCounted) {i : Slot} {a : Word32} {y : Nat}
    (hkey : s.keyOf i = some (a, y, true)) (hclosed : ∀ b z, t.keyOf i ≠ some (b, z, true))
    (hothers : ∀ j, j ≠ i → t.keyOf j = s.keyOf j) (hcores : coresOf t.cache = s.coresLowered a y) : t.CacheCounted := by
  have hpair : ∀ {pl e}, t.entryAt pl = some e → ∃ c, s.entryAt pl = some c ∧ c.session = e.session ∧ c.target = e.target ∧
      e.count = if s.findPlace a y = some pl then c.count - 1 else c.count := by
    intro pl e he
    have hpl := congrFun hcores pl
    rw [coresOf_eq, he, State.coresLowered, coresOf_eq] at hpl
    split at hpl
    next hf =>
      obtain ⟨x, hx, hxe⟩ := Option.map_eq_some_iff.1 hpl.symm
      obtain ⟨c, hc, rfl⟩ := Option.map_eq_some_iff.1 hx
      simp only [Entry.core, Entry.mk.injEq] at hxe
      obtain ⟨hsession, htarget, -, hcount, -⟩ := hxe
      exact ⟨c, hc, hsession, htarget, by rw [if_pos hf]; exact hcount.symm⟩
    next hf =>
      obtain ⟨c, hc, hce⟩ := Option.map_eq_some_iff.1 hpl.symm
      simp only [Entry.core, Entry.mk.injEq] at hce
      obtain ⟨hsession, htarget, -, hcount, -⟩ := hce
      exact ⟨c, hc, hsession, htarget, by rw [if_neg hf]; exact hcount.symm⟩
  refine ⟨⟨fun pl e he => ?_, fun pl pl' e e' he he' ha hy => ?_⟩, fun pl e he => ?_, fun j b z hj => ?_⟩
  · obtain ⟨c, hc, ha, hy, -⟩ := hpair he
    rw [h.placed pl c hc, ha, hy]
  · obtain ⟨c, hc, hca, hcy, -⟩ := hpair he
    obtain ⟨c', hc', hca', hcy', -⟩ := hpair he'
    exact h.unique pl pl' c c' hc hc' (by rw [hca, hca', ha]) (by rw [hcy, hcy', hy])
  · obtain ⟨c, hc, hca, hcy, hn⟩ := hpair he
    rw [hn, h.counted pl c hc, hca, hcy]
    by_cases hf : s.findPlace a y = some pl
    · obtain ⟨c', hc', rfl, rfl⟩ := (h.findPlace_iff a y pl).1 hf
      cases hc.symm.trans hc'
      rw [if_pos hf]
      have hmem : i ∈ s.openOf e.session e.target := (s.mem_openOf _ _ i).2 (by rw [← hca, ← hcy]; exact hkey)
      rw [State.openOf_eq_erase hclosed hothers, List.length_erase_of_mem hmem]
    · rw [if_neg hf]
      refine congrArg List.length (State.openOf_congr _ _ fun j => ?_).symm
      by_cases hj : j = i
      · subst hj
        refine iff_of_false (hclosed _ _) fun hk => hf ((h.findPlace_iff a y pl).2 ⟨c, hc, ?_⟩)
        cases hkey.symm.trans hk
        exact ⟨hca, hcy⟩
      · rw [hothers j hj]
  · by_cases hji : j = i
    · subst hji; exact absurd hj (hclosed b z)
    · obtain ⟨pl, c, hc, hca, hcy⟩ := h.covered j b z (hothers j hji ▸ hj)
      have hpl := congrFun hcores pl
      rw [coresOf_eq, State.coresLowered, coresOf_eq, hc] at hpl
      have hsome : ∃ x, (t.entryAt pl).map Entry.core = some x ∧ x.session = c.session ∧ x.target = c.target := by
        rw [hpl]
        split <;> exact ⟨_, rfl, rfl, rfl⟩
      obtain ⟨x, hx, hxa, hxy⟩ := hsome
      obtain ⟨e, he, rfl⟩ := Option.map_eq_some_iff.1 hx
      exact ⟨pl, e, he, hxa.trans hca, hxy.trans hcy⟩

/-- The count does not matter to the port of a pair. -/
theorem State.PairsPlaced.pairPort_of_lowered {s t : State} (h : s.PairsPlaced) (ht : t.PairsPlaced) {a : Word32} {y : Nat}
    (hcores : coresOf t.cache = s.coresLowered a y) (b : Word32) (z : Nat) (hs : (s.pairPort b z).isSome = true) :
    (t.pairPort b z).isSome = true := by
  obtain ⟨p, hp⟩ := Option.isSome_iff_exists.1 hs
  obtain ⟨pl, c, hc, ha, hy, hport⟩ := (h.pairPort_iff b z p).1 hp
  have hpl := congrFun hcores pl
  rw [coresOf_eq, State.coresLowered, coresOf_eq, hc] at hpl
  have hsome : ∃ x, (t.entryAt pl).map Entry.core = some x ∧ x.session = c.session ∧ x.target = c.target ∧ x.port = c.port := by
    rw [hpl]
    split <;> exact ⟨_, rfl, rfl, rfl, rfl⟩
  obtain ⟨x, hx, hxa, hxy, hxp⟩ := hsome
  obtain ⟨e, he, rfl⟩ := Option.map_eq_some_iff.1 hx
  rw [(ht.pairPort_iff b z p).2 ⟨pl, e, he, hxa.trans ha, hxy.trans hy, hxp.trans hport⟩]
  rfl

/-! ### A result decided -/

/-- Between `s` and `t` exchange i, of the pair (a, y), has left every list but the results and its pair's count, its record is `r`,
and nothing that the table rests on has changed beside it. -/
structure State.Left (s t : State) (i : Slot) (a : Word32) (y : Nat) (r : SlotRecord) : Prop where
  record : t.record i = r
  others : ∀ j, j ≠ i → t.record j = s.record j
  order : t.ex.order = s.ex.order.filter (· != i)
  outstanding : ∀ q, t.outstanding q = (s.outstanding q).filter (· != i)
  ready : ∀ q, (t.ready q).Sublist ((s.ready q).filter (· != i))
  traces : ∀ q, tracesOf t.ports q = (tracesOf s.ports q).filter (· != i)
  cores : coresOf t.cache = s.coresLowered a y
  config : t.config = s.config
  time : t.timeBase = s.timeBase

theorem State.Left.live_self {s t : State} {i : Slot} {a : Word32} {y : Nat} {r : SlotRecord} (h : s.Left t i a y r) :
    t.live i = r.live := by
  rw [State.live, h.record]

theorem State.Left.live_other {s t : State} {i : Slot} {a : Word32} {y : Nat} {r : SlotRecord} (h : s.Left t i a y r) {j : Slot}
    (hj : j ≠ i) : t.live j = s.live j := by
  rw [State.live, h.others j hj]
  rfl

theorem State.coresLowered_congr {s u : State} (h : coresOf u.cache = coresOf s.cache) (a : Word32) (y : Nat) :
    u.coresLowered a y = s.coresLowered a y := by
  unfold State.coresLowered
  rw [State.findPlace_congr h, h]

@[simp] theorem State.leavePair_ex (s : State) (i : Slot) (e : Exchange) :
    (s.leavePair i e).ex = { s.ex with order := s.ex.order.filter (· != i) } := by
  simp [State.leavePair, State.setOrder]

theorem State.record_leavePair (s : State) (i : Slot) (e : Exchange) : (s.leavePair i e).record = s.record :=
  State.record_congr (by simp)

theorem State.coresOf_leavePair (s : State) (i : Slot) (e : Exchange) :
    coresOf (s.leavePair i e).cache = s.coresLowered e.session e.target := by
  rw [State.leavePair, State.coresOf_lowerCount]
  exact State.coresLowered_congr rfl _ _

/-- Off its lists and out of its pair, however it stood on the lists before. -/
theorem State.SameBut.leavePair {s u : State} {i : Slot} (h : s.SameBut u i) (e : Exchange) :
    s.Left ((u.detach i).leavePair i e) i e.session e.target (u.record i) where
  record := by rw [State.record_leavePair, State.record_detach]
  others j hj := by rw [State.record_leavePair, State.record_detach, h.others j hj]
  order := by rw [State.leavePair_ex, State.order_detach, h.order]
  outstanding q := by
    have hex : ((u.detach i).leavePair i e).outstanding q = (u.detach i).outstanding q := by rw [State.outstanding, State.leavePair_ex]; rfl
    rw [hex, State.outstanding_detach, h.outstanding]
  ready q := by
    have hex : ((u.detach i).leavePair i e).ready q = (u.detach i).ready q := by rw [State.ready, State.leavePair_ex]; rfl
    rw [hex, State.ready_detach]
    exact (h.ready q).filter _
  traces q := by rw [(State.leavePair_frame _ _ _).2.2.2.1, State.tracesOf_detach, h.traces]
  cores := by
    rw [State.coresOf_leavePair]
    exact State.coresLowered_congr (by rw [State.detach_cache, h.cores]) _ _
  config := by rw [(State.leavePair_frame _ _ _).2.2.1, State.detach_config, h.config]
  time := by rw [(State.leavePair_frame _ _ _).1, State.detach_timeBase, h.time]

/-- The record of an exchange whose result has been decided (R8). -/
def Exchange.answered (e : Exchange) (status : ResultStatus) (payload : List Byte) : Exchange :=
  { e with phase := .answered status, payload := if status = .completed then payload else [] }

theorem State.answer_ex (s : State) (i : Slot) (status : ResultStatus) (payload : List Byte) : (s.answer i status payload).ex =
    { (s.modLive i (fun e => e.answered status payload)).ex with results := s.ex.results ++ [i] } := rfl

/-- The result of an open exchange is decided, on its lists or off them (R8). -/
theorem State.SameBut.decideResult {s u : State} {i : Slot} {e : Exchange} (h : s.SameBut u i) (hlive : u.live i = some e)
    (status : ResultStatus) (payload : List Byte) :
    s.Left (u.decideResult i status payload) i e.session e.target ⟨(s.record i).generation, some (e.answered status payload)⟩ ∧
    (u.decideResult i status payload).ex.results = s.ex.results ++ [i] ∧ (u.decideResult i status payload).ex.free = s.ex.free := by
  have hdecide : u.decideResult i status payload = ((u.detach i).leavePair i e).answer i status payload := by
    rw [State.decideResult, hlive]
  obtain ⟨record, others, order, outstanding, ready, traces, cores, config, time⟩ := h.leavePair e
  have hrec : ((u.detach i).leavePair i e).live i = some e := by rw [State.live, record]; exact hlive
  have hres : ((u.detach i).leavePair i e).ex.results = s.ex.results := by rw [State.leavePair_ex]; exact h.results
  have hfree : ((u.detach i).leavePair i e).ex.free = s.ex.free := by rw [State.leavePair_ex]; exact h.free
  rw [hdecide]
  generalize (u.detach i).leavePair i e = v at *
  refine ⟨⟨?_, fun j hj => ?_, order, outstanding, ready, traces, cores, config, time⟩, ?_, ?_⟩
  · rw [State.record_answer, if_pos rfl, hrec, record, ← h.generation]
    rfl
  · rw [State.record_answer, if_neg fun e => hj e.symm]
    exact others j hj
  · rw [State.answer_ex, hres]
  · exact hfree

/-- A free slot has no open exchange, and so an answered one has none. -/
theorem State.keyOf_ne_open_of {s : State} {i : Slot} (h : ∀ e, s.live i = some e → e.phase.isOpen = false) (b : Word32) (z : Nat) :
    s.keyOf i ≠ some (b, z, true) := by
  intro hk
  obtain ⟨e, he, -, -, hopen⟩ := (s.keyOf_eq_some_iff i b z true).1 hk
  rw [h e he] at hopen
  cases hopen

/-- An open exchange that leaves its pair for good keeps the table, if the free list and the results take it as its record says. -/
theorem State.Tabled.left {s t : State} {i : Slot} {e : Exchange} {r : SlotRecord} (h : s.Tabled)
    (hl : s.Left t i e.session e.target r) (hlive : s.live i = some e) (hopen : e.phase.isOpen = true)
    (hclosed : ∀ x, r.live = some x → x.phase.isOpen = false ∧ x.Sound (traceLimit s.config))
    (hfree : t.ex.free = s.ex.free ++ (if r.live.isNone then [i] else []))
    (hresults : t.ex.results = s.ex.results ++ (if r.live.isSome then [i] else [])) : t.Tabled := by
  have hself := hl.live_self
  have hother : ∀ {j}, j ≠ i → t.live j = s.live j := fun hj => hl.live_other hj
  have hphase : ∀ {x}, t.live i = some x → x.phase.isOpen = false := fun hx => (hclosed _ (hself ▸ hx)).1
  have hcached : t.CacheCounted := by
    refine h.cached.leave ((s.keyOf_eq_some_iff i _ _ _).2 ⟨e, hlive, rfl, rfl, hopen⟩)
      (State.keyOf_ne_open_of fun x hx => hphase hx) (fun j hj => ?_) hl.cores
    rw [State.keyOf, State.keyOf, hother hj]
  refine ⟨⟨fun j => ?_, fun j => ?_, fun j => ?_, fun j q => ?_, fun j q => ?_, ?_, ?_, ?_, fun q => ?_, fun q => ?_, fun q => ?_⟩,
    hcached, fun j x hx a ha => ?_, fun j x hx => ?_⟩
  · rw [hfree, List.mem_append, h.listed.free]
    by_cases hj : j = i
    · subst hj
      rw [hself, hlive]
      cases r.live <;> simp
    · rw [hother hj]
      split <;> simp [hj]
  · rw [hl.order, List.mem_filter, h.listed.order, State.slotOpen_iff, State.slotOpen_iff, bne_iff_ne]
    by_cases hj : j = i
    · subst hj
      refine iff_of_false (fun hc => hc.2 rfl) ?_
      rintro ⟨x, hx, hxo⟩
      rw [hphase hx] at hxo
      cases hxo
    · rw [hother hj]
      exact and_iff_left hj
  · rw [hresults, List.mem_append, h.listed.results, State.slotAnswered_iff, State.slotAnswered_iff]
    by_cases hj : j = i
    · subst hj
      rw [hself, hlive]
      cases hr : r.live with
      | none => simp [hopen]
      | some x => simp [(hclosed x hr).1]
    · rw [hother hj]
      split <;> simp [hj]
  · rw [hl.outstanding, List.mem_filter, h.listed.outstanding, State.slotPort_iff, State.slotPort_iff, bne_iff_ne]
    by_cases hj : j = i
    · subst hj
      refine iff_of_false (fun hc => hc.2 rfl) ?_
      rintro ⟨x, hx, hxp⟩
      rw [Phase.port_of_not_isOpen (hphase hx)] at hxp
      cases hxp
    · rw [hother hj]
      exact and_iff_left hj
  · rw [hl.traces, List.mem_filter, bne_iff_ne]
    rintro ⟨hm, hj⟩
    rw [State.tracingOn_iff, hother hj, ← State.tracingOn_iff]
    exact h.listed.traces j q hm
  · rw [hfree]
    refine List.Nodup.append h.listed.freeOnce (by split <;> simp) ?_
    have hnot : i ∉ s.ex.free := fun hm => by
      rw [(h.listed.free i).1 hm] at hlive
      cases hlive
    split <;> simp [hnot]
  · rw [hl.order]; exact h.listed.orderOnce.filter _
  · rw [hresults]
    refine List.Nodup.append h.listed.resultsOnce (by split <;> simp) ?_
    have hnot : i ∉ s.ex.results := fun hm => by
      obtain ⟨x, hx, hxo⟩ := (s.slotAnswered_iff i).1 ((h.listed.results i).1 hm)
      cases hlive.symm.trans hx
      rw [hopen] at hxo
      cases hxo
    split <;> simp [hnot]
  · rw [hl.outstanding]; exact (h.listed.outstandingOnce q).filter _
  · exact ((h.listed.readyOnce q).filter _).sublist (hl.ready q)
  · rw [hl.traces]; exact (h.listed.tracesOnce q).filter _
  · have hj : j ≠ i := by
      rintro rfl
      have := hphase hx
      rw [ha] at this
      cases this
    exact h.cached.toPairsPlaced.pairPort_of_lowered hcached.toPairsPlaced hl.cores _ _ (h.waiting j x (hother hj ▸ hx) a ha)
  · rw [hl.config]
    by_cases hj : j = i
    · subst hj
      exact (hclosed x (hself ▸ hx)).2
    · exact h.exchanges j x (hother hj ▸ hx)

/-- What an answered exchange of a sound one keeps to (1.2). -/
theorem Exchange.Sound.answered {limit : Nat} {e : Exchange} (h : e.Sound limit) (status : ResultStatus) {payload : List Byte}
    (hlen : payload.length ≤ 512) : (e.answered status payload).Sound limit := by
  constructor <;> simp only [Exchange.answered]
  · exact h.attempt
  · exact h.everSent
  · split
    · exact hlen
    · exact Nat.zero_le _
  all_goals simp [Phase.isOpen]

/-- Deciding the result of an exchange that is on its lists or off them keeps the table. -/
theorem State.Tabled.decideResult {s u : State} {i : Slot} {e e0 : Exchange} (h : s.Tabled) (hu : s.SameBut u i)
    (hlive0 : s.live i = some e0) (hopen : e0.phase.isOpen = true) (hlive : u.live i = some e) (hsession : e.session = e0.session)
    (htarget : e.target = e0.target) (hsound : e.Sound (traceLimit s.config)) (status : ResultStatus) {payload : List Byte}
    (hlen : payload.length ≤ 512) : (u.decideResult i status payload).Tabled := by
  obtain ⟨hl, hresults, hfree⟩ := hu.decideResult hlive status payload
  rw [hsession, htarget] at hl
  refine h.left hl hlive0 hopen ?_ (by simpa using hfree) (by simpa using hresults)
  rintro x ⟨⟩
  exact ⟨rfl, hsound.answered status hlen⟩

end Sys2Proof.Machine

namespace Sys2Proof.Machine
open Sys2Proof

/-! ### What an exchange may wait for, hold for, and be traced for (1.2) -/

/-- The exchange may be WAITING or HELD with the action. -/
def Exchange.mayAwait (limit : Nat) (e : Exchange) : Action → Prop
  | .firstSend => e.everSent = false
  | .resend => e.everSent = true
  | .trace => e.everSent = true ∧ e.repeatable = false ∧ e.traces < limit

/-- An open phase is sound for what the class, the sends and the traces allow. -/
theorem Exchange.Sound.setPhase {limit : Nat} {e : Exchange} (h : e.Sound limit) (hopen : e.phase.isOpen = true) (traces : Nat)
    (htraces : traces ≤ limit) (ph : Phase) (hsent : ∀ p d at_, ph = .sent p d at_ → e.everSent = true)
    (htracing : ∀ p d at_, ph = .tracing p d at_ → e.everSent = true ∧ e.repeatable = false)
    (hwaiting : ∀ a, ph = .waiting a → a ≠ .trace ∧ e.mayAwait limit a)
    (hheld : ∀ a d, ph = .held a d → ({ e with traces := traces } : Exchange).mayAwait limit a) :
    ({ e with traces := traces, phase := ph } : Exchange).Sound limit where
  attempt := h.attempt
  everSent := h.everSent
  payload := h.payload
  request _ := h.request hopen
  traces _ := htraces
  sent := hsent
  tracing := htracing
  firstSend d hp := hp.elim (fun hp => (hwaiting _ hp).2) fun hp => hheld _ _ hp
  resend d hp := hp.elim (fun hp => (hwaiting _ hp).2) fun hp => hheld _ _ hp
  heldTrace d hp := hheld _ _ hp
  waitingTrace hp := (hwaiting _ hp).1 rfl

theorem Exchange.Sound.toWaiting {limit : Nat} {e : Exchange} (h : e.Sound limit) (hopen : e.phase.isOpen = true) {a : Action}
    (ha : a ≠ .trace) (hmay : e.mayAwait limit a) : ({ e with phase := .waiting a } : Exchange).Sound limit :=
  h.setPhase hopen e.traces (h.traces hopen) (.waiting a) (fun _ _ _ hp => nomatch hp) (fun _ _ _ hp => nomatch hp)
    (fun b hb => by cases hb; exact ⟨ha, hmay⟩) fun _ _ hp => nomatch hp

theorem Exchange.Sound.toHeld {limit : Nat} {e : Exchange} (h : e.Sound limit) (hopen : e.phase.isOpen = true) {a : Action} (d : Time)
    (hmay : e.mayAwait limit a) : ({ e with phase := .held a d } : Exchange).Sound limit :=
  h.setPhase hopen e.traces (h.traces hopen) (.held a d) (fun _ _ _ hp => nomatch hp) (fun _ _ _ hp => nomatch hp)
    (fun _ hp => nomatch hp) fun b d' hb => by cases hb; exact hmay

theorem Exchange.Sound.toSent {limit : Nat} {e : Exchange} (h : e.Sound limit) (hopen : e.phase.isOpen = true) (p : PortId)
    (d at_ : Time) (hsent : e.everSent = true) : ({ e with phase := .sent p d at_ } : Exchange).Sound limit :=
  h.setPhase hopen e.traces (h.traces hopen) (.sent p d at_) (fun _ _ _ _ => hsent) (fun _ _ _ hp => nomatch hp)
    (fun _ hp => nomatch hp) fun _ _ hp => nomatch hp

theorem Exchange.Sound.toTracing {limit : Nat} {e : Exchange} (h : e.Sound limit) (hopen : e.phase.isOpen = true) (p : PortId)
    (d at_ : Time) (hmay : e.mayAwait limit .trace) :
    ({ e with traces := e.traces + 1, phase := .tracing p d at_ } : Exchange).Sound limit :=
  h.setPhase hopen (e.traces + 1) hmay.2.2 (.tracing p d at_) (fun _ _ _ hp => nomatch hp) (fun _ _ _ _ => ⟨hmay.1, hmay.2.1⟩)
    (fun _ hp => nomatch hp) fun _ _ hp => nomatch hp

/-- What a HELD exchange is held for, it may await. -/
theorem Exchange.Sound.mayAwait_of_held {limit : Nat} {e : Exchange} (h : e.Sound limit) {a : Action} {d : Time}
    (hp : e.phase = .held a d) : e.mayAwait limit a := by
  cases a with
  | firstSend => exact h.firstSend d (.inr hp)
  | resend => exact h.resend d (.inr hp)
  | trace => exact h.heldTrace d hp

theorem Exchange.Sound.mayAwait_of_waiting {limit : Nat} {e : Exchange} (h : e.Sound limit) {a : Action}
    (hp : e.phase = .waiting a) : e.mayAwait limit a := by
  cases a with
  | firstSend => exact h.firstSend 0 (.inl hp)
  | resend => exact h.resend 0 (.inl hp)
  | trace => exact absurd hp h.waitingTrace

/-! ### Settling an exchange that is off its lists -/

/-- In `u`, which differs from the true table of `s` in exchange i alone, i is off its lists with the sound and open record e of the
pair it had. -/
structure State.Lifted (s u : State) (i : Slot) (e : Exchange) : Prop where
  table : s.Tabled
  same : s.SameBut u i
  off : u.Off i
  live : u.live i = some e
  opened : e.phase.isOpen = true
  sound : e.Sound (traceLimit s.config)
  was : ∃ e0, s.live i = some e0 ∧ e0.phase.isOpen = true ∧ e.session = e0.session ∧ e.target = e0.target

theorem State.Tabled.lifted_detach {s : State} (h : s.Tabled) {i : Slot} {e : Exchange} (hlive : s.live i = some e)
    (hopen : e.phase.isOpen = true) : s.Lifted (s.detach i) i e :=
  ⟨h, s.sameBut_detach i, s.off_detach i, hlive, hopen, h.exchanges i e hlive, e, hlive, hopen, rfl, rfl⟩

theorem State.Tabled.lifted {s : State} (h : s.Tabled) {i : Slot} {e : Exchange} (hlive : s.live i = some e)
    (hopen : e.phase.isOpen = true) (hport : e.phase.port = none) : s.Lifted s i e :=
  ⟨h, .refl s i, h.listed.off hlive hport, hlive, hopen, h.exchanges i e hlive, e, hlive, hopen, rfl, rfl⟩

theorem State.Lifted.neutral {s u v : State} {i : Slot} {e : Exchange} (h : s.Lifted u i e) (hex : v.ex = u.ex)
    (htraces : tracesOf v.ports = tracesOf u.ports) (hcores : coresOf v.cache = coresOf u.cache) (hconfig : v.config = u.config)
    (htime : v.timeBase = u.timeBase) : s.Lifted v i e :=
  ⟨h.table, h.same.neutral hex htraces hcores hconfig htime, h.off.neutral hex htraces, by rw [State.live_congr hex]; exact h.live,
    h.opened, h.sound, h.was⟩

/-- The record changed in something other than its pair and phase. -/
theorem State.Lifted.modLive {s u : State} {i : Slot} {e : Exchange} (h : s.Lifted u i e) (f : Exchange → Exchange)
    (hphase : (f e).phase.isOpen = true) (hsession : (f e).session = e.session) (htarget : (f e).target = e.target)
    (hsound : (f e).Sound (traceLimit s.config)) : s.Lifted (u.modLive i f) i (f e) where
  table := h.table
  same := h.same.trans (u.sameBut_modLive i f)
  off := h.off.modLive f
  live := by rw [State.live_modLive, if_pos rfl, h.live]; rfl
  opened := hphase
  sound := hsound
  was := by
    obtain ⟨e0, hlive, hopen, ha, hy⟩ := h.was
    exact ⟨e0, hlive, hopen, hsession.trans ha, htarget.trans hy⟩

theorem State.Lifted.rehomed {s u t : State} {i : Slot} {e e' : Exchange} (h : s.Lifted u i e) (hr : s.Rehomed t i e')
    (hopen : e'.phase.isOpen = true) (hsession : e'.session = e.session) (htarget : e'.target = e.target)
    (hsound : e'.Sound (traceLimit s.config)) (hwait : ∀ a, e'.phase = .waiting a → (u.pairPort e.session e.target).isSome = true) :
    t.Tabled := by
  obtain ⟨e0, hlive, hopen0, ha, hy⟩ := h.was
  refine h.table.rehomed hr hlive hopen0 hopen (hsession.trans ha) (htarget.trans hy) hsound fun a hp => ?_
  rw [← State.pairPort_congr h.same.cores, hsession, htarget]
  exact hwait a hp

theorem State.Lifted.toWaiting {s u : State} {i : Slot} {e : Exchange} (h : s.Lifted u i e) {a : Action} (ha : a ≠ .trace)
    (hmay : e.mayAwait (traceLimit s.config) a) (hport : (u.pairPort e.session e.target).isSome = true) :
    (u.setPhase i (.waiting a)).Tabled :=
  h.rehomed (h.same.setPhase h.off h.live rfl) rfl rfl rfl (h.sound.toWaiting h.opened ha hmay) fun _ _ => hport

theorem State.Lifted.hold {s u : State} {i : Slot} {e : Exchange} (h : s.Lifted u i e) {a : Action}
    (hmay : e.mayAwait (traceLimit s.config) a) : (u.hold i a).Tabled :=
  h.rehomed (h.same.hold h.off h.live a) rfl rfl rfl (h.sound.toHeld h.opened _ hmay) fun _ hp => nomatch hp

theorem State.Lifted.becomeSent {s u : State} {i : Slot} {e : Exchange} (h : s.Lifted u i e) (p : PortId) (hsent : e.everSent = true) :
    (u.becomeSent i p).Tabled :=
  h.rehomed (h.same.becomeSent h.off h.live p) rfl rfl rfl (h.sound.toSent h.opened _ _ _ hsent) fun _ hp => nomatch hp

theorem State.Lifted.placeTrace {s u : State} {i : Slot} {e : Exchange} (h : s.Lifted u i e) (p : PortId)
    (hmay : e.mayAwait (traceLimit s.config) .trace) : (u.placeTrace i p).Tabled :=
  h.rehomed (h.same.placeTrace h.off h.live p) rfl rfl rfl (h.sound.toTracing h.opened _ _ _ hmay) fun _ hp => nomatch hp

theorem State.Lifted.decideResult {s u : State} {i : Slot} {e : Exchange} (h : s.Lifted u i e) (status : ResultStatus)
    {payload : List Byte} (hlen : payload.length ≤ 512) : (u.decideResult i status payload).Tabled := by
  obtain ⟨e0, hlive, hopen0, ha, hy⟩ := h.was
  exact h.table.decideResult h.same hlive hopen0 h.live ha hy h.sound status hlen

theorem State.Lifted.traceOrHold {s u : State} {i : Slot} {e : Exchange} (h : s.Lifted u i e) (y : Nat) (x : Option PortId)
    (hmay : e.mayAwait (traceLimit s.config) .trace) : (u.traceOrHold i y x).Tabled := by
  unfold State.traceOrHold
  split
  · exact h.placeTrace _ hmay
  · exact h.hold hmay

/-- The fate of a SINGLE-SHOT exchange that has been sent is sought (R115, R122). -/
theorem State.Lifted.seekFate {s u : State} {i : Slot} {e : Exchange} (h : s.Lifted u i e) (x : Option PortId)
    (hsent : e.everSent = true) (hclass : e.repeatable = false) : (u.seekFate i x).Tabled := by
  unfold State.seekFate
  rw [h.live]
  dsimp only
  split
  · exact h.decideResult _ (Nat.zero_le _)
  next hlt => exact h.traceOrHold _ _ ⟨hsent, hclass, by rw [← h.same.config]; exact Nat.not_le.1 hlt⟩

theorem State.Lifted.dueResend {s u : State} {i : Slot} {e : Exchange} (h : s.Lifted u i e) (hsent : e.everSent = true) :
    (u.dueResend i e).Tabled := by
  unfold State.dueResend
  split
  · split
    next hp => exact h.toWaiting (by decide) hsent (by rw [hp]; rfl)
    · exact h.hold hsent
  · exact h.decideResult _ (Nat.zero_le _)

/-- A SENT exchange met in the walk (R101, R102). -/
theorem State.Lifted.moveSent {s u : State} {i : Slot} {e : Exchange} (h : s.Lifted u i e) (p : PortId) (hsent : e.everSent = true) :
    (u.moveSent p i e).Tabled := by
  unfold State.moveSent
  split
  next hp => exact h.toWaiting (by decide) hsent (by rw [hp]; rfl)
  · exact h.hold hsent
  next _ hclass =>
    split
    · exact h.decideResult _ (Nat.zero_le _)
    next hlt =>
      have hmay : e.mayAwait (traceLimit s.config) .trace := ⟨hsent, hclass, by rw [← h.same.config]; exact Nat.not_le.1 hlt⟩
      split
      · split
        · exact h.traceOrHold _ _ hmay
        · exact h.hold hmay
      · split
        · exact h.placeTrace _ hmay
        · exact h.traceOrHold _ _ hmay

/-! ### The loss of a link: its traces are handed back one at a time (R67, R122) -/

/-- Fewer traces pending leave the table true. -/
theorem State.Tabled.fewerTraces {s t : State} (h : s.Tabled) (hex : t.ex = s.ex)
    (htraces : ∀ q, (tracesOf t.ports q).Sublist (tracesOf s.ports q)) (hcores : coresOf t.cache = coresOf s.cache)
    (hconfig : t.config = s.config) : t.Tabled := by
  have hn : ({ t with ports := s.ports } : State).Tabled := h.neutral hex rfl hcores hconfig
  obtain ⟨⟨free, order, results, outstanding, traces, freeOnce, orderOnce, resultsOnce, outstandingOnce, readyOnce, tracesOnce⟩,
    cached, waiting, exchanges⟩ := hn
  refine ⟨⟨free, order, results, outstanding, fun i q hi => traces i q ((htraces q).subset hi), freeOnce, orderOnce, resultsOnce,
    outstandingOnce, readyOnce, fun q => (tracesOnce q).sublist (htraces q)⟩, ?_, waiting, exchanges⟩
  exact cached.congr (fun _ => rfl) fun _ => rfl

/-- A record changed in something other than its pair and phase, on its lists as it stands. -/
theorem State.Tabled.modLive {s : State} (h : s.Tabled) {i : Slot} {e : Exchange} (hlive : s.live i = some e) (f : Exchange → Exchange)
    (hphase : (f e).phase = e.phase) (hsession : (f e).session = e.session) (htarget : (f e).target = e.target)
    (hsound : (f e).Sound (traceLimit s.config)) : (s.modLive i f).Tabled := by
  have hnew : ∀ j, (s.modLive i f).live j = if i = j then some (f e) else s.live j := fun j => by
    rw [State.live_modLive, hlive]; rfl
  have hph : (s.modLive i f).phase = s.phase := by
    funext j
    rw [State.phase, State.phase, hnew]
    split
    next hj => subst hj; simp [hlive, hphase]
    · rfl
  obtain ⟨⟨free, order, results, outstanding, traces, freeOnce, orderOnce, resultsOnce, outstandingOnce, readyOnce, tracesOnce⟩,
    cached, waiting, exchanges⟩ := h
  have hnone : ∀ j, (s.modLive i f).live j = none ↔ s.live j = none := fun j => by
    rw [hnew]
    split
    next hj => subst hj; simp [hlive]
    · rfl
  refine ⟨⟨fun j => (free j).trans (hnone j).symm, ?_, ?_, ?_, ?_, freeOnce, orderOnce, resultsOnce, outstandingOnce, readyOnce, tracesOnce⟩,
    cached.congr (fun _ => rfl) fun j => ?_, fun j x hx a ha => ?_, fun j x hx => ?_⟩
  · simp only [State.slotOpen, hph]; exact order
  · simp only [State.slotAnswered, hph]; exact results
  · simp only [State.slotPort, hph]; exact outstanding
  · simp only [State.tracingOn, hph]; exact traces
  · rw [State.keyOf, State.keyOf, hnew]
    split
    next hj => subst hj; simp [hlive, Exchange.key, hphase, hsession, htarget]
    · rfl
  · rw [hnew] at hx
    split at hx
    · cases hx
      rw [hsession, htarget]
      exact waiting i e hlive a (hphase ▸ ha)
    · exact waiting j x hx a ha
  · rw [hnew] at hx
    split at hx
    · cases hx; exact hsound
    · exact exchanges j x hx

theorem State.hold_record_other (s : State) {i j : Slot} (hj : j ≠ i) (a : Action) : (s.hold i a).record j = s.record j := by
  rw [State.record_of_ex (s.hold_ex i a).1, State.record_setPhase, if_neg fun e => hj e.symm]

theorem State.placeTrace_record_other (s : State) {i j : Slot} (hj : j ≠ i) (p : PortId) : (s.placeTrace i p).record j = s.record j :=
  (State.record_modLive s i j _).trans (by rw [if_neg fun e => hj e.symm])

theorem State.decideResult_record_other (s : State) {i j : Slot} (hj : j ≠ i) (status : ResultStatus) (payload : List Byte) :
    (s.decideResult i status payload).record j = s.record j := by
  cases hlive : s.live i with
  | none => rw [State.decideResult, hlive]
  | some e => exact ((State.SameBut.refl s i).decideResult hlive status payload).1.others j hj

theorem State.seekFate_record_other (s : State) {i j : Slot} (hj : j ≠ i) (x : Option PortId) : (s.seekFate i x).record j = s.record j := by
  unfold State.seekFate State.traceOrHold
  split
  · rfl
  · split
    · exact s.decideResult_record_other hj _ _
    · split
      · exact s.placeTrace_record_other hj _
      · exact s.hold_record_other hj _

theorem State.handBack_record_other (s : State) {i j : Slot} (hj : j ≠ i) (p : PortId) : (State.handBack p s i).record j = s.record j := by
  unfold State.handBack State.unanswered
  rw [State.seekFate_record_other _ hj, State.record_detach, State.record_modLive, if_neg fun e => hj e.symm]

theorem State.Tabled.handBack {s : State} (h : s.Tabled) {i : Slot} {e : Exchange} {q : PortId} {d at_ : Time}
    (hlive : s.live i = some e) (hp : e.phase = .tracing q d at_) (p : PortId) : (State.handBack p s i).Tabled := by
  have hsound := h.exchanges i e hlive
  obtain ⟨hsent, hclass⟩ := hsound.tracing q d at_ hp
  have hopen : e.phase.isOpen = true := by rw [hp]; rfl
  have htraces := hsound.traces hopen
  have hlow : ({ e with traces := e.traces - 1 } : Exchange).Sound (traceLimit s.config) := by
    have hs := hsound.setPhase hopen (e.traces - 1) (by omega) e.phase (fun p d a hx => hsound.sent p d a hx)
      (fun p d a hx => hsound.tracing p d a hx) (fun a hx => by rw [hp] at hx; cases hx) (fun a d hx => by rw [hp] at hx; cases hx)
    exact hs
  have hm := h.modLive hlive (fun e => { e with traces := e.traces - 1 }) rfl rfl rfl hlow
  have hl : (s.modLive i (fun e => { e with traces := e.traces - 1 })).live i = some { e with traces := e.traces - 1 } := by
    rw [State.live_modLive, if_pos rfl, hlive]; rfl
  exact (hm.lifted_detach hl hopen).seekFate (some p) hsent hclass

theorem State.Tabled.foldl_handBack {s : State} (h : s.Tabled) (p : PortId) (l : List Slot) (honce : l.Nodup)
    (hl : ∀ i ∈ l, ∃ q, s.tracingOn i q = true) : (l.foldl (State.handBack p) s).Tabled := by
  induction l generalizing s with
  | nil => exact h
  | cons i l ih =>
    obtain ⟨hi, hrest⟩ := List.nodup_cons.1 honce
    obtain ⟨q, hq⟩ := hl i (by simp)
    obtain ⟨e, d, at_, hlive, hp⟩ := (s.tracingOn_iff i q).1 hq
    refine ih (h.handBack hlive hp p) hrest fun j hj => ?_
    obtain ⟨r, hr⟩ := hl j (List.mem_cons_of_mem _ hj)
    have hne : j ≠ i := fun e => hi (e ▸ hj)
    refine ⟨r, ?_⟩
    obtain ⟨x, d', at', hx, hp'⟩ := (s.tracingOn_iff j r).1 hr
    exact (State.tracingOn_iff _ j r).2 ⟨x, d', at', by rw [State.live, s.handBack_record_other hne p]; exact hx, hp'⟩

theorem State.Tabled.dropLink {s : State} (h : s.Tabled) (p : PortId) (st : PortState) : (s.dropLink p st).Tabled := by
  have hcut : (s.cutLink p st).Tabled := by
    refine h.fewerTraces (by simp) (fun q => ?_) (by simp) (by simp)
    rw [tracesOf_eq, State.port_cutLink]
    split
    · exact List.nil_sublist _
    · exact .refl _
  have hfold := hcut.foldl_handBack p (s.port p).pendingTraces (h.listed.tracesOnce p) fun i hi => by
    refine ⟨p, ?_⟩
    have htr := h.listed.traces i p hi
    unfold State.tracingOn State.phase at htr ⊢
    rw [State.live_congr (State.cutLink_frame s p st).2.2.2.2.1]
    exact htr
  exact hfold.neutral (by simp [State.dropLink]) (by simp [State.dropLink]) (by simp [State.dropLink]) (by simp [State.dropLink])

theorem State.Tabled.announce {s : State} (h : s.Tabled) (p : PortId) (l : PortState) (c : PortCause) : (s.announce p l c).Tabled :=
  h.neutral (by simp) (by simp) (by simp) (by simp)

theorem State.Tabled.detect {s : State} (h : s.Tabled) (p : PortId) : (s.detect p).Tabled :=
  h.neutral (by simp) (by simp) (by simp) (by simp)

theorem State.Tabled.modPort {s : State} (h : s.Tabled) (p : PortId) (f : Port → Port)
    (hf : (f (s.port p)).pendingTraces = (s.port p).pendingTraces) : (s.modPort p f).Tabled :=
  h.neutral rfl (s.tracesOf_modPort p f hf) rfl rfl

theorem State.Tabled.loseLink {s : State} (h : s.Tabled) (p : PortId) (c : PortCause) : (s.loseLink p c).Tabled :=
  ((h.dropLink p .down).announce _ _ _).detect p

theorem State.Tabled.takeDamaged {s : State} (h : s.Tabled) (p : PortId) : (s.takeDamaged p).Tabled := by
  unfold State.takeDamaged
  dsimp only
  split
  · split
    · exact (h.modPort p _ rfl).loseLink p _
    · exact (h.modPort p _ rfl).modPort p _ rfl
  · exact h

theorem State.Tabled.offerIfWork {s : State} (h : s.Tabled) (p : PortId) : (s.offerIfWork p).Tabled :=
  h.neutral (by simp) (by simp) (by simp) (by simp)

theorem State.Tabled.resetPort {s : State} (h : s.Tabled) (p : PortId) : (s.resetPort p).Tabled := by
  unfold State.resetPort
  dsimp only
  split
  · exact ((h.dropLink p _).modPort p _ rfl).announce _ _ _
  · exact ((h.dropLink p _).modPort p _ rfl).announce _ _ _
  · exact ((h.modPort p _ rfl).offerIfWork p).announce _ _ _
  · exact ((h.modPort p _ rfl).offerIfWork p).announce _ _ _
  · exact ((h.modPort p _ rfl).offerIfWork p).announce _ _ _
  · exact h.modPort p _ rfl

theorem State.Tabled.portOff {s : State} (h : s.Tabled) (p : PortId) : (s.portOff p).Tabled := by
  unfold State.portOff
  dsimp only
  split
  · exact ((h.dropLink p _).modPort p _ rfl).announce _ _ _
  · exact ((h.dropLink p _).modPort p _ rfl).announce _ _ _
  · exact ((h.modPort p _ rfl).offerIfWork p).announce _ _ _
  · exact ((h.modPort p _ rfl).offerIfWork p).announce _ _ _
  · exact ((h.modPort p _ rfl).offerIfWork p).announce _ _ _
  · exact h

theorem State.Tabled.drain {s : State} (h : s.Tabled) (p : PortId) : (s.drain p).Tabled :=
  ((h.dropLink p _).modPort p _ rfl).announce _ _ _

theorem State.Tabled.quiesce {s : State} (h : s.Tabled) (p : PortId) : (s.quiesce p).Tabled := by
  have hmarked : ((s.modPort p (fun x => { x with state := .quiescing })).setQuiesceMarks p).Tabled :=
    (h.modPort p (fun x => { x with state := .quiescing }) rfl).neutral (by simp) (by simp) (by simp) (by simp)
  unfold State.quiesce
  dsimp only
  split
  · exact (hmarked.announce _ _ _).drain p
  · exact hmarked.announce _ _ _

theorem State.Tabled.drainEmptied {s : State} (h : s.Tabled) (before : State) : (before.drainEmptied s).Tabled := by
  unfold State.drainEmptied
  generalize allPorts = l
  induction l generalizing s with
  | nil => exact h
  | cons p l ih =>
    refine ih (s := if before.emptiedSince s p = true then s.drain p else s) ?_
    split
    · exact h.drain p
    · exact h

theorem State.Tabled.closeFrom {s : State} (h : s.Tabled) (before : State) : (before.closeFrom s).TableTrue :=
  (h.drainEmptied before).close

end Sys2Proof.Machine

namespace Sys2Proof.Machine
open Sys2Proof

/-! ### Re-placement (R98 to R100) -/

/-- The entries of a state whose pair (a, y) has been given a port, or none. -/
theorem State.entryAt_placePair (s : State) (a : Word32) (y : Nat) (p : Option PortId) (pl : Place) : (s.placePair a y p).entryAt pl =
    if s.findPlace a y = some pl then (s.entryAt pl).map (fun e => { e with port := p, quiesceMark := false, verdictMark := none })
    else s.entryAt pl :=
  s.entryAt_modEntryOf a y _ pl

@[simp] theorem State.live_placePair (s : State) (a : Word32) (y : Nat) (p : Option PortId) : (s.placePair a y p).live = s.live :=
  State.live_congr (s.placePair_frame a y p).2.2.2.2.1

theorem State.shape_placePair (s : State) (a : Word32) (y : Nat) (p : Option PortId) (pl : Place) :
    ((s.placePair a y p).entryAt pl).map Entry.shape = (s.entryAt pl).map Entry.shape := by
  rw [State.entryAt_placePair]
  split
  · rw [Option.map_map]
    rfl
  · rfl

/-- All of the bundle but the clause on WAITING exchanges, and that clause for the exchanges that a test lets through. -/
structure State.TabledBut (s : State) (test : Slot → Exchange → Prop) : Prop where
  listed : s.Listed
  cached : s.CacheCounted
  waiting : ∀ i e, s.live i = some e → ∀ action, e.phase = .waiting action → ¬ test i e →
    (s.pairPort e.session e.target).isSome = true
  exchanges : s.ExchangesSound

theorem State.TabledBut.tabled {s : State} {test : Slot → Exchange → Prop} (h : s.TabledBut test)
    (hno : ∀ i e, s.live i = some e → ∀ action, e.phase = .waiting action → ¬ test i e) : s.Tabled :=
  ⟨h.listed, h.cached, fun i e he a ha => h.waiting i e he a ha (hno i e he a ha), h.exchanges⟩

/-- The table of a state apart from the cache. -/
theorem State.Listed.congr {s t : State} (h : s.Listed) (hex : t.ex = s.ex) (htraces : tracesOf t.ports = tracesOf s.ports) : t.Listed := by
  have hlive := State.live_congr hex
  have hphase : t.phase = s.phase := by unfold State.phase; rw [hlive]
  obtain ⟨free, order, results, outstanding, traces, freeOnce, orderOnce, resultsOnce, outstandingOnce, readyOnce, tracesOnce⟩ := h
  refine ⟨?_, ?_, ?_, ?_, ?_, ?_, ?_, ?_, ?_, ?_, ?_⟩
  all_goals simp only [State.slotOpen, State.slotAnswered, State.slotPort, State.tracingOn, State.outstanding, State.ready, hphase, hlive,
    hex, htraces] <;> assumption

theorem State.ExchangesSound.congr {s t : State} (h : s.ExchangesSound) (hex : t.ex = s.ex) (hconfig : t.config = s.config) :
    t.ExchangesSound := by
  intro i e he
  rw [hconfig]
  exact h i e (State.live_congr hex ▸ he)

/-- The exchange is of the pair. -/
def OfPair (a : Word32) (y : Nat) (_ : Slot) (e : Exchange) : Prop := e.session = a ∧ e.target = y

theorem State.CacheCounted.findPlace_of_open {s : State} (h : s.CacheCounted) {i : Slot} {a : Word32} {y : Nat}
    (hkey : s.keyOf i = some (a, y, true)) : ∃ pl, s.findPlace a y = some pl := by
  obtain ⟨pl, hc⟩ := h.covered i a y hkey
  exact ⟨pl, (h.findPlace_iff a y pl).2 hc⟩

theorem State.pairPort_placePair_other {s : State} (h : s.PairsPlaced) (ht : ∀ p, (s.placePair a y p).PairsPlaced) (p : Option PortId)
    {b : Word32} {z : Nat} (hne : ¬ (b = a ∧ z = y)) : (s.placePair a y p).pairPort b z = s.pairPort b z := by
  refine Option.ext fun q => ?_
  rw [(ht p).pairPort_iff, h.pairPort_iff]
  refine exists_congr fun pl => ?_
  rw [State.entryAt_placePair]
  split
  next hf =>
    obtain ⟨c, hc, rfl, rfl⟩ := State.entryAt_of_findPlace hf
    rw [hc]
    constructor
    · rintro ⟨x, hx, rfl, rfl, -⟩
      cases hx
      exact absurd ⟨rfl, rfl⟩ hne
    · rintro ⟨x, hx, rfl, rfl, -⟩
      cases hx
      exact absurd ⟨rfl, rfl⟩ hne
  · rfl

theorem State.PairsPlaced.placePair {s : State} (h : s.PairsPlaced) (a : Word32) (y : Nat) (p : Option PortId) :
    (s.placePair a y p).PairsPlaced := by
  have hold : ∀ {pl e}, (s.placePair a y p).entryAt pl = some e → ∃ c, s.entryAt pl = some c ∧ c.session = e.session ∧ c.target = e.target := by
    intro pl e he
    have hs := s.shape_placePair a y p pl
    rw [he] at hs
    obtain ⟨c, hc, hce⟩ := Option.map_eq_some_iff.1 hs.symm
    simp only [Entry.shape, Prod.mk.injEq] at hce
    exact ⟨c, hc, hce.1, hce.2.1⟩
  refine ⟨fun pl e he => ?_, fun pl pl' e e' he he' ha hy => ?_⟩
  · obtain ⟨c, hc, ha, hy⟩ := hold he
    rw [h.placed pl c hc, ha, hy]
  · obtain ⟨c, hc, hca, hcy⟩ := hold he
    obtain ⟨c', hc', hca', hcy'⟩ := hold he'
    exact h.unique pl pl' c c' hc hc' (by rw [hca, hca', ha]) (by rw [hcy, hcy', hy])

/-- The pair, where it has an entry, afterwards has the port. -/
theorem State.PairsPlaced.pairPort_placePair_self {s : State} (h : s.PairsPlaced) {a : Word32} {y : Nat} {pl : Place}
    (hf : s.findPlace a y = some pl) (q : PortId) : (s.placePair a y (some q)).pairPort a y = some q := by
  obtain ⟨c, hc, ha, hy⟩ := State.entryAt_of_findPlace hf
  refine ((h.placePair a y (some q)).pairPort_iff a y q).2
    ⟨pl, { c with port := some q, quiesceMark := false, verdictMark := none }, ?_, ha, hy, rfl⟩
  rw [State.entryAt_placePair, if_pos hf, hc]
  rfl

/-- A pair re-placed: the table is true but for its WAITING exchanges, which the re-placement goes on to hold if it found no port. -/
theorem State.Tabled.placePair {s : State} (h : s.Tabled) (a : Word32) (y : Nat) (p : Option PortId) :
    (s.placePair a y p).TabledBut (OfPair a y) where
  listed := h.listed.congr (by simp) (by simp)
  cached := h.cached.congr (s.shape_placePair a y p) fun i => by rw [State.keyOf, State.keyOf, State.live_placePair]
  waiting i e he action ha hne := by
    rw [State.pairPort_placePair_other h.cached.toPairsPlaced (h.cached.toPairsPlaced.placePair a y) p hne]
    rw [State.live_placePair] at he
    exact h.waiting i e he action ha
  exchanges := h.exchanges.congr (by simp) (by simp)

theorem State.Tabled.placePair_some {s : State} (h : s.Tabled) (a : Word32) (y : Nat) (q : PortId) : (s.placePair a y (some q)).Tabled := by
  have hb := h.placePair a y (some q)
  refine ⟨hb.listed, hb.cached, fun i e he action ha => ?_, hb.exchanges⟩
  by_cases hpair : OfPair a y i e
  · obtain ⟨rfl, rfl⟩ := hpair
    rw [State.live_placePair] at he
    obtain ⟨pl, hf⟩ := h.cached.findPlace_of_open ((s.keyOf_eq_some_iff i e.session e.target true).2 ⟨e, he, rfl, rfl, by rw [ha]; rfl⟩)
    rw [h.cached.toPairsPlaced.pairPort_placePair_self hf]
    rfl
  · exact hb.waiting i e he action ha hpair

theorem State.mem_pairOrder (s : State) (a : Word32) (y : Nat) (i : Slot) :
    i ∈ s.pairOrder a y ↔ i ∈ s.ex.order ∧ ∃ e, s.live i = some e ∧ e.session = a ∧ e.target = y := by
  rw [State.pairOrder, List.mem_filter]
  refine and_congr_right fun _ => ?_
  cases s.live i <;> simp [Exchange.ofPair]

/-- What one exchange of a pair that gains port q does (R99). -/
def State.returnOne (q : PortId) (u : State) (i : Slot) : State := match u.phase i with
  | some (.held .trace _) => u.placeTrace i q
  | some (.held action _) => u.setPhase i (.waiting action)
  | _ => u

/-- What one exchange of a pair that becomes unplaced does (R100). -/
def State.holdOne (u : State) (i : Slot) : State := match u.phase i with
  | some (.waiting action) => u.hold i action
  | _ => u

theorem State.returnHeld_eq (s : State) (a : Word32) (y : Nat) (q : PortId) :
    s.returnHeld a y q = (s.pairOrder a y).foldl (State.returnOne q) s := by
  rfl

theorem State.holdWaiting_eq (s : State) (a : Word32) (y : Nat) : s.holdWaiting a y = (s.pairOrder a y).foldl State.holdOne s := by
  rfl

theorem State.live_of_phase {s : State} {i : Slot} {ph : Phase} (h : s.phase i = some ph) : ∃ e, s.live i = some e ∧ e.phase = ph :=
  Option.map_eq_some_iff.1 h

/-- One exchange returned keeps the table and the cache, its pair and the others. -/
theorem State.Tabled.returnOne {s : State} (h : s.Tabled) (q : PortId) (i : Slot)
    (hport : ∀ e, s.live i = some e → (s.pairPort e.session e.target).isSome = true) :
    (State.returnOne q s i).Tabled ∧ (State.returnOne q s i).cache = s.cache ∧
      ∀ j e, (State.returnOne q s i).live j = some e → ∃ e0, s.live j = some e0 ∧ e.session = e0.session ∧ e.target = e0.target := by
  unfold State.returnOne
  split
  next d hp =>
    obtain ⟨e, hlive, hph⟩ := State.live_of_phase hp
    have hl := h.lifted hlive (by rw [hph]; rfl) (by rw [hph]; rfl)
    refine ⟨hl.placeTrace q (hl.sound.mayAwait_of_held hph), by simp, fun j x hx => ?_⟩
    have hr := hl.same.placeTrace hl.off hl.live q
    by_cases hj : j = i
    · subst hj
      cases hr.live_self.symm.trans hx
      exact ⟨e, hlive, rfl, rfl⟩
    · exact ⟨x, hr.live_other hj ▸ hx, rfl, rfl⟩
  next action d hne hp =>
    obtain ⟨e, hlive, hph⟩ := State.live_of_phase hp
    have hl := h.lifted hlive (by rw [hph]; rfl) (by rw [hph]; rfl)
    have ha : action ≠ .trace := hne
    refine ⟨hl.toWaiting ha (hl.sound.mayAwait_of_held hph) (hport e hlive), by simp, fun j x hx => ?_⟩
    rw [State.live_setPhase] at hx
    split at hx
    next hj =>
      subst hj
      rw [hlive] at hx
      cases hx
      exact ⟨e, hlive, rfl, rfl⟩
    · exact ⟨x, hx, rfl, rfl⟩
  · exact ⟨h, rfl, fun j e he => ⟨e, he, rfl, rfl⟩⟩

theorem State.Tabled.foldl_returnOne {s : State} (h : s.Tabled) (q : PortId) (l : List Slot)
    (hl : ∀ i ∈ l, ∀ e, s.live i = some e → (s.pairPort e.session e.target).isSome = true) : (l.foldl (State.returnOne q) s).Tabled := by
  induction l generalizing s with
  | nil => exact h
  | cons i l ih =>
    obtain ⟨ht, hcache, hlive⟩ := h.returnOne q i (hl i (by simp))
    refine ih ht fun j hj e he => ?_
    obtain ⟨e0, he0, ha, hy⟩ := hlive j e he
    rw [ha, hy, State.pairPort_congr (congrArg coresOf hcache)]
    exact hl j (List.mem_cons_of_mem _ hj) e0 he0

theorem State.Tabled.returnHeld {s : State} (h : s.Tabled) {a : Word32} {y : Nat} (q : PortId)
    (hport : s.pairOrder a y ≠ [] → (s.pairPort a y).isSome = true) : (s.returnHeld a y q).Tabled := by
  rw [State.returnHeld_eq]
  refine h.foldl_returnOne q _ fun i hi e he => ?_
  obtain ⟨-, e', he', rfl, rfl⟩ := (s.mem_pairOrder a y i).1 hi
  cases he.symm.trans he'
  exact hport (List.ne_nil_of_mem hi)

/-- A pair that has gained a port: its HELD exchanges are returned. -/
theorem State.Tabled.placeAndReturn {s : State} (h : s.Tabled) (a : Word32) (y : Nat) (q : PortId) :
    ((s.placePair a y (some q)).returnHeld a y q).Tabled := by
  refine (h.placePair_some a y q).returnHeld q fun hne => ?_
  obtain ⟨i, hi⟩ := List.exists_mem_of_ne_nil _ hne
  obtain ⟨hord, e, he, rfl, rfl⟩ := (State.mem_pairOrder _ a y i).1 hi
  have hopen := ((h.placePair_some e.session e.target q).listed.order i).1 hord
  obtain ⟨e', he', ho⟩ := (State.slotOpen_iff _ i).1 hopen
  cases he.symm.trans he'
  rw [State.live_placePair] at he
  obtain ⟨pl, hf⟩ := h.cached.findPlace_of_open ((s.keyOf_eq_some_iff i e.session e.target true).2 ⟨e, he, rfl, rfl, ho⟩)
  rw [h.cached.toPairsPlaced.pairPort_placePair_self hf]
  rfl

/-- One exchange of an unplaced pair held: the table stays true but for those still to be held. -/
theorem State.TabledBut.holdOne {s : State} {a : Word32} {y : Nat} {i : Slot} {l : List Slot}
    (h : s.TabledBut (fun j e => OfPair a y j e ∧ j ∈ i :: l)) : (s.holdOne i).TabledBut (fun j e => OfPair a y j e ∧ j ∈ l) := by
  unfold State.holdOne
  split
  next action hp =>
    obtain ⟨e, hlive, hph⟩ := State.live_of_phase hp
    have hsound := h.exchanges i e hlive
    have hopen : e.phase.isOpen = true := by rw [hph]; rfl
    have hoff := h.listed.off hlive (by rw [hph]; rfl)
    have hr := (State.SameBut.refl s i).hold hoff hlive action
    have hheld := hsound.toHeld hopen (s.timeBase + ms (holdLimit s.config)) (hsound.mayAwait_of_waiting hph)
    refine ⟨h.listed.rehomed hr hlive hopen rfl, h.cached.congr (shape_of_coresOf hr.cores)
      (hr.keyOf hlive (Exchange.key_eq rfl rfl hopen.symm)), fun j x hx b hb hno => ?_, hr.exchangesSound h.exchanges hheld⟩
    by_cases hj : j = i
    · subst hj
      cases hr.live_self.symm.trans hx
      cases hb
    · rw [State.pairPort_congr hr.cores]
      refine h.waiting j x (hr.live_other hj ▸ hx) b hb fun hc => hno ⟨hc.1, ?_⟩
      exact (List.mem_cons.1 hc.2).resolve_left hj
  next hno =>
    refine ⟨h.listed, h.cached, fun j x hx b hb hc => h.waiting j x hx b hb fun hm => hc ⟨hm.1, ?_⟩, h.exchanges⟩
    refine (List.mem_cons.1 hm.2).resolve_left fun hj => ?_
    subst hj
    exact hno b (by rw [State.phase_of_live hx, hb])

theorem State.TabledBut.foldl_holdOne {s : State} {a : Word32} {y : Nat} (l : List Slot)
    (h : s.TabledBut (fun j e => OfPair a y j e ∧ j ∈ l)) : (l.foldl State.holdOne s).Tabled := by
  induction l generalizing s with
  | nil => exact h.tabled fun _ _ _ _ _ hc => nomatch hc.2
  | cons i l ih => exact ih h.holdOne

/-- A pair left without a port: its WAITING exchanges are held. -/
theorem State.Tabled.unplaceAndHold {s : State} (h : s.Tabled) (a : Word32) (y : Nat) :
    ((s.placePair a y none).holdWaiting a y).Tabled := by
  have hb := h.placePair a y none
  rw [State.holdWaiting_eq]
  refine State.TabledBut.foldl_holdOne (a := a) (y := y) _ ⟨hb.listed, hb.cached, fun i e he action ha hno => ?_, hb.exchanges⟩
  refine hb.waiting i e he action ha fun hpair => hno ⟨hpair, ?_⟩
  refine (State.mem_pairOrder _ a y i).2 ⟨(hb.listed.order i).2 ((State.slotOpen_iff _ i).2 ⟨e, he, by rw [ha]; rfl⟩), e, he, hpair⟩

theorem State.Tabled.replacePair {s : State} (h : s.Tabled) (a : Word32) (y : Nat) : (s.replacePair a y).Tabled := by
  unfold State.replacePair
  split
  · exact h.placeAndReturn a y _
  · exact h.unplaceAndHold a y

end Sys2Proof.Machine

namespace Sys2Proof.Machine
open Sys2Proof

/-! ### Idle entries that go, change or come -/

/-- Pinned entries stand, and an entry that has come or changed is idle, alone with its pair, and of a pair with no pinned entry. -/
structure State.Refilled (s t : State) : Prop where
  ex : t.ex = s.ex
  traces : tracesOf t.ports = tracesOf s.ports
  config : t.config = s.config
  kept : ∀ pl e, s.entryAt pl = some e → e.count ≠ 0 → t.entryAt pl = some e
  fresh : ∀ pl e, t.entryAt pl = some e → s.entryAt pl = some e ∨
    (e.count = 0 ∧ pl.set = setIndex e.session e.target ∧
      (∀ pl' c, t.entryAt pl' = some c → c.session = e.session → c.target = e.target → pl' = pl) ∧
      ∀ pl' c, s.entryAt pl' = some c → c.session = e.session → c.target = e.target → c.count = 0)

/-- An open exchange pins its pair's entry. -/
theorem State.CacheCounted.pinned {s : State} (h : s.CacheCounted) {i : Slot} {a : Word32} {y : Nat} (hi : s.keyOf i = some (a, y, true)) :
    ∃ pl c, s.entryAt pl = some c ∧ c.session = a ∧ c.target = y ∧ c.count ≠ 0 := by
  obtain ⟨pl, c, hc, rfl, rfl⟩ := h.covered i a y hi
  refine ⟨pl, c, hc, rfl, rfl, fun h0 => ?_⟩
  have hmem := (s.mem_openOf _ _ i).2 hi
  rw [List.length_eq_zero_iff.1 ((h.counted pl c hc).symm.trans h0)] at hmem
  cases hmem

theorem State.Refilled.cacheCounted {s t : State} (hr : s.Refilled t) (h : s.CacheCounted) : t.CacheCounted := by
  have hkey : ∀ i, t.keyOf i = s.keyOf i := fun i => by rw [State.keyOf, State.keyOf, State.live_congr hr.ex]
  have hopen : ∀ a y, t.openOf a y = s.openOf a y := fun a y => State.openOf_congr a y fun i => by rw [hkey]
  refine ⟨⟨fun pl e he => ?_, fun pl pl' e e' he he' ha hy => ?_⟩, fun pl e he => ?_, fun i a y hi => ?_⟩
  · obtain hs | ⟨-, hset, -⟩ := hr.fresh pl e he
    · exact h.placed pl e hs
    · exact hset
  · obtain hs | ⟨-, -, halone, -⟩ := hr.fresh pl e he
    · obtain hs' | ⟨-, -, halone', -⟩ := hr.fresh pl' e' he'
      · exact h.unique pl pl' e e' hs hs' ha hy
      · exact halone' pl e he ha hy
    · exact (halone pl' e' he' ha.symm hy.symm).symm
  · rw [hopen]
    obtain hs | ⟨hzero, -, -, hidle⟩ := hr.fresh pl e he
    · exact h.counted pl e hs
    · rw [hzero, eq_comm, List.length_eq_zero_iff, List.eq_nil_iff_forall_not_mem]
      intro i hi
      obtain ⟨pl', c, hc, ha, hy, hn⟩ := h.pinned ((s.mem_openOf _ _ i).1 hi)
      exact hn (hidle pl' c hc ha hy)
  · obtain ⟨pl, c, hc, ha, hy, hn⟩ := h.pinned (hkey i ▸ hi)
    exact ⟨pl, c, hr.kept pl c hc hn, ha, hy⟩

theorem State.Refilled.pairPort {s t : State} (hr : s.Refilled t) (h : s.CacheCounted) {i : Slot} {e : Exchange}
    (hlive : s.live i = some e) (hopen : e.phase.isOpen = true) : t.pairPort e.session e.target = s.pairPort e.session e.target := by
  obtain ⟨pl, c, hc, ha, hy, hn⟩ := h.pinned ((s.keyOf_eq_some_iff i _ _ _).2 ⟨e, hlive, rfl, rfl, hopen⟩)
  have hs : s.entryOf e.session e.target = some c := (h.toPairsPlaced.entryOf_iff _ _ c).2 ⟨pl, hc, ha, hy⟩
  have ht : t.entryOf e.session e.target = some c :=
    ((hr.cacheCounted h).toPairsPlaced.entryOf_iff _ _ c).2 ⟨pl, hr.kept pl c hc hn, ha, hy⟩
  rw [State.pairPort, State.pairPort, hs, ht]

theorem State.Tabled.refilled {s t : State} (h : s.Tabled) (hr : s.Refilled t) : t.Tabled := by
  refine ⟨h.listed.congr hr.ex hr.traces, hr.cacheCounted h.cached, fun i e he a ha => ?_, h.exchanges.congr hr.ex hr.config⟩
  rw [State.live_congr hr.ex] at he
  rw [hr.pairPort h.cached he (by rw [ha]; rfl)]
  exact h.waiting i e he a ha

/-- Sendability speaks of WAITING exchanges alone, whose entries are pinned. -/
theorem State.TableTrue.refilled {s t : State} (h : s.TableTrue) (hr : s.Refilled t) (hstates : statesOf t.ports = statesOf s.ports) :
    t.TableTrue := by
  have ht := h.tabled.refilled hr
  have hlive := State.live_congr hr.ex
  have hphase : t.phase = s.phase := by unfold State.phase; rw [hlive]
  refine ⟨.of_listed ht.listed fun i p => ?_, ht.cacheAgrees, ht.exchanges⟩
  have hready : t.ready p = s.ready p := by rw [State.ready, State.ready, hr.ex]
  have hwaiting : t.isWaiting i = s.isWaiting i := by simp only [State.isWaiting, hphase]
  have hstate : (t.port p).state = (s.port p).state := congrFun hstates p
  rw [hready, h.1.ready i p, State.sendable_iff, State.sendable_iff, hlive, hwaiting, hstate, hr.config]
  have hpair : t.pairOrder = s.pairOrder := by
    funext a y
    simp only [State.pairOrder, hlive, hr.ex]
  have hsent : t.isSent = s.isSent := by
    funext j
    simp only [State.isSent, hphase]
  have hflight : t.inFlight = s.inFlight := by
    funext j
    simp only [State.inFlight, hphase]
  rw [hpair, hsent, hflight]
  constructor
  · rintro ⟨e, he, hport, hw, hrest⟩
    obtain ⟨e', a, he', hp⟩ := (s.isWaiting_iff i).1 hw
    cases he.symm.trans he'
    exact ⟨e, he, (hr.pairPort h.tabled.cached he (by rw [hp]; rfl)).trans hport, hw, hrest⟩
  · rintro ⟨e, he, hport, hw, hrest⟩
    obtain ⟨e', a, he', hp⟩ := (s.isWaiting_iff i).1 hw
    cases he.symm.trans he'
    exact ⟨e, he, (hr.pairPort h.tabled.cached he (by rw [hp]; rfl)).symm.trans hport, hw, hrest⟩

/-- An idle entry removed. -/
theorem State.refilled_remove {s : State} {pl : Place} (h : ∀ e, s.entryAt pl = some e → e.count = 0) : s.Refilled (s.setEntryAt pl none) where
  ex := rfl
  traces := rfl
  config := rfl
  kept pl' e he hn := by
    rw [State.entryAt_setEntryAt, if_neg, he]
    rintro rfl
    exact hn (h e he)
  fresh pl' e he := by
    rw [State.entryAt_setEntryAt] at he
    split at he
    · cases he
    · exact .inl he

/-- Every idle entry removed (R41). -/
theorem State.refilled_flushIdle (s : State) : s.Refilled s.flushIdle where
  ex := rfl
  traces := rfl
  config := rfl
  kept pl e he hn := by rw [State.entryAt_flushIdle, he]; simp [Entry.isIdle, hn]
  fresh pl e he := by
    rw [State.entryAt_flushIdle] at he
    split at he
    · cases he
    · exact .inl he

/-- An idle entry set where there was none of its pair elsewhere and none pinned in its place. -/
theorem State.refilled_set {s : State} {pl : Place} {e : Entry} (hzero : e.count = 0) (hset : pl.set = setIndex e.session e.target)
    (hidle : ∀ c, s.entryAt pl = some c → c.count = 0)
    (hnone : ∀ pl' c, pl' ≠ pl → s.entryAt pl' = some c → ¬ (c.session = e.session ∧ c.target = e.target))
    : s.Refilled (s.setEntryAt pl (some e)) where
  ex := rfl
  traces := rfl
  config := rfl
  kept pl' c hc hn := by
    rw [State.entryAt_setEntryAt, if_neg, hc]
    rintro rfl
    exact hn (hidle c hc)
  fresh pl' c hc := by
    rw [State.entryAt_setEntryAt] at hc
    split at hc
    next heq =>
      cases hc
      subst heq
      refine .inr ⟨hzero, hset, fun pl' x hx ha hy => ?_, fun pl' x hx ha hy => ?_⟩
      · rw [State.entryAt_setEntryAt] at hx
        split at hx
        next heq => exact heq.symm
        next hne => exact absurd ⟨ha, hy⟩ (hnone pl' x (Ne.symm hne) hx)
      · by_cases hpl : pl' = pl
        · exact hidle x (hpl ▸ hx)
        · exact absurd ⟨ha, hy⟩ (hnone pl' x hpl hx)
    · exact .inl hc

/-- The place of an idle pair's entry changed. -/
theorem State.PairsPlaced.refilled_placePair {s : State} (h : s.PairsPlaced) {a : Word32} {y : Nat} (p : Option PortId)
    (hidle : ∀ pl c, s.entryAt pl = some c → c.session = a → c.target = y → c.count = 0) : s.Refilled (s.placePair a y p) := by
  rw [State.placePair, State.modEntryOf]
  split
  next pl hf =>
    obtain ⟨c, hc, rfl, rfl⟩ := State.entryAt_of_findPlace hf
    rw [hc]
    refine State.refilled_set (hidle pl c hc rfl rfl) (h.placed pl c hc) (fun x hx => ?_) fun pl' x hne hx ⟨ha, hy⟩ => ?_
    · cases hc.symm.trans hx
      exact hidle pl c hc rfl rfl
    · exact hne (h.unique pl' pl x c hx hc ha hy)
  · exact ⟨rfl, rfl, rfl, fun _ _ he _ => he, fun _ _ he => .inl he⟩

theorem State.Tabled.useWay {s : State} (h : s.Tabled) (pl : Place) : (s.useWay pl).Tabled := by
  refine h.neutral rfl rfl ?_ rfl
  funext pl'
  rw [coresOf_eq, coresOf_eq, State.entryAt_useWay]

/-- A way that a miss may take holds no pinned entry. -/
theorem CacheSet.chooseWay_idle {x : CacheSet} {w : Fin 4} (h : x.chooseWay = some w) {e : Entry} (he : x.ways[w] = some e) :
    e.count = 0 := by
  have hidle : x.idleAt w = true → e.count = 0 := fun hi => by
    obtain ⟨e', he', hn⟩ := (x.idleAt_iff w).1 hi
    cases he.symm.trans he'
    exact hn
  unfold CacheSet.chooseWay at h
  split at h
  next v hv =>
    cases h
    have := (find_allWays_eq_some hv).1
    rw [he] at this
    cases this
  · split at h
    next hvictim =>
      cases h
      exact hidle hvictim
    · exact hidle (List.find?_some h)

/-- The pair's entry for an admission (R29 to R32). -/
theorem State.Tabled.takeEntry {s u : State} (h : s.Tabled) {a : Word32} {y : Nat} (hu : s.takeEntry a y = some u) :
    u.Tabled ∧ u.ex = s.ex ∧ ∃ pl c, u.entryAt pl = some c ∧ c.session = a ∧ c.target = y := by
  unfold State.takeEntry at hu
  split at hu
  next pl hf =>
    cases hu
    obtain ⟨c, hc, rfl, rfl⟩ := State.entryAt_of_findPlace hf
    split
    next hdue =>
      rw [hc] at hdue
      have hzero : c.count = 0 := by
        simp only [Option.any_some, State.freshDue, Bool.and_eq_true, Entry.isIdle, beq_iff_eq] at hdue
        exact hdue.1
      have hr := h.cached.toPairsPlaced.refilled_placePair (a := c.session) (y := c.target) (s.selectFor c.session c.target)
        fun pl' x hx ha hy => by
          cases h.cached.unique pl' pl x c hx hc ha hy
          cases hc.symm.trans hx
          exact hzero
      refine ⟨(h.refilled hr).useWay pl, hr.ex, pl, { c with port := s.selectFor c.session c.target, quiesceMark := false, verdictMark := none }, ?_, rfl, rfl⟩
      rw [State.entryAt_useWay, State.placeBySelection, State.entryAt_placePair, if_pos hf, hc]
      rfl
    · exact ⟨h.useWay pl, rfl, pl, c, by rw [State.entryAt_useWay, hc], rfl, rfl⟩
  next hf =>
    obtain ⟨w, hw, rfl⟩ := Option.map_eq_some_iff.1 hu
    have hset : s.Refilled (s.setEntryAt ⟨setIndex a y, w⟩ (some (Entry.fresh a y none))) := by
      refine State.refilled_set rfl rfl (fun c hc => CacheSet.chooseWay_idle hw hc) fun pl' c _ hc hpair => ?_
      exact State.not_holds_of_findPlace_none hf (by rw [h.cached.placed pl' c hc, hpair.1, hpair.2]; rfl) hc hpair
    have h1 := h.refilled hset
    dsimp only
    have hentry : (s.setEntryAt ⟨setIndex a y, w⟩ (some (Entry.fresh a y none))).entryAt ⟨setIndex a y, w⟩ = some (Entry.fresh a y none) := by
      rw [State.entryAt_setEntryAt, if_pos rfl]
    generalize s.setEntryAt ⟨setIndex a y, w⟩ (some (Entry.fresh a y none)) = v at *
    have hr := h1.cached.toPairsPlaced.refilled_placePair (a := a) (y := y) (v.selectFor a y) fun pl' x hx ha hy => by
      cases h1.cached.unique pl' _ x _ hx hentry ha hy
      cases hentry.symm.trans hx
      rfl
    have hplace : v.findPlace a y = some ⟨setIndex a y, w⟩ := (h1.cached.toPairsPlaced.findPlace_iff a y _).2 ⟨_, hentry, rfl, rfl⟩
    refine ⟨(h1.refilled hr).useWay _, hr.ex.trans hset.ex, ⟨setIndex a y, w⟩, Entry.fresh a y (v.selectFor a y), ?_, rfl, rfl⟩
    rw [State.entryAt_useWay, State.placeBySelection, State.entryAt_placePair, if_pos hplace, hentry]
    rfl

/-! ### Slots taken and freed -/

/-- Slot i, which holds no open exchange before or after, changes its record. -/
structure State.Reslotted (s t : State) (i : Slot) (r : SlotRecord) : Prop where
  record : t.record i = r
  others : ∀ j, j ≠ i → t.record j = s.record j
  order : t.ex.order = s.ex.order
  outstanding : ∀ q, t.outstanding q = s.outstanding q
  ready : ∀ q, t.ready q = s.ready q
  traces : tracesOf t.ports = tracesOf s.ports
  states : statesOf t.ports = statesOf s.ports
  cores : coresOf t.cache = coresOf s.cache
  config : t.config = s.config

/-- A slot that holds no open exchange can be freed or take an ANSWERED one: nothing but the free list and the result queue changes. -/
theorem State.TableTrue.reslotted {s t : State} {i : Slot} {r : SlotRecord} (h : s.TableTrue) (hl : s.Reslotted t i r)
    (hwas : ∀ x, s.live i = some x → x.phase.isOpen = false)
    (hnow : ∀ x, r.live = some x → x.phase.isOpen = false ∧ x.Sound (traceLimit s.config))
    (hfree : (∀ j, j ∈ t.ex.free ↔ t.live j = none) ∧ t.ex.free.Nodup)
    (hresults : (∀ j, j ∈ t.ex.results ↔ t.slotAnswered j = true) ∧ t.ex.results.Nodup) : t.TableTrue := by
  have hself : t.live i = r.live := by rw [State.live, hl.record]
  have hother : ∀ {j}, j ≠ i → t.live j = s.live j := fun hj => by rw [State.live, State.live, hl.others _ hj]
  have hclosed : ∀ {x}, t.live i = some x → x.phase.isOpen = false := fun hx => (hnow _ (hself ▸ hx)).1
  have hopen : ∀ j x, x.phase.isOpen = true → (t.live j = some x ↔ s.live j = some x) := by
    intro j x hx
    by_cases hj : j = i
    · subst hj
      exact iff_of_false (fun hc => by rw [hclosed hc] at hx; cases hx) (fun hc => by rw [hwas x hc] at hx; cases hx)
    · rw [hother hj]
  have hlisted : t.Listed := by
    have hs := h.1.listed
    refine ⟨hfree.1, fun j => ?_, hresults.1, fun j q => ?_, fun j q => ?_, hfree.2, ?_, hresults.2, fun q => ?_, fun q => ?_, fun q => ?_⟩
    · rw [hl.order, hs.order, State.slotOpen_iff, State.slotOpen_iff]
      exact exists_congr fun x => and_congr_left fun hx => (hopen j x hx).symm
    · rw [hl.outstanding, hs.outstanding, State.slotPort_iff, State.slotPort_iff]
      refine exists_congr fun x => and_congr_left fun hx => (hopen j x ?_).symm
      cases ho : x.phase.isOpen with
      | true => rfl
      | false => rw [Phase.port_of_not_isOpen ho] at hx; cases hx
    · rw [hl.traces, State.tracingOn_iff]
      intro hm
      obtain ⟨x, d, at_, hx, hp⟩ := (s.tracingOn_iff j q).1 (hs.traces j q hm)
      exact ⟨x, d, at_, (hopen j x (by rw [hp]; rfl)).2 hx, hp⟩
    · rw [hl.order]; exact hs.orderOnce
    · rw [hl.outstanding]; exact hs.outstandingOnce q
    · rw [hl.ready]; exact hs.readyOnce q
    · rw [hl.traces]; exact hs.tracesOnce q
  have hkey : ∀ j a y, t.keyOf j = some (a, y, true) ↔ s.keyOf j = some (a, y, true) := by
    intro j a y
    rw [State.keyOf_eq_some_iff, State.keyOf_eq_some_iff]
    exact exists_congr fun x => ⟨fun ⟨hx, ha, hy, ho⟩ => ⟨(hopen j x ho).1 hx, ha, hy, ho⟩,
      fun ⟨hx, ha, hy, ho⟩ => ⟨(hopen j x ho).2 hx, ha, hy, ho⟩⟩
  have hcached : t.CacheCounted := by
    have hs := h.tabled.cached
    have hu : ({ s with cache := t.cache } : State).CacheCounted := hs.congr (fun pl => shape_of_coresOf hl.cores pl) fun _ => rfl
    refine ⟨⟨hu.placed, hu.unique⟩, fun pl e he => ?_, fun j a y hj => hu.covered j a y ((hkey j a y).1 hj)⟩
    rw [hu.counted pl e he]
    exact congrArg List.length (State.openOf_congr (s := s) (t := t) _ _ fun j => hkey j _ _).symm
  have hwaiting : t.WaitingPlaced := fun j x hx a ha => by
    rw [State.pairPort_congr hl.cores]
    exact h.tabled.waiting j x ((hopen j x (by rw [ha]; rfl)).1 hx) a ha
  have hsound : t.ExchangesSound := fun j x hx => by
    rw [hl.config]
    by_cases hj : j = i
    · subst hj
      exact (hnow x (hself ▸ hx)).2
    · exact h.2.2 j x (hother hj ▸ hx)
  have ht : t.Tabled := ⟨hlisted, hcached, hwaiting, hsound⟩
  refine ⟨.of_listed hlisted fun j q => ?_, ht.cacheAgrees, hsound⟩
  have hi : i ∉ s.ex.order := fun hm => by
    obtain ⟨x, hx, ho⟩ := (s.slotOpen_iff i).1 ((h.1.order i).1 hm)
    rw [hwas x hx] at ho
    cases ho
  have hpair : t.pairOrder = s.pairOrder := by
    funext a y
    rw [State.pairOrder, State.pairOrder, hl.order]
    exact List.filter_congr fun j hj => by rw [hother (fun hc => hi (hc ▸ hj))]
  have hphase : ∀ {a y} {j : Slot}, j ∈ s.pairOrder a y → t.phase j = s.phase j := fun hj => by
    rw [State.phase, State.phase, hother (fun hc => hi (hc ▸ (List.mem_filter.1 hj).1))]
  have hsent : ∀ a y, (s.pairOrder a y).find? (fun j => !t.isSent j) = (s.pairOrder a y).find? (fun j => !s.isSent j) :=
    fun a y => List.find?_congr fun j hj => by rw [State.isSent, State.isSent, hphase hj]
  have hflight : ∀ a y, (s.pairOrder a y).filter t.inFlight = (s.pairOrder a y).filter s.inFlight :=
    fun a y => List.filter_congr fun j hj => by rw [State.inFlight, State.inFlight, hphase hj]
  have hstate : (t.port q).state = (s.port q).state := congrFun hl.states q
  rw [hl.ready, h.1.ready j q, State.sendable_iff, State.sendable_iff]
  refine exists_congr fun x => ?_
  have hport := State.pairPort_congr hl.cores x.session x.target
  have hwait : (t.live j = some x ∧ t.isWaiting j = true) ↔ (s.live j = some x ∧ s.isWaiting j = true) := by
    rw [State.isWaiting_iff, State.isWaiting_iff]
    constructor
    · rintro ⟨hx, e, a, he, ha⟩
      cases hx.symm.trans he
      have := (hopen j x (by rw [ha]; rfl)).1 hx
      exact ⟨this, x, a, this, ha⟩
    · rintro ⟨hx, e, a, he, ha⟩
      cases hx.symm.trans he
      have := (hopen j x (by rw [ha]; rfl)).2 hx
      exact ⟨this, x, a, this, ha⟩
  rw [hport, hpair, hstate, hl.config, hsent, hflight]
  constructor
  · rintro ⟨h1, h2, h3, h4⟩
    exact ⟨(hwait.2 ⟨h1, h3⟩).1, h2, (hwait.2 ⟨h1, h3⟩).2, h4⟩
  · rintro ⟨h1, h2, h3, h4⟩
    exact ⟨(hwait.1 ⟨h1, h3⟩).1, h2, (hwait.1 ⟨h1, h3⟩).2, h4⟩

end Sys2Proof.Machine

namespace Sys2Proof.Machine
open Sys2Proof

/-! ### Admission, results and removals -/

theorem State.entryAt_raiseCount (s : State) (a : Word32) (y : Nat) (pl : Place) : (s.raiseCount a y).entryAt pl =
    if s.findPlace a y = some pl then (s.entryAt pl).map (fun e => { e with count := e.count + 1 }) else s.entryAt pl :=
  s.entryAt_modEntryOf _ _ _ _

/-- One open exchange more of a pair with an entry, and its count one higher (R33). -/
theorem State.CacheCounted.join {s t : State} (h : s.CacheCounted) {i : Slot} {a : Word32} {y : Nat}
    (hkey : t.keyOf i = some (a, y, true)) (hclosed : ∀ b z, s.keyOf i ≠ some (b, z, true))
    (hothers : ∀ j, j ≠ i → t.keyOf j = s.keyOf j) (hentry : ∃ pl c, s.entryAt pl = some c ∧ c.session = a ∧ c.target = y)
    (hraised : ∀ pl, t.entryAt pl = (s.raiseCount a y).entryAt pl) : t.CacheCounted := by
  have hpair : ∀ {pl e}, t.entryAt pl = some e → ∃ c, s.entryAt pl = some c ∧ c.session = e.session ∧ c.target = e.target ∧
      e.count = if s.findPlace a y = some pl then c.count + 1 else c.count := by
    intro pl e he
    rw [hraised, State.entryAt_raiseCount] at he
    split at he
    next hf =>
      obtain ⟨c, hc, rfl⟩ := Option.map_eq_some_iff.1 he
      exact ⟨c, hc, rfl, rfl, by rw [if_pos hf]⟩
    next hf => exact ⟨e, he, rfl, rfl, by rw [if_neg hf]⟩
  have hsame : ∀ {pl c}, s.entryAt pl = some c → ∃ e, t.entryAt pl = some e ∧ e.session = c.session ∧ e.target = c.target := by
    intro pl c hc
    rw [hraised, State.entryAt_raiseCount, hc]
    split <;> exact ⟨_, rfl, rfl, rfl⟩
  refine ⟨⟨fun pl e he => ?_, fun pl pl' e e' he he' ha hy => ?_⟩, fun pl e he => ?_, fun j b z hj => ?_⟩
  · obtain ⟨c, hc, ha, hy, -⟩ := hpair he
    rw [h.placed pl c hc, ha, hy]
  · obtain ⟨c, hc, hca, hcy, -⟩ := hpair he
    obtain ⟨c', hc', hca', hcy', -⟩ := hpair he'
    exact h.unique pl pl' c c' hc hc' (by rw [hca, hca', ha]) (by rw [hcy, hcy', hy])
  · obtain ⟨c, hc, hca, hcy, hn⟩ := hpair he
    rw [hn, h.counted pl c hc, hca, hcy, State.openOf_eq_erase hclosed (fun j hj => (hothers j hj).symm) e.session e.target]
    by_cases hf : s.findPlace a y = some pl
    · obtain ⟨c', hc', rfl, rfl⟩ := (h.findPlace_iff a y pl).1 hf
      cases hc.symm.trans hc'
      have hmem : i ∈ t.openOf e.session e.target := (t.mem_openOf _ _ i).2 (by rw [← hca, ← hcy]; exact hkey)
      rw [if_pos hf, List.length_erase_of_mem hmem]
      have := List.length_pos_of_mem hmem
      omega
    · rw [if_neg hf, List.erase_of_not_mem]
      intro hmem
      cases ((t.mem_openOf _ _ i).1 hmem).symm.trans hkey
      exact hf ((h.findPlace_iff _ _ pl).2 ⟨c, hc, hca, hcy⟩)
  · by_cases hji : j = i
    · subst hji
      cases hj.symm.trans hkey
      obtain ⟨pl, c, hc, rfl, rfl⟩ := hentry
      obtain ⟨e, he, hea, hey⟩ := hsame hc
      exact ⟨pl, e, he, hea, hey⟩
    · obtain ⟨pl, c, hc, rfl, rfl⟩ := h.covered j b z (hothers j hji ▸ hj)
      obtain ⟨e, he, hea, hey⟩ := hsame hc
      exact ⟨pl, e, he, hea, hey⟩

/-- The record that an admission fills is sound (R2, R12). -/
theorem Booking.exchange_sound (limit : Nat) {b : Booking} (h1 : 1 ≤ b.payload.length) (h2 : b.payload.length ≤ 512) :
    (b.exchange (.waiting .firstSend)).Sound limit where
  attempt := Nat.zero_le _
  everSent := rfl
  payload := h2
  request _ := h1
  traces _ := Nat.zero_le _
  sent _ _ _ h := nomatch h
  tracing _ _ _ h := nomatch h
  firstSend _ _ := rfl
  resend _ h := by rcases h with h | h <;> cases h
  heldTrace _ h := nomatch h
  waitingTrace h := nomatch h

theorem Booking.refused_sound (limit : Nat) (b : Booking) (status : ResultStatus) :
    ({ b.exchange (.waiting .firstSend) with phase := .answered status, payload := [] } : Exchange).Sound limit where
  attempt := Nat.zero_le _
  everSent := rfl
  payload := Nat.zero_le _
  request h := nomatch h
  traces h := nomatch h
  sent _ _ _ h := nomatch h
  tracing _ _ _ h := nomatch h
  firstSend _ _ := rfl
  resend _ h := by rcases h with h | h <;> cases h
  heldTrace _ h := nomatch h
  waitingTrace h := nomatch h

/-- The admitted exchange in its lists, before its pair's port is looked at (R14). -/
def State.joined (s : State) (i : Slot) (rest : List Slot) (b : Booking) : State :=
  let s1 := (s.fillSlot i rest (b.exchange (.waiting .firstSend))).raiseCount b.session b.target.toNat
  s1.setOrder (s1.ex.order ++ [i])

theorem State.enter_eq (s : State) (i : Slot) (rest : List Slot) (b : Booking) : s.enter i rest b =
    match (s.joined i rest b).pairPort b.session b.target.toNat with
    | some _ => s.joined i rest b
    | none => (s.joined i rest b).hold i .firstSend := rfl

theorem State.joined_ex (s : State) (i : Slot) (rest : List Slot) (b : Booking) : (s.joined i rest b).ex =
    { (s.setRec i { s.record i with live := some (b.exchange (.waiting .firstSend)) }).ex with
      free := rest, order := s.ex.order ++ [i] } := by
  simp only [State.joined, State.setOrder, State.raiseCount_frame]
  rfl

theorem State.record_joined (s : State) (i j : Slot) (rest : List Slot) (b : Booking) : (s.joined i rest b).record j =
    if i = j then ⟨(s.record i).generation, some (b.exchange (.waiting .firstSend))⟩ else s.record j := by
  have h : (s.joined i rest b).record = (s.fillSlot i rest (b.exchange (.waiting .firstSend))).record :=
    State.record_congr (by rw [State.joined_ex]; rfl)
  rw [h, State.record_fillSlot]

theorem State.entryAt_joined (s : State) (i : Slot) (rest : List Slot) (b : Booking) (pl : Place) :
    (s.joined i rest b).entryAt pl = (s.raiseCount b.session b.target.toNat).entryAt pl := by
  rw [State.entryAt_raiseCount]
  exact State.entryAt_raiseCount (s.fillSlot i rest (b.exchange (.waiting .firstSend))) _ _ pl

section
variable {s : State} {i : Slot} {rest : List Slot} {b : Booking}

theorem State.live_joined_self : (s.joined i rest b).live i = some (b.exchange (.waiting .firstSend)) := by
  rw [State.live, State.record_joined, if_pos rfl]

theorem State.live_joined_other {j : Slot} (hj : j ≠ i) : (s.joined i rest b).live j = s.live j := by
  rw [State.live, State.record_joined, if_neg (Ne.symm hj)]
  rfl

theorem State.Listed.joined (h : s.Listed) (hfree : s.ex.free = i :: rest) : (s.joined i rest b).Listed := by
  have hex := s.joined_ex i rest b
  have hother : ∀ {j : Slot}, j ≠ i → (s.joined i rest b).live j = s.live j := State.live_joined_other
  have hself : (s.joined i rest b).live i = _ := State.live_joined_self
  have hports : (s.joined i rest b).ports = s.ports := by simp [State.joined]
  have hnone : s.live i = none := (h.free i).1 (by rw [hfree]; simp)
  have hrest : i ∉ rest := (List.nodup_cons.1 (hfree ▸ h.freeOnce)).1
  have horder : i ∉ s.ex.order := fun hm => by
    obtain ⟨x, hx, -⟩ := (s.slotOpen_iff i).1 ((h.order i).1 hm)
    cases hnone.symm.trans hx
  refine ⟨fun j => ?_, fun j => ?_, fun j => ?_, fun j q => ?_, fun j q => ?_, ?_, ?_, ?_, fun q => ?_, fun q => ?_, fun q => ?_⟩
  · rw [hex]
    by_cases hj : j = i
    · subst hj; simp [hself, hrest]
    · rw [hother hj, ← h.free j, hfree]; simp [hj]
  · rw [hex, List.mem_append, h.order, State.slotOpen_iff, State.slotOpen_iff]
    by_cases hj : j = i
    · subst hj; simp [hself, Booking.exchange, Phase.isOpen]
    · rw [hother hj]; simp [hj]
  · rw [show (s.joined i rest b).ex.results = s.ex.results by rw [hex]; rfl, h.results, State.slotAnswered_iff, State.slotAnswered_iff]
    by_cases hj : j = i
    · subst hj; simp [hself, hnone, Booking.exchange, Phase.isOpen]
    · rw [hother hj]
  · rw [show (s.joined i rest b).outstanding q = s.outstanding q by rw [State.outstanding, hex]; rfl, h.outstanding,
      State.slotPort_iff, State.slotPort_iff]
    by_cases hj : j = i
    · subst hj; simp [hself, hnone, Booking.exchange, Phase.port]
    · rw [hother hj]
  · rw [hports, State.tracingOn_iff]
    intro hm
    obtain ⟨x, d, at_, hx, hp⟩ := (s.tracingOn_iff j q).1 (h.traces j q hm)
    refine ⟨x, d, at_, ?_, hp⟩
    rw [hother, hx]
    rintro rfl
    cases hnone.symm.trans hx
  · rw [hex]; exact (List.nodup_cons.1 (hfree ▸ h.freeOnce)).2
  · rw [hex]; exact List.Nodup.append h.orderOnce (by simp) (by simp [horder])
  · rw [hex]; exact h.resultsOnce
  · rw [State.outstanding, hex]; exact h.outstandingOnce q
  · rw [State.ready, hex]; exact h.readyOnce q
  · rw [hports]; exact h.tracesOnce q

/-- An admitted exchange whose pair has its entry: the table is true but for its pair's port (R14). -/
theorem State.Tabled.joined (h : s.Tabled) (hfree : s.ex.free = i :: rest) (h1 : 1 ≤ b.payload.length) (h2 : b.payload.length ≤ 512)
    (hentry : ∃ pl c, s.entryAt pl = some c ∧ c.session = b.session ∧ c.target = b.target.toNat) :
    (s.joined i rest b).TabledBut (fun j e => OfPair b.session b.target.toNat j e ∧ j ∈ [i]) := by
  have hother : ∀ {j : Slot}, j ≠ i → (s.joined i rest b).live j = s.live j := State.live_joined_other
  have hself : (s.joined i rest b).live i = some (b.exchange (.waiting .firstSend)) := State.live_joined_self
  have hnone : s.live i = none := (h.listed.free i).1 (by rw [hfree]; simp)
  have hcached : (s.joined i rest b).CacheCounted :=
    h.cached.join (i := i) ((State.keyOf_eq_some_iff _ i _ _ _).2 ⟨_, hself, rfl, rfl, rfl⟩)
      (State.keyOf_ne_open_of fun e he => nomatch hnone.symm.trans he)
      (fun j hj => by rw [State.keyOf, State.keyOf, hother hj]) hentry (s.entryAt_joined i rest b)
  refine ⟨h.listed.joined hfree, hcached, fun j e he a ha hno => ?_, fun j e he => ?_⟩
  · by_cases hj : j = i
    · subst hj
      cases hself.symm.trans he
      exact absurd ⟨⟨rfl, rfl⟩, by simp⟩ hno
    · have hs := h.waiting j e (hother hj ▸ he) a ha
      obtain ⟨p, hp⟩ := Option.isSome_iff_exists.1 hs
      obtain ⟨pl, c, hc, hca, hcy, hcp⟩ := (h.cached.toPairsPlaced.pairPort_iff _ _ _).1 hp
      refine Option.isSome_iff_exists.2 ⟨p, (hcached.toPairsPlaced.pairPort_iff _ _ _).2 ?_⟩
      have hjoined := s.entryAt_joined i rest b pl
      rw [State.entryAt_raiseCount, hc] at hjoined
      split at hjoined
      · exact ⟨pl, _, hjoined, hca, hcy, hcp⟩
      · exact ⟨pl, _, hjoined, hca, hcy, hcp⟩
  · have hconfig : (s.joined i rest b).config = s.config := by simp [State.joined]
    rw [hconfig]
    by_cases hj : j = i
    · subst hj
      cases hself.symm.trans he
      exact Booking.exchange_sound _ h1 h2
    · exact h.exchanges j e (hother hj ▸ he)

theorem State.Tabled.enter (h : s.Tabled) (hfree : s.ex.free = i :: rest) (h1 : 1 ≤ b.payload.length) (h2 : b.payload.length ≤ 512)
    (hentry : ∃ pl c, s.entryAt pl = some c ∧ c.session = b.session ∧ c.target = b.target.toNat) : (s.enter i rest b).Tabled := by
  have hb := h.joined hfree h1 h2 hentry
  rw [State.enter_eq]
  split
  next p hp =>
    refine ⟨hb.listed, hb.cached, fun j e he a ha => ?_, hb.exchanges⟩
    by_cases hpair : OfPair b.session b.target.toNat j e
    · rw [hpair.1, hpair.2, hp]; rfl
    · exact hb.waiting j e he a ha fun hc => hpair hc.1
  · have hphase : (s.joined i rest b).phase i = some (.waiting .firstSend) := State.phase_of_live State.live_joined_self
    have ht := State.TabledBut.foldl_holdOne (a := b.session) (y := b.target.toNat) [i] hb
    simpa only [List.foldl_cons, List.foldl_nil, State.holdOne, hphase] using ht

end

theorem State.refusal_eq_none {s : State} {b : Booking} (h : s.refusal b = none) : 1 ≤ b.payload.length ∧ b.payload.length ≤ 512 := by
  unfold State.refusal at h
  split at h
  · cases h
  · split at h
    · cases h
    next hlen =>
      have : Config.payloadLimit = 512 := rfl
      omega

/-- A refusal takes the head of the free list to the result queue (R13). -/
theorem State.TableTrue.refuse {s : State} (h : s.TableTrue) {i : Slot} {rest : List Slot} (hfree : s.ex.free = i :: rest)
    (b : Booking) (status : ResultStatus) : (s.refuse i rest b status).TableTrue := by
  obtain ⟨hf, hres, hord, hout, hready⟩ := s.refuse_ex i rest b status
  have hl := h.1.listed
  have hnone : s.live i = none := (hl.free i).1 (by rw [hfree]; simp)
  have hself := (s.record_refuse i i rest b status).trans (if_pos rfl)
  have hother : ∀ j, j ≠ i → (s.refuse i rest b status).record j = s.record j :=
    fun j hj => (s.record_refuse i j rest b status).trans (if_neg (Ne.symm hj))
  have honce := List.nodup_cons.1 (hfree ▸ hl.freeOnce)
  have hlive : ∀ {j}, j ≠ i → (s.refuse i rest b status).live j = s.live j := fun hj => by rw [State.live, State.live, hother _ hj]
  refine h.reslotted ⟨hself, hother, hord, fun q => by rw [State.outstanding, hout]; rfl, fun q => by rw [State.ready, hready]; rfl,
    by simp, by simp, by simp, by simp⟩ (fun x hx => nomatch hnone.symm.trans hx) ?_ ⟨fun j => ?_, ?_⟩ ⟨fun j => ?_, ?_⟩
  · rintro x ⟨⟩
    exact ⟨rfl, Booking.refused_sound _ b status⟩
  · rw [hf]
    by_cases hj : j = i
    · subst hj
      simp [honce.1, State.live, hself]
    · rw [hlive hj, ← hl.free j, hfree]; simp [hj]
  · rw [hf]; exact honce.2
  · rw [hres, List.mem_append, hl.results, State.slotAnswered_iff, State.slotAnswered_iff]
    by_cases hj : j = i
    · subst hj
      simp [State.live, hself, Phase.isOpen]
    · rw [hlive hj]; simp [hj]
  · rw [hres]
    refine List.Nodup.append hl.resultsOnce (by simp) ?_
    simp only [List.disjoint_singleton]
    intro hm
    obtain ⟨x, hx, -⟩ := (s.slotAnswered_iff i).1 ((hl.results i).1 hm)
    cases hnone.symm.trans hx

/-- A result sent frees its slot (R10). -/
theorem State.TableTrue.freeSlot {s : State} (h : s.TableTrue) {i : Slot} {rest : List Slot} (hres : s.ex.results = i :: rest)
    (l : HostLink) : (((s.setLink l).setResults rest).freeSlot i).TableTrue := by
  have hrec : ∀ j, (((s.setLink l).setResults rest).freeSlot i).record j =
      if i = j then ⟨(s.record i).generation + 1, none⟩ else s.record j := fun j => State.record_freeSlot _ i j
  have hex : (((s.setLink l).setResults rest).freeSlot i).ex = _ := State.freeSlot_ex _ i
  have hl := h.1.listed
  have honce := List.nodup_cons.1 (hres ▸ hl.resultsOnce)
  obtain ⟨x, hx, hclosed⟩ := (s.slotAnswered_iff i).1 ((hl.results i).1 (by rw [hres]; simp))
  have hself := (hrec i).trans (if_pos rfl)
  have hother : ∀ j, j ≠ i → (((s.setLink l).setResults rest).freeSlot i).record j = s.record j :=
    fun j hj => (hrec j).trans (if_neg (Ne.symm hj))
  have hlive : ∀ {j}, j ≠ i → (((s.setLink l).setResults rest).freeSlot i).live j = s.live j :=
    fun hj => by rw [State.live, State.live, hother _ hj]
  have hfree : (((s.setLink l).setResults rest).freeSlot i).ex.free = s.ex.free ++ [i] := by rw [hex]; rfl
  have hresults : (((s.setLink l).setResults rest).freeSlot i).ex.results = rest := by rw [hex]; rfl
  refine h.reslotted ⟨hself, hother, by rw [hex]; rfl, fun q => by rw [State.outstanding, hex]; rfl,
    fun q => by rw [State.ready, hex]; rfl, by simp, by simp, by simp, by simp⟩
    (fun y hy => by cases hx.symm.trans hy; exact hclosed) (fun y hy => nomatch hy) ⟨fun j => ?_, ?_⟩ ⟨fun j => ?_, ?_⟩
  · rw [hfree, List.mem_append, hl.free]
    by_cases hj : j = i
    · subst hj; simp [State.live, hself]
    · rw [hlive hj]; simp [hj]
  · rw [hfree]
    refine List.Nodup.append hl.freeOnce (by simp) ?_
    simp only [List.disjoint_singleton]
    intro hm
    cases ((hl.free i).1 hm).symm.trans hx
  · rw [hresults, State.slotAnswered_iff]
    by_cases hj : j = i
    · subst hj; simp [State.live, hself, honce.1]
    · rw [hlive hj, ← State.slotAnswered_iff, ← hl.results, hres]; simp [hj]
  · rw [hresults]; exact honce.2

/-- An open exchange removed without a result (R24). -/
theorem State.Tabled.cancel {s : State} (h : s.Tabled) {i : Slot} {e : Exchange} (hlive : s.live i = some e)
    (hopen : e.phase.isOpen = true) : (((s.detach i).leavePair i e).freeSlot i).Tabled := by
  have hleft := (State.SameBut.refl s i).leavePair e
  have hlink : (((s.detach i).leavePair i e).ex.free = s.ex.free) ∧ ((s.detach i).leavePair i e).ex.results = s.ex.results := by
    rw [State.leavePair_ex]; exact ⟨rfl, rfl⟩
  obtain ⟨record, others, order, outstanding, ready, traces, cores, config, time⟩ := hleft
  generalize (s.detach i).leavePair i e = u at *
  have hex := u.freeSlot_ex i
  refine h.left (r := ⟨(u.record i).generation + 1, none⟩) ⟨?_, fun j hj => ?_, by rw [hex]; exact order,
    fun q => by rw [State.outstanding, hex]; exact outstanding q, fun q => by rw [State.ready, hex]; exact ready q,
    fun q => by rw [(u.freeSlot_frame i).2.2.2.2.1]; exact traces q, by simpa using cores, by simpa using config, by simpa using time⟩
    hlive hopen (fun x hx => nomatch hx) ?_ ?_
  · rw [State.record_freeSlot, if_pos rfl]
  · rw [State.record_freeSlot, if_neg (Ne.symm hj), others j hj]
  · rw [hex, hlink.1]; rfl
  · rw [hex, hlink.2]; simp

/-! ### A changed configuration, and a host reset -/

/-- With no exchange open, TRACE LIMIT may change. -/
theorem State.Tabled.reconfig {s t : State} (h : s.Tabled) (hnone : s.ex.order = []) (hex : t.ex = s.ex)
    (htraces : tracesOf t.ports = tracesOf s.ports) (hcores : coresOf t.cache = coresOf s.cache) : t.Tabled := by
  have hlive := State.live_congr hex
  have hkey : ∀ i, t.keyOf i = s.keyOf i := fun i => by rw [State.keyOf, State.keyOf, hlive]
  have hclosed : ∀ i e, s.live i = some e → e.phase.isOpen = false := by
    intro i e he
    by_contra ho
    have := (h.listed.order i).2 ((s.slotOpen_iff i).2 ⟨e, he, by simpa using ho⟩)
    rw [hnone] at this
    cases this
  refine ⟨h.listed.congr hex htraces, h.cached.congr (shape_of_coresOf hcores) hkey, fun i e he a ha => ?_, fun i e he => ?_⟩
  · have := hclosed i e (hlive ▸ he)
    rw [ha] at this
    cases this
  · have ho := hclosed i e (hlive ▸ he)
    obtain ⟨attempt, everSent, payload, request, traces, sent, tracing, firstSend, resend, heldTrace, waitingTrace⟩ := h.exchanges i e (hlive ▸ he)
    refine ⟨attempt, everSent, payload, request, fun hc => ?_, sent, tracing, firstSend, resend, fun d hd => ?_, waitingTrace⟩
    · cases ho.symm.trans hc
    · rw [hd] at ho; cases ho

theorem State.live_hostCleared (s : State) (i : Slot) : s.hostCleared.live i = none := by
  have h : s.hostCleared.ex = s.ex.hostReset := rfl
  simp only [State.live, State.record, h, Exchanges.hostReset, Fin.getElem_fin, Vector.getElem_map]
  split
  · rfl
  next hl => simpa using hl

theorem State.tabled_hostCleared (s : State) : s.hostCleared.Tabled := by
  have hlive := s.live_hostCleared
  have hentry : ∀ pl, s.hostCleared.entryAt pl = none := fun pl => by
    simp [State.entryAt, State.cacheSet, State.hostCleared, CacheSet.empty]
  have hnil : ∀ q, tracesOf s.hostCleared.ports q = [] := fun q => by
    have h : s.hostCleared.ports = s.ports.map Port.hostReset := rfl
    simp only [tracesOf, h, Fin.getElem_fin, Vector.getElem_map, Port.hostReset]
    split <;> rfl
  have hout : ∀ q, s.hostCleared.outstanding q = [] := fun q => by
    simp [State.outstanding, State.hostCleared, Exchanges.hostReset, Exchanges.empty]
  have hready : ∀ q, s.hostCleared.ready q = [] := fun q => by
    simp [State.ready, State.hostCleared, Exchanges.hostReset, Exchanges.empty]
  have hfree : s.hostCleared.ex.free = List.finRange 512 := by simp only [State.hostCleared, Exchanges.hostReset, Exchanges.empty]
  have hphase : ∀ i, s.hostCleared.phase i = none := fun i => by rw [State.phase, hlive]; rfl
  refine ⟨⟨fun i => ?_, fun i => ?_, fun i => ?_, fun i q => ?_, fun i q => ?_, ?_, ?_, ?_, fun q => ?_, fun q => ?_, fun q => ?_⟩,
    ⟨⟨fun pl e he => ?_, fun pl _ e _ he => ?_⟩, fun pl e he => ?_, fun i a y hk => ?_⟩, fun i e he => ?_, fun i e he => ?_⟩
  · rw [hfree]; exact iff_of_true (List.mem_finRange i) (hlive i)
  · rw [State.slotOpen, hphase]; exact iff_of_false (fun hm => nomatch hm) (fun hm => nomatch hm)
  · rw [State.slotAnswered, hphase]; exact iff_of_false (fun hm => nomatch hm) (fun hm => nomatch hm)
  · simp [State.slotPort, hphase, hout]
  · simp [hnil]
  · rw [hfree]; exact List.nodup_finRange _
  · exact List.nodup_nil
  · exact List.nodup_nil
  · rw [hout]; exact List.nodup_nil
  · rw [hready]; exact List.nodup_nil
  · rw [hnil]; exact List.nodup_nil
  · exact nomatch (hentry pl).symm.trans he
  · exact nomatch (hentry pl).symm.trans he
  · exact nomatch (hentry pl).symm.trans he
  · obtain ⟨e, he, -⟩ := (State.keyOf_eq_some_iff _ i a y true).1 hk
    exact nomatch (hlive i).symm.trans he
  · exact nomatch (hlive i).symm.trans he
  · exact nomatch (hlive i).symm.trans he

theorem State.Tabled.foldl_detect {s : State} (h : s.Tabled) (l : List PortId) : (l.foldl State.detect s).Tabled := by
  induction l generalizing s with
  | nil => exact h
  | cons p l ih => exact ih (h.detect p)

theorem State.tableTrue_hostReset (s : State) : s.hostReset.TableTrue := by
  have h : s.hostCleared.queueRestart.Tabled := s.tabled_hostCleared.neutral (by simp) (by simp) (by simp) (by simp)
  simp only [State.hostReset]
  split
  · exact (h.foldl_detect _).close
  · exact ((h.neutral (t := s.hostCleared.queueRestart.reportCables) (by simp) (by simp) (by simp) (by simp)).foldl_detect _).close

end Sys2Proof.Machine

namespace Sys2Proof.Machine
open Sys2Proof

/-! ### The walk, and the commands on exchanges -/

/-- A fold over slots that changes the record of none but WAITING and HELD exchanges leaves the others' as they were. -/
theorem foldl_record_of_port {f : State → Slot → State} (hother : ∀ u (i j : Slot), j ≠ i → (f u i).record j = u.record j)
    (hself : ∀ u i ph, u.phase i = some ph → ph.port.isSome = true → f u i = u) {i : Slot} {e : Exchange} (hport : e.phase.port.isSome = true)
    (l : List Slot) {s : State} (hlive : s.live i = some e) : (l.foldl f s).record i = s.record i := by
  induction l generalizing s with
  | nil => rfl
  | cons j l ih =>
    have hstep : (f s j).record i = s.record i := by
      by_cases hj : i = j
      · subst hj
        rw [hself s i e.phase (State.phase_of_live hlive) hport]
      · exact hother s j i hj
    rw [List.foldl_cons, ih (by rw [State.live, hstep]; exact hlive), hstep]

theorem State.returnOne_record_other (u : State) (q : PortId) {i j : Slot} (hj : j ≠ i) : (State.returnOne q u i).record j = u.record j := by
  unfold State.returnOne
  split
  · exact u.placeTrace_record_other hj q
  · rw [State.record_setPhase, if_neg (Ne.symm hj)]
  · rfl

theorem State.returnOne_of_port (q : PortId) {u : State} {i : Slot} {ph : Phase} (hp : u.phase i = some ph)
    (hport : ph.port.isSome = true) : State.returnOne q u i = u := by
  unfold State.returnOne
  rw [hp]
  cases ph <;> first | rfl | cases hport

theorem State.holdOne_record_other (u : State) {i j : Slot} (hj : j ≠ i) : (u.holdOne i).record j = u.record j := by
  unfold State.holdOne
  split
  · exact u.hold_record_other hj _
  · rfl

theorem State.holdOne_of_port {u : State} {i : Slot} {ph : Phase} (hp : u.phase i = some ph) (hport : ph.port.isSome = true) :
    u.holdOne i = u := by
  unfold State.holdOne
  rw [hp]
  cases ph <;> first | rfl | cases hport

/-- A re-placement leaves SENT and TRACING exchanges as they were. -/
theorem State.replacePair_record_of_port (s : State) (a : Word32) (y : Nat) {i : Slot} {e : Exchange} (hlive : s.live i = some e)
    (hport : e.phase.port.isSome = true) : (s.replacePair a y).record i = s.record i := by
  have hplace : ∀ q, (s.placePair a y q).record = s.record := fun q => State.record_congr (by simp)
  unfold State.replacePair
  split
  next q _ =>
    rw [State.returnHeld_eq, foldl_record_of_port (fun u i j hj => u.returnOne_record_other q hj)
      (fun u i ph hp hq => State.returnOne_of_port q hp hq) hport _ (by rw [State.live_placePair]; exact hlive), hplace]
  · rw [State.holdWaiting_eq, foldl_record_of_port (fun u i j hj => u.holdOne_record_other hj)
      (fun u i ph hp hq => State.holdOne_of_port hp hq) hport _ (by rw [State.live_placePair]; exact hlive), hplace]

theorem State.Tabled.unanswered {s : State} (h : s.Tabled) {i : Slot} {e : Exchange} {q : PortId} {d at_ : Time}
    (hlive : s.live i = some e) (hp : e.phase = .tracing q d at_) (p : PortId) : (s.unanswered p i).Tabled := by
  obtain ⟨hsent, hclass⟩ := (h.exchanges i e hlive).tracing q d at_ hp
  exact (h.lifted_detach hlive (by rw [hp]; rfl)).seekFate (some p) hsent hclass

theorem State.Tabled.walkOne {s : State} (h : s.Tabled) {i : Slot} {e : Exchange} (hlive : s.live i = some e) (p : PortId) :
    (s.walkOne p i e).Tabled := by
  unfold State.walkOne
  have h1 : (if s.pairPort e.session e.target = some p ∧ !s.eligible e.target p then s.replacePair e.session e.target else s).Tabled := by
    split
    · exact h.replacePair _ _
    · exact h
  have hlive1 : e.phase.port.isSome = true →
      (if s.pairPort e.session e.target = some p ∧ !s.eligible e.target p then s.replacePair e.session e.target else s).live i = some e := by
    intro hport
    split
    · rw [State.live, s.replacePair_record_of_port _ _ hlive hport]; exact hlive
    · exact hlive
  dsimp only
  generalize (if s.pairPort e.session e.target = some p ∧ !s.eligible e.target p then s.replacePair e.session e.target else s) = u at *
  split
  next hp =>
    have hl := hlive1 (by rw [hp]; rfl)
    exact (h1.lifted_detach hl (by rw [hp]; rfl)).moveSent p ((h1.exchanges i e hl).sent _ _ _ hp)
  next hp => exact h1.unanswered (hlive1 (by rw [hp]; rfl)) hp p
  · exact h1

theorem State.Tabled.handleEntry {s : State} (h : s.Tabled) (p : PortId) (r : EntryRef) : (s.handleEntry p r).Tabled := by
  unfold State.handleEntry
  split
  · exact h
  next e he =>
    split
    · exact h
    · split
      next hidle =>
        refine h.refilled (State.refilled_remove fun c hc => ?_)
        cases he.symm.trans hc
        simpa [Entry.isIdle] using hidle
      · exact h.replacePair _ _

theorem State.Tabled.handlePair {s : State} (h : s.Tabled) (r : EntryRef) : (s.handlePair r).Tabled := by
  unfold State.handlePair
  split
  · exact h
  · split
    · split
      · exact h.placeAndReturn _ _ _
      · exact h
    · exact h

theorem State.Tabled.handleHeld {s : State} (h : s.Tabled) (r : HeldRef) : (s.handleHeld r).Tabled := by
  unfold State.handleHeld
  split
  · exact h
  next e hlive =>
    have hsound := h.exchanges r.slot e hlive
    split
    next hport =>
      split
      next hp =>
        split
        · exact (h.lifted hlive (by rw [hp]; rfl) (by rw [hp]; rfl)).placeTrace _ (hsound.mayAwait_of_held hp)
        · exact h
      next hne hp =>
        exact (h.lifted hlive (by rw [hp]; rfl) (by rw [hp]; rfl)).toWaiting hne (hsound.mayAwait_of_held hp) hport.2
      · exact h
    · exact h

/-- What leaves the table, the pending traces and the entries but for their marks keeps the table true. -/
theorem State.Tabled.finishLoss {s : State} (h : s.Tabled) (scope : LossScope) : (s.finishLoss scope).Tabled :=
  h.neutral (by simp) (by simp) (by simp) (by simp)

theorem State.Tabled.takeFinding {s u : State} {i : Slot} {e : Exchange} (h : s.Lifted u i e) (hsent : e.everSent = true) (p : PortId)
    {payload : List Byte} (hlen : payload.length ≤ 512) (f : Finding) : (u.takeFinding p i e payload f).Tabled := by
  cases f with
  | done => exact h.decideResult _ hlen
  | working => exact h.becomeSent p hsent
  | notSeen =>
    refine (h.modLive (fun x => { x with traces := 0 }) h.opened rfl rfl ?_).dueResend (e := { e with traces := 0 }) hsent
    have hs := h.sound
    exact ⟨hs.attempt, hs.everSent, hs.payload, hs.request, fun _ => Nat.zero_le _, hs.sent, hs.tracing, hs.firstSend, hs.resend,
      fun d hd => ⟨(hs.heldTrace d hd).1, (hs.heldTrace d hd).2.1, Nat.lt_of_le_of_lt (Nat.zero_le _) (hs.heldTrace d hd).2.2⟩,
      hs.waitingTrace⟩

/-- The record of an exchange that the arbiter sends is sound (R15). -/
theorem Exchange.Sound.sentNow {limit : Nat} {e : Exchange} (h : e.Sound limit) (hopen : e.phase.isOpen = true) (p : PortId)
    (d at_ : Time) : ({ e.afterSend with phase := .sent p d at_ } : Exchange).Sound limit where
  attempt := Nat.min_le_right _ _
  everSent := (decide_eq_true (show 1 ≤ min (e.attempt + 1) 15 by omega)).symm
  payload := h.payload
  request _ := h.request hopen
  traces _ := h.traces hopen
  sent _ _ _ _ := rfl
  tracing _ _ _ h := nomatch h
  firstSend _ h := by rcases h with h | h <;> cases h
  resend _ h := by rcases h with h | h <;> cases h
  heldTrace _ h := nomatch h
  waitingTrace h := nomatch h

/-- An exchange of a ready list is WAITING. -/
theorem State.TableTrue.waiting_of_nextReady {s : State} (h : s.TableTrue) {p : PortId} {i : Slot} (hi : s.nextReady p = some i) :
    ∃ e a, s.live i = some e ∧ e.phase = .waiting a := by
  have hmem : i ∈ s.ready p := by
    unfold State.nextReady at hi
    split at hi
    next j hj =>
      cases hi
      exact List.mem_of_find?_eq_some hj
    · exact List.mem_of_mem_head? (Option.mem_def.2 hi)
  obtain ⟨-, -, -, hw, -⟩ := (s.sendable_iff i p).1 ((h.1.ready i p).1 hmem)
  exact (s.isWaiting_iff i).1 hw

theorem State.Tabled.send {s : State} (h : s.Tabled) {i : Slot} {e : Exchange} {a : Action} (hlive : s.live i = some e)
    (hp : e.phase = .waiting a) (p : PortId) : ((s.modLive i (fun _ => e.afterSend)).becomeSent i p).Tabled := by
  have hoff := (h.listed.off hlive (by rw [hp]; rfl)).modLive (fun _ => e.afterSend)
  have hl : (s.modLive i (fun _ => e.afterSend)).live i = some e.afterSend := by rw [State.live_modLive, if_pos rfl, hlive]; rfl
  have hopen : e.phase.isOpen = true := by rw [hp]; rfl
  exact h.rehomed ((s.sameBut_modLive i _).becomeSent hoff hl p) hlive hopen rfl rfl rfl
    ((h.exchanges i e hlive).sentNow hopen p _ _) (fun a ha => nomatch ha)

theorem State.Tabled.settleReady {s : State} (h : s.Tabled) : s.settleReady.Tabled :=
  ⟨h.listed.settleReady.listed, h.cached.congr (fun _ => rfl) fun _ => rfl, h.waiting, h.exchanges⟩

/-- A pending trace gone: nothing that ready lists rest on has changed (R113, R114). -/
theorem State.TableTrue.tailTraces {s t : State} (h : s.TableTrue) (hex : t.ex = s.ex)
    (htraces : ∀ q, (tracesOf t.ports q).Sublist (tracesOf s.ports q)) (hstates : statesOf t.ports = statesOf s.ports)
    (hcores : coresOf t.cache = coresOf s.cache) (hconfig : t.config = s.config) : t.TableTrue := by
  have ht := h.tabled.fewerTraces hex htraces hcores hconfig
  refine ⟨.of_listed ht.listed fun i p => ?_, ht.cacheAgrees, ht.exchanges⟩
  rw [State.sendable_congr hex hstates hcores hconfig, State.ready, hex]
  exact h.1.ready i p

theorem State.tracesOf_modPort_sublist (s : State) (p : PortId) (f : Port → Port)
    (h : (f (s.port p)).pendingTraces.Sublist (s.port p).pendingTraces) (q : PortId) :
    (tracesOf (s.modPort p f).ports q).Sublist (tracesOf s.ports q) := by
  rw [tracesOf_eq, tracesOf_eq, State.port_modPort]
  split
  next hpq => subst hpq; exact h
  · exact .refl _

theorem State.Tabled.resume {s : State} (h : s.Tabled) (p : PortId) : (s.resume p).Tabled :=
  h.neutral (by simp) (by simp) (by simp) (by simp)

theorem State.Tabled.switchOn {s : State} (h : s.Tabled) (p : PortId) : (s.switchOn p).Tabled :=
  h.neutral (by simp) (by simp) (by simp) (by simp)

/-! ### Control requests -/

section
variable {u : State} (h : u.TableTrue)
include h

theorem ownPin_tableTrue (a : PinArgs) : (ownPin a u).state.TableTrue := by
  unfold ownPin
  split
  · exact h
  next w hw =>
    split
    · exact h
    next p hp =>
      have hcached := h.tabled.cached
      have hidle : ∀ c, u.entryAt ⟨setIndex a.session a.target, w⟩ = some c → c.count = 0 := by
        intro c hc
        by_contra hn
        have hpin : (u.cacheSet (setIndex a.session a.target)).pinnedAt w = true := by
          refine (u.pinnedAt_iff _ w).2 ⟨c, hc, Nat.pos_of_ne_zero hn⟩
        unfold CacheSet.pinWay at hw
        dsimp only at hw
        split at hw
        · cases hw
        next hpresent =>
          split at hw
          next v _ =>
            split at hw
            · cases hw
            next hv => cases hw; exact hv hpin
          · split at hw
            next v hv => cases hw; rw [hv] at hpresent; exact hpresent hpin
            · exact hn (CacheSet.chooseWay_idle hw hc)
      have hpresent : ∀ pl c, u.entryAt pl = some c → c.session = a.session → c.target = a.target → c.count = 0 := by
        intro pl c hc ha hy
        by_contra hn
        have hf := (hcached.toPairsPlaced.findPlace_iff a.session a.target pl).2 ⟨c, hc, ha, hy⟩
        obtain ⟨hset, hway⟩ := (u.findPlace_eq_some_iff _ _ _).1 hf
        unfold CacheSet.pinWay at hw
        dsimp only at hw
        rw [hway, Option.any_some, if_pos] at hw
        · cases hw
        · exact (u.pinnedAt_iff _ _).2 ⟨c, hset ▸ hc, Nat.pos_of_ne_zero hn⟩
      have hframe := u.install_sameButCache a w p
      change (u.install a w p).TableTrue
      refine h.refilled ⟨by rw [hframe], by rw [hframe], by rw [hframe], fun pl c hc hn => ?_, fun pl c hc => ?_⟩ (by rw [hframe])
      · rw [State.entryAt_install, if_neg, if_neg, hc]
        · intro hf
          obtain ⟨c', hc', ha, hy⟩ := (hcached.toPairsPlaced.findPlace_iff _ _ pl).1 hf
          cases hc.symm.trans hc'
          exact hn (hpresent pl c hc ha hy)
        · rintro rfl
          exact hn (hidle c hc)
      · rw [State.entryAt_install] at hc
        split at hc
        next hpl =>
          cases hc
          subst hpl
          refine .inr ⟨rfl, rfl, fun pl' c' hc' ha hy => ?_, hpresent⟩
          rw [State.entryAt_install] at hc'
          split at hc'
          next heq => exact heq
          · split at hc'
            · cases hc'
            next hne => exact absurd ((hcached.toPairsPlaced.findPlace_iff _ _ pl').2 ⟨c', hc', ha, hy⟩) hne
        · split at hc
          · cases hc
          · exact .inl hc

theorem ownPort_tableTrue : (∀ a, (ownPortOffGraceful a u).state.TableTrue) ∧ (∀ a, (ownPortOffImmediate a u).state.TableTrue) ∧
    (∀ p, (ownPortOn p u).state.TableTrue) := by
  have ht := h.tabled
  refine ⟨fun a => ?_, fun a => ?_, fun p => ?_⟩
  · unfold ownPortOffGraceful
    split
    · exact (ht.quiesce _).close
    · exact (ht.portOff _).close
    · exact (ht.portOff _).close
    · exact (ht.portOff _).close
    · exact h
    · exact h
  · unfold ownPortOffImmediate
    split
    · exact h
    · exact (ht.portOff _).close
  · unfold ownPortOn
    split
    · exact (ht.switchOn _).close
    · exact (ht.resume _).close
    all_goals exact h

/-- END and CANCEL take an open exchange of the order (R23). -/
theorem endWith_tableTrue {act : Slot → Exchange → State → State}
    (hact : ∀ i e, u.live i = some e → e.phase.isOpen = true → (act i e u).Tabled) (x : Word32) : (endWith act x u).state.TableTrue := by
  unfold endWith
  split
  · exact h
  next i hi =>
    split
    · exact h
    next e he =>
      split
      · obtain ⟨e', he', hopen⟩ := (u.slotOpen_iff i).1 ((h.1.order i).1 (List.mem_of_find?_eq_some hi))
        cases he.symm.trans he'
        exact (hact i e he hopen).closeFrom _
      · exact h

theorem ownConfigure_tableTrue (hstation : u.StationSound) (items : List (Nat × Nat)) : (ownConfigure items u).state.TableTrue := by
  unfold ownConfigure
  split
  · exact h
  · split
    · exact h
    next hstandby =>
      have hnone := hstation.noOpen (.inr (Classical.not_not.1 hstandby))
      refine (h.tabled.reconfig (t := u.applyItems _) hnone (by simp) ?_ (by simp)).close
      simp only [State.applyItems, State.mapCells, State.dropExpired]
      (repeat' split) <;> simp

end

theorem State.Tabled.enterStandby {s : State} (h : s.Tabled) (hnone : s.ex.order = []) (x : LoadOutcome × Config.Settings) (b : Bool) :
    (s.enterStandby x b).TableTrue := by
  refine State.Tabled.close (State.Tabled.foldl_detect ?_ _)
  exact h.reconfig hnone rfl rfl rfl

end Sys2Proof.Machine

namespace Sys2Proof.Machine
open Sys2Proof

/-! ### O56, O57 -/

/-- The predicate does not speak of the host link. -/
def LinkFree (P : State → Prop) : Prop := ∀ (u : State) (l : HostLink), P u → P (u.setLink l)

/-- A control request keeps a predicate that speaks of no link where its owner does. -/
theorem LinkFree.takeControl {P : State → Prop} (hP : LinkFree P) {s : State} (hs : P s) {α : Type} {code : Byte} {args : List Byte}
    {body : ReplyBody} {read : List Byte → Option α} {owner : α → State → Answered}
    (hown : ∀ x, P s.popIngress → P (owner x s.popIngress).state) : P (s.takeControl code args body read owner) :=
  Leads.takeControl (fun _ => hP _ _ (hP _ _ hs)) fun x _ => hP _ _ (hown x (hP _ _ hs))

theorem LinkFree.onRequest {P : State → Prop} (hP : LinkFree P) {s : State} (hs : P s) {α : Type} {code : Byte}
    {read : List Byte → Option α} {owner : α → State → Answered}
    (hown : ∀ x, P s.popIngress → P (owner x s.popIngress).state) : Leads P (s.onRequest code read owner) :=
  Leads.onRequest hs fun _ _ _ => ⟨fun _ => hP _ _ (hP _ _ hs), fun x _ => hP _ _ (hown x (hP _ _ hs))⟩

/-- CONFIGURE, PORT OFF's two commands and UNKNOWN REQUEST read the head of the ingress queue themselves. -/
theorem LinkFree.request {P : State → Prop} (hP : LinkFree P) {s : State} (hs : P s) :
    ((∀ x, P s.popIngress → P (ownConfigure x s.popIngress).state) → Leads P (exec .configure s)) ∧
    ((∀ x, P s.popIngress → P (ownPortOffGraceful x s.popIngress).state) → Leads P (exec .portOffGraceful s)) ∧
    ((∀ x, P s.popIngress → P (ownPortOffImmediate x s.popIngress).state) → Leads P (exec .portOffImmediate s)) ∧
    Leads P (exec .unknownRequest s) := by
  simp only [exec, execConfigure, execPortOffGraceful, execPortOffImmediate, execUnknownRequest]
  refine ⟨fun hown => ?_, fun hown => ?_, fun hown => ?_, ?_⟩
  · (repeat' split) <;> first | exact .next (hP.takeControl hs hown) | exact .next hs
  · (repeat' split) <;> first | exact .next (hP.takeControl hs hown) | exact .next hs
  · (repeat' split) <;> first | exact .next (hP.takeControl hs hown) | exact .next hs
  · (repeat' split) <;> first | exact .next (hP.takeControl hs fun _ h => h) | exact .next hs

theorem State.Tabled.setCurrent {s : State} (h : s.Tabled) (x : Option InProgress) : (s.setCurrent x).Tabled := h.neutral rfl rfl rfl rfl

theorem State.Tabled.beginHeld {s : State} (h : s.Tabled) (y : Nat) : (s.beginHeld y).Tabled :=
  h.neutral (by simp) (by simp) (by simp) (by simp)

theorem tableTrue_linkFree : LinkFree State.TableTrue := fun _ _ h => h.neutral rfl rfl rfl rfl rfl

/-- The start-up commands, and those of the host link. -/
theorem exec_tableTrue_reset {c : Instr} {s : State} (h : s.Sound) (hc : c matches .powerOn .. | .resetPinAsserted | .resetPinReleased ..
    | .eepromLoadComplete .. | .eepromReadTimeout .. | .hostLinkResetSequence) : Leads State.TableTrue (exec c s) := by
  have ht := h.tableTrue
  cases c <;> cases hc
  case powerOn straps pin =>
    simp only [exec, execPowerOn, State.fullResetHeld, State.fullResetBegun]
    split <;> exact .next (State.afterFullReset_sound _ _ _ rfl rfl).tableTrue
  case resetPinAsserted =>
    simp only [exec, execResetPinAsserted, State.fullResetHeld]
    split
    · exact .next ht
    · exact .next (State.afterFullReset_sound _ _ _ rfl rfl).tableTrue
  case resetPinReleased straps =>
    simp only [exec, execResetPinReleased, State.fullResetBegun]
    split
    · exact .next (State.afterFullReset_sound _ _ _ rfl rfl).tableTrue
    · exact .next ht
  case eepromLoadComplete image sequence =>
    simp only [exec, execEepromLoadComplete]
    split
    next hload _ => exact .next (ht.tabled.enterStandby (h.station.noOpen (.inl hload)) _ _)
    · exact .next ht
  case eepromReadTimeout sequence =>
    simp only [exec, execEepromReadTimeout]
    split
    next hload _ =>
      split
      · exact .next (ht.tabled.enterStandby (h.station.noOpen (.inl hload)) _ _)
      · exact .next ht
    · exact .next ht
  case hostLinkResetSequence =>
    simp only [exec, execHostLinkResetSequence]
    split
    · exact .next ht
    · exact .next s.tableTrue_hostReset

/-- Admission and the sending of a result. -/
theorem exec_tableTrue_results {s : State} (ht : s.TableTrue) :
    Leads State.TableTrue (exec .admission s) ∧ Leads State.TableTrue (exec .sendResult s) := by
  simp only [exec, execAdmission, execSendResult]
  refine ⟨?_, ?_⟩
  · split
    · split
      · split
        · exact .next (tableTrue_linkFree _ _ ht)
        next i rest hfree =>
          split
          · exact .next (ht.refuse hfree _ _)
          next b _ _ hnone =>
            split
            · exact .next (tableTrue_linkFree _ _ ht)
            next u hu =>
              obtain ⟨h1, hex, hentry⟩ := ht.tabled.takeEntry hu
              obtain ⟨hlow, hhigh⟩ := State.refusal_eq_none hnone
              have h2 := h1.enter (i := i) (rest := rest) (by rw [hex, hfree]) hlow hhigh hentry
              exact .next (State.Tabled.close (h2.neutral (by simp) (by simp) (by simp) (by simp)))
      · exact .next ht
    · exact .next ht
  · split
    · split
      · exact .next ht
      next i rest hres =>
        split
        · split
          · exact .next (ht.freeSlot hres _)
          · exact .next ht
        · exact .next ht
    · exact .next ht

/-- The commands on exchanges and traces. -/
theorem exec_tableTrue_exchanges {c : Instr} {s : State} (h : s.Sound) (hc : c matches .sendExchange .. | .answerArrival ..
    | .answerWaitExpiry .. | .holdExpiry .. | .traceTransmission .. | .traceReplyArrival .. | .traceWaitExpiry ..) :
    Leads State.TableTrue (exec c s) := by
  have ht := h.tableTrue
  have hb := ht.tabled
  have hheard : ∀ p, (s.heard p).TableTrue := fun p => ht.neutral (by simp) (by simp) (by simp) (by simp) (by simp)
  have hlong : ∀ {payload : List Byte}, ¬ Config.payloadLimit < payload.length → payload.length ≤ 512 := fun hl => Nat.not_lt.1 hl
  cases c <;> cases hc
  case sendExchange p =>
    simp only [exec, execSendExchange]
    split
    · split
      · exact .next ht
      next i hi =>
        split
        · exact .next ht
        next e hlive =>
          obtain ⟨e', a, he', hp⟩ := ht.waiting_of_nextReady hi
          cases hlive.symm.trans he'
          exact .next ((hb.send hlive hp p).neutral (by simp) (by simp) (by simp) (by simp)).close
    · exact .next ht
  case answerArrival p tag attempt payload =>
    simp only [exec, execAnswerArrival]
    split
    · exact .next (hb.takeDamaged p).close
    next hlen =>
      split
      · exact .next ht
      · split
        · exact .next (hheard p)
        next hacc =>
          split
          · exact .next (hheard p)
          next e hlive =>
            have hopen : e.phase.isOpen = true := by
              have hl : (s.record (tagSlot tag)).live = some e := hlive
              simp only [State.answerAccepted, Bool.not_eq_true', Bool.not_eq_false, Bool.and_eq_true, hl, Option.any_some] at hacc
              have := hacc.2.2
              cases hp : e.phase <;> first | rfl | (rw [hp] at this; cases this)
            have hl : (s.heard p).live (tagSlot tag) = some e := by
              rw [State.live_congr (s := s) (t := s.heard p) (by simp)]; exact hlive
            have hd := (hheard p).tabled.decideResult (State.SameBut.refl _ _) hl hopen hl rfl rfl
              ((hheard p).2.2 _ e hl) .completed (hlong hlen)
            exact .next ((hd.neutral (by simp) (by simp) (by simp) (by simp)).closeFrom _)
  case answerWaitExpiry i =>
    simp only [exec, execAnswerWaitExpiry]
    split
    · exact .next ht
    next e hlive =>
      split
      next p d at_ hp =>
        split
        · have hsent := (ht.2.2 i e hlive).sent _ _ _ hp
          have hl : s.Lifted ((s.detach i).exchangeMiss e.target p at_) i e :=
            (hb.lifted_detach hlive (by rw [hp]; rfl)).neutral (by simp) (by simp) (by simp) (by simp) (by simp)
          refine .next (State.Tabled.closeFrom ?_ _)
          split
          · exact hl.dueResend hsent
          next hclass => exact hl.seekFate _ hsent (by simpa using hclass)
        · exact .next ht
      · exact .next ht
  case holdExpiry i =>
    simp only [exec, execHoldExpiry]
    split
    next hp =>
      split
      · obtain ⟨e, hlive, hph⟩ := State.live_of_phase hp
        exact .next (hb.decideResult (State.SameBut.refl _ _) hlive (by rw [hph]; rfl) hlive rfl rfl (ht.2.2 i e hlive) _
          (Nat.zero_le _)).close
      · exact .next ht
    · exact .next ht
  case traceTransmission p =>
    simp only [exec, execTraceTransmission]
    split
    · split
      · exact .next ht
      next i rest htraces =>
        have htail : (s.modPort p (fun x => { x with pendingTraces := rest })).TableTrue :=
          ht.tailTraces rfl (fun q => s.tracesOf_modPort_sublist p _ (by rw [htraces]; exact List.sublist_cons_self i rest) q)
            (s.statesOf_modPort p _ rfl) rfl rfl
        split
        · exact .next htail
        · exact .next (htail.neutral (by simp) (by simp) (by simp) (by simp) (by simp))
    · exact .next ht
  case traceReplyArrival p tag attempt finding payload =>
    simp only [exec, execTraceReplyArrival]
    split
    · exact .next (hb.takeDamaged p).close
    next hlen =>
      split
      · exact .next ht
      · split
        · exact .next (hheard p)
        next hacc =>
          split
          · exact .next (hheard p)
          next e hlive =>
            have hl : (s.record (tagSlot tag)).live = some e := hlive
            simp only [State.replyAccepted, Bool.not_eq_true', Bool.not_eq_false, Bool.and_eq_true, hl, Option.any_some] at hacc
            obtain ⟨q, d, at_, hp⟩ : ∃ q d at_, e.phase = .tracing q d at_ := by
              have := hacc.2.1
              cases hp : e.phase <;> first | exact ⟨_, _, _, rfl⟩ | (rw [hp] at this; cases this)
            have hl : (s.heard p).live (tagSlot tag) = some e := by
              rw [State.live_congr (s := s) (t := s.heard p) (by simp)]; exact hlive
            have hlift : (s.heard p).Lifted (((s.heard p).detach (tagSlot tag)).alive e.target p) (tagSlot tag) e :=
              ((hheard p).tabled.lifted_detach hl (by rw [hp]; rfl)).neutral (by simp) (by simp) (by simp) (by simp) (by simp)
            refine .next ((State.Tabled.takeFinding hlift ((ht.2.2 _ e hlive).tracing _ _ _ hp).1 p (hlong ?_) finding).closeFrom _)
            simp only [Bool.or_eq_true, decide_eq_true_eq, not_or] at hlen
            exact hlen.1
  case traceWaitExpiry i =>
    simp only [exec, execTraceWaitExpiry]
    split
    next hp =>
      split
      · obtain ⟨e, hlive, hph⟩ := State.live_of_phase hp
        exact .next ((hb.unanswered hlive hph _).closeFrom _)
      · exact .next ht
    · exact .next ht

/-- The commands of the Failover Engine. -/
theorem exec_tableTrue_failover {c : Instr} {s : State} (ht : s.TableTrue) (hc : c matches .workItemTakenUp | .walkStep
    | .entriesStep | .pairPhaseStep | .heldPhaseStep) : Leads State.TableTrue (exec c s) := by
  have hb := ht.tabled
  cases c <;> cases hc
  case workItemTakenUp =>
    simp only [exec, execWorkItemTakenUp]
    (repeat' split) <;> first | exact .next ht | exact .next (ht.neutral (by simp) (by simp) (by simp) (by simp) (by simp))
  case walkStep =>
    simp only [exec, execWalkStep]
    split
    · exact .next ht
    · split
      · split
        · exact .next (ht.neutral (by simp) (by simp) (by simp) (by simp) (by simp))
        · split
          · exact .next ht
          next i _ e hlive => exact .next ((hb.walkOne hlive _).closeFrom _)
      · exact .next ht
  case entriesStep =>
    simp only [exec, execEntriesStep]
    (repeat' split) <;> first
      | exact .next ht
      | exact .next (ht.neutral (by simp) (by simp) (by simp) (by simp) (by simp))
      | exact .next ((hb.handleEntry _ _).finishLoss _).close
      | exact .next ((hb.handleEntry _ _).setCurrent _).close
  case pairPhaseStep =>
    simp only [exec, execPairPhaseStep]
    (repeat' split) <;> first
      | exact .next ht
      | exact .next (ht.neutral (by simp) (by simp) (by simp) (by simp) (by simp))
      | exact .next ((hb.handlePair _).beginHeld _).close
      | exact .next ((hb.handlePair _).setCurrent _).close
  case heldPhaseStep =>
    simp only [exec, execHeldPhaseStep]
    (repeat' split) <;> first
      | exact .next ht
      | exact .next (ht.neutral rfl rfl rfl rfl rfl)
      | exact .next ((hb.handleHeld _).setCurrent _).close

/-- The commands of the fabric lines, of routes, row bus and views: but for the losses of a link they change no exchange. -/
theorem exec_tableTrue_lines {c : Instr} {s : State} (ht : s.TableTrue) (hc : c matches .signalArriving .. | .signalLost ..
    | .trainingWaitExpiry .. | .linkOffer .. | .fabricCreditArrival .. | .reach .. | .idleTick .. | .damagedFrame ..
    | .linkSilenceExpiry .. | .portResetHoldExpiry .. | .probeDue .. | .probeSend .. | .echo .. | .probeWaitExpiry ..) :
    Leads State.TableTrue (exec c s) := by
  have hb := ht.tabled
  have hmod : ∀ p f, (f (s.port p)).pendingTraces = (s.port p).pendingTraces → (f (s.port p)).state = (s.port p).state →
      (s.modPort p f).TableTrue :=
    fun p f htraces hstate => ht.neutral rfl (s.tracesOf_modPort p f htraces) (s.statesOf_modPort p f hstate) rfl rfl
  cases c <;> cases hc
  case signalLost p =>
    simp only [exec, execSignalLost]
    have h1 := hmod p (fun x => { x with signal := false, retryBar := false }) rfl rfl
    split
    · exact .next ((h1.tabled.modPort p _ rfl).announce _ _ _).close
    · exact .next (h1.tabled.loseLink p _).close
    · exact .next (h1.tabled.loseLink p _).close
    all_goals exact .next h1
  case trainingWaitExpiry p =>
    simp only [exec, execTrainingWaitExpiry]
    split
    · exact .next ((hb.modPort p _ rfl).announce _ _ _).close
    · exact .next ht
  case linkOffer p identity grant reachList =>
    simp only [exec, execLinkOffer]
    have hup : ∀ {u : State}, u.Tabled → (u.comeUp p identity grant reachList).Tabled :=
      fun h => h.neutral (by simp) (by simp) (by simp) (by simp)
    split
    · split
      · exact .next (hup hb).close
      · exact .next ht
    · split
      · refine .next (State.Tabled.close ?_)
        split
        · exact hup (hb.loseLink p _).settleReady
        · exact (hb.loseLink p _).settleReady
      · exact .next (ht.neutral (by simp) (by simp) (by simp) (by simp) (by simp))
    · split
      · refine .next (State.Tabled.close ?_)
        split
        · exact hup (hb.loseLink p _).settleReady
        · exact (hb.loseLink p _).settleReady
      · exact .next (ht.neutral (by simp) (by simp) (by simp) (by simp) (by simp))
    all_goals exact .next ht
  case damagedFrame p => exact .next (hb.takeDamaged p).close
  case linkSilenceExpiry p =>
    simp only [exec, execLinkSilenceExpiry]
    split
    · exact .next (hb.loseLink p _).close
    · exact .next ht
  case portResetHoldExpiry p =>
    simp only [exec, execPortResetHoldExpiry]
    split
    · exact .next (((hb.modPort p _ rfl).announce _ _ _).detect p).close
    · exact .next ht
  case signalArriving p =>
    simp only [exec, execSignalArriving]
    have h1 := hmod p (fun x => { x with signal := true }) rfl rfl
    split
    · exact .next h1
    · exact .next (h1.tabled.detect p).close
  case fabricCreditArrival p count =>
    simp only [exec, execFabricCreditArrival]
    split
    · have hheard : (s.heard p).TableTrue := ht.neutral (by simp) (by simp) (by simp) (by simp) (by simp)
      exact .next (hheard.neutral rfl ((s.heard p).tracesOf_modPort p _ rfl) ((s.heard p).statesOf_modPort p _ rfl) rfl rfl)
    · exact .next ht
  case echo p target number =>
    simp only [exec, execEcho]
    split
    · exact .next (hb.takeDamaged p).close
    · (repeat' split) <;> first
        | exact .next ht
        | exact .next (State.Tabled.close (hb.neutral (by simp) (by simp) (by simp) (by simp)))
        | exact .next (ht.neutral (by simp) (by simp) (by simp) (by simp) (by simp))
  case probeSend p =>
    simp only [exec, execProbeSend]
    split
    · split
      · exact .next ht
      next y rest _ =>
        have h1 := hmod p (fun x => { x with pendingProbes := rest }) rfl rfl
        exact .next (h1.neutral (by simp) (by simp) (by simp) (by simp) (by simp))
    · exact .next ht
  case reach | idleTick | probeDue | probeWaitExpiry =>
    simp only [exec, execReach, execIdleTick, execProbeDue, execProbeWaitExpiry]
    (repeat' split) <;> first
      | exact .next ht
      | exact .next (State.Tabled.close (hb.neutral (by simp) (by simp) (by simp) (by simp)))
      | exact .next (ht.neutral (by simp) (by simp) (by simp) (by simp) (by simp))

/-- Every command keeps the exchange table, its lists, the cache and the exchanges. -/
theorem exec_tableTrue (c : Instr) (s : State) (h : s.Sound) : Leads State.TableTrue (exec c s) := by
  have ht := h.tableTrue
  have hP := tableTrue_linkFree
  cases c with
  | powerOn | resetPinAsserted | resetPinReleased | eepromLoadComplete | eepromReadTimeout | hostLinkResetSequence =>
    exact exec_tableTrue_reset h rfl
  | admission => exact (exec_tableTrue_results ht).1
  | sendResult => exact (exec_tableTrue_results ht).2
  | configure =>
    refine (hP.request ht).1 fun x hu => ownConfigure_tableTrue hu ?_ x
    obtain ⟨⟩ := h.station
    constructor <;> assumption
  | portOffGraceful => exact (hP.request ht).2.1 fun a hu => (ownPort_tableTrue hu).1 a
  | portOffImmediate => exact (hP.request ht).2.2.1 fun a hu => (ownPort_tableTrue hu).2.1 a
  | unknownRequest => exact (hP.request ht).2.2.2
  | portOn => exact hP.onRequest ht fun p hu => (ownPort_tableTrue hu).2.2 p
  | resetPort => exact hP.onRequest ht fun p hu => (hu.tabled.resetPort p).close
  | pin => exact hP.onRequest ht fun a hu => ownPin_tableTrue hu a
  | flush => exact hP.onRequest ht fun _ hu => hu.refilled (State.refilled_flushIdle _) rfl
  | endExchange =>
    refine hP.onRequest ht fun x hu => endWith_tableTrue hu (fun i e hlive hopen => ?_) x
    exact hu.tabled.decideResult (State.SameBut.refl _ _) hlive hopen hlive rfl rfl (hu.2.2 i e hlive) _ (Nat.zero_le _)
  | cancel => exact hP.onRequest ht fun x hu => endWith_tableTrue hu (fun i e hlive hopen => hu.tabled.cancel hlive hopen) x
  | hostReset => exact hP.onRequest ht fun _ _ => State.tableTrue_hostReset _
  | status | readConfig | readExchange | readPort | readRoute | readPeer | readVerdict | lookup =>
    exact hP.onRequest ht fun _ hu => hu
  | enable =>
    refine hP.onRequest ht fun _ hu => ?_
    unfold ownEnable
    split <;> exact hu.neutral rfl rfl rfl rfl rfl
  | withdraw =>
    refine hP.onRequest ht fun _ hu => ?_
    unfold ownWithdraw
    split <;> exact hu.neutral rfl rfl rfl rfl rfl
  | sendExchange | answerArrival | answerWaitExpiry | holdExpiry | traceTransmission | traceReplyArrival | traceWaitExpiry =>
    exact exec_tableTrue_exchanges h rfl
  | workItemTakenUp | walkStep | entriesStep | pairPhaseStep | heldPhaseStep => exact exec_tableTrue_failover ht rfl
  | signalArriving | signalLost | trainingWaitExpiry | linkOffer | fabricCreditArrival | reach | idleTick | damagedFrame
  | linkSilenceExpiry | portResetHoldExpiry | probeDue | probeSend | echo | probeWaitExpiry => exact exec_tableTrue_lines ht rfl
  | hostRequestArrival | hostCreditArrival | sendCreditReturn | sendControlReply | sendNotice | rowFrameStart | lostArbitration
  | bitError | rowFrameSentWhole | sightingReceived | withdrawReceived | frameBrokenOff | lineHeldLow | cleared | driveRetryExpiry
  | periodicSightingDue | changeSightingDue | peerEntryStale | peerEntryExpired | clearHoldExpiry | staggerExpiry =>
    simp only [exec, execHostRequestArrival, execHostCreditArrival, execSendCreditReturn, execSendControlReply, execSendNotice,
      execRowFrameStart, execLostArbitration, execBitError, execRowFrameSentWhole, execSightingReceived, execWithdrawReceived,
      execFrameBrokenOff, execLineHeldLow, execCleared, execDriveRetryExpiry, execPeriodicSightingDue, execChangeSightingDue,
      execPeerEntryStale, execPeerEntryExpired, execClearHoldExpiry, execStaggerExpiry, State.failDrive, State.endReceive]
    (repeat' split) <;> apply Leads.next <;> first
      | with_reducible exact ht
      | refine ht.neutral ?_ ?_ ?_ ?_ ?_ <;> simp

/-- Settles O56. -/
theorem exchangeListsAndCacheStayTrue : Obligations.ExchangeListsAndCacheStayTrue := fun s t h ht =>
  have htrue := Leads.step (fun _ h => h.tableTrue) exec_tableTrue s t h ht
  ⟨htrue.1, htrue.2.1⟩

/-- Settles O57. -/
theorem exchangesStaySound : Obligations.ExchangesStaySound := fun s t h ht =>
  (Leads.step (fun _ h => h.tableTrue) exec_tableTrue s t h ht).2.2

end Sys2Proof.Machine

namespace Sys2Proof.Machine
open Sys2Proof

/-! ### Offers to the work list (R92 to R95) -/

@[simp] theorem WorkItem.isPortLoss_portLoss (p q : PortId) (horizon : Time) : (WorkItem.portLoss q horizon).isPortLoss p = (q == p) := rfl
@[simp] theorem WorkItem.isPortLoss_cellLoss (p q : PortId) (y : Nat) : (WorkItem.cellLoss y q).isPortLoss p = false := rfl
@[simp] theorem WorkItem.isPortLoss_placement (p : PortId) (y : Nat) : (WorkItem.placement y).isPortLoss p = false := rfl
@[simp] theorem WorkItem.isCellLossOn_portLoss (p q : PortId) (horizon : Time) : (WorkItem.portLoss q horizon).isCellLossOn p = false := rfl
@[simp] theorem WorkItem.isCellLossOn_cellLoss (p q : PortId) (y : Nat) : (WorkItem.cellLoss y q).isCellLossOn p = (q == p) := rfl
@[simp] theorem WorkItem.isCellLossOn_placement (p : PortId) (y : Nat) : (WorkItem.placement y).isCellLossOn p = false := rfl

theorem WorkItem.isPortLoss_iff (p : PortId) (w : WorkItem) : w.isPortLoss p = true ↔ ∃ horizon, w = .portLoss p horizon := by
  cases w <;> simp

theorem WorkItem.isCellLossOn_iff (p : PortId) (w : WorkItem) : w.isCellLossOn p = true ↔ ∃ y, w = .cellLoss y p := by
  cases w <;> simp

/-- A port-loss item for p with its horizon at `now` (R93). -/
def WorkItem.moved (p : PortId) (now : Time) (w : WorkItem) : WorkItem := if w.isPortLoss p then .portLoss p now else w

theorem WorkItem.isPortLoss_moved (p q : PortId) (now : Time) (w : WorkItem) : (w.moved p now).isPortLoss q = w.isPortLoss q := by
  unfold WorkItem.moved
  split
  next h =>
    obtain ⟨horizon, rfl⟩ := (WorkItem.isPortLoss_iff p w).1 h
    rfl
  · rfl

theorem WorkItem.moved_eq_cellLoss {p q : PortId} {now : Time} {w : WorkItem} {y : Nat} (h : w.moved p now = .cellLoss y q) :
    w = .cellLoss y q := by
  unfold WorkItem.moved at h
  split at h
  · cases h
  · exact h

theorem WorkItem.moved_eq_placement {p : PortId} {now : Time} {w : WorkItem} {y : Nat} (h : w.moved p now = .placement y) :
    w = .placement y := by
  unfold WorkItem.moved at h
  split at h
  · cases h
  · exact h

theorem State.offerPortLoss_work (s : State) (p : PortId) : (s.offerPortLoss p).failover =
    ⟨if s.failover.work.any (·.isPortLoss p) then s.failover.work.map (WorkItem.moved p s.timeBase)
      else s.failover.work.filter (fun w => !w.isCellLossOn p) ++ [.portLoss p s.timeBase], s.failover.current⟩ := by
  unfold State.offerPortLoss
  split <;> rfl

theorem State.offerCellLoss_work (s : State) (y : Nat) (p : PortId) : (s.offerCellLoss y p).failover =
    ⟨if s.portLossStands p = true ∨ .cellLoss y p ∈ s.failover.work then s.failover.work else s.failover.work ++ [.cellLoss y p],
      s.failover.current⟩ := by
  unfold State.offerCellLoss
  simp only [Bool.or_eq_true, List.contains_iff_mem]
  split <;> rfl

theorem State.offerPlacement_work (s : State) (y : Nat) : (s.offerPlacement y).failover =
    ⟨if .placement y ∈ s.failover.work then s.failover.work else s.failover.work ++ [.placement y], s.failover.current⟩ := by
  unfold State.offerPlacement
  simp only [List.contains_iff_mem]
  split <;> rfl

theorem State.WorkSound.offerPortLoss {s : State} (h : s.WorkSound) (p : PortId) : (s.offerPortLoss p).WorkSound := by
  have hw : (s.offerPortLoss p).failover.work = _ := congrArg Failover.work (s.offerPortLoss_work p)
  obtain ⟨once, oncePerPort, apart, cells, targets⟩ := h
  by_cases hany : s.failover.work.any (·.isPortLoss p) = true
  · rw [if_pos hany] at hw
    have honly : ∀ x ∈ s.failover.work, ∀ y ∈ s.failover.work, x.isPortLoss p = true → y.isPortLoss p = true → x = y := by
      intro x hx y hy hxp hyp
      have hx' : x ∈ s.failover.work.filter (·.isPortLoss p) := List.mem_filter.2 ⟨hx, hxp⟩
      have hy' : y ∈ s.failover.work.filter (·.isPortLoss p) := List.mem_filter.2 ⟨hy, hyp⟩
      obtain ⟨z, hz⟩ := List.length_eq_one_iff.1 (Nat.le_antisymm (oncePerPort p) (List.length_pos_of_mem hx'))
      rw [hz, List.mem_singleton] at hx' hy'
      exact hx'.trans hy'.symm
    refine ⟨?_, fun q => ?_, fun q horizon y hl hc => ?_, fun y q hc => ?_, fun y hc => ?_⟩
    · rw [hw]
      refine once.map_on fun x hx y hy hxy => ?_
      have hsame : x.isPortLoss p = y.isPortLoss p := by rw [← x.isPortLoss_moved p p s.timeBase, hxy, WorkItem.isPortLoss_moved]
      unfold WorkItem.moved at hxy
      by_cases hxp : x.isPortLoss p = true
      · exact honly x hx y hy hxp (hsame ▸ hxp)
      · rwa [if_neg hxp, if_neg (hsame ▸ hxp)] at hxy
    · rw [hw, List.filter_map, List.length_map]
      have hsame : (fun w : WorkItem => w.isPortLoss q) ∘ WorkItem.moved p s.timeBase = (·.isPortLoss q) :=
        funext fun w => w.isPortLoss_moved p q _
      rw [hsame]
      exact oncePerPort q
    · rw [hw] at hl hc
      obtain ⟨w, hm, he⟩ := List.mem_map.1 hc
      obtain rfl := WorkItem.moved_eq_cellLoss he
      obtain ⟨v, hv, he⟩ := List.mem_map.1 hl
      have hq : v.isPortLoss q = true := by rw [← v.isPortLoss_moved p q s.timeBase, he]; simp
      obtain ⟨horizon', rfl⟩ := (WorkItem.isPortLoss_iff q v).1 hq
      exact apart q horizon' y hv hm
    · rw [hw] at hc
      obtain ⟨w, hm, he⟩ := List.mem_map.1 hc
      exact cells y q (WorkItem.moved_eq_cellLoss he ▸ hm)
    · rw [hw] at hc
      obtain ⟨w, hm, he⟩ := List.mem_map.1 hc
      exact targets y (WorkItem.moved_eq_placement he ▸ hm)
  · rw [if_neg hany] at hw
    have hno : ∀ w ∈ s.failover.work, w.isPortLoss p = false := fun w hm => by
      by_contra hc
      exact hany (List.any_eq_true.2 ⟨w, hm, by simpa using hc⟩)
    refine ⟨?_, fun q => ?_, fun q horizon y hl hc => ?_, fun y q hc => ?_, fun y hc => ?_⟩
    · rw [hw]
      refine (once.filter _).append (by simp) ?_
      simp only [List.disjoint_singleton, List.mem_filter, not_and]
      intro hm
      have := hno _ hm
      simp at this
    · rw [hw, List.filter_append, List.length_append]
      have hsub := (List.filter_sublist (l := s.failover.work) (p := fun w => !w.isCellLossOn p)).filter (·.isPortLoss q)
      by_cases hq : p = q
      · subst hq
        have hnil : s.failover.work.filter (·.isPortLoss p) = [] := List.filter_eq_nil_iff.2 fun w hm => by simp [hno w hm]
        rw [hnil] at hsub
        rw [List.eq_nil_of_sublist_nil hsub, List.length_nil, Nat.zero_add]
        exact List.length_filter_le _ _
      · rw [show ([.portLoss p s.timeBase] : List WorkItem).filter (·.isPortLoss q) = [] by simp [hq]]
        exact hsub.length_le.trans (oncePerPort q)
    · rw [hw] at hl hc
      simp only [List.mem_append, List.mem_filter, List.mem_singleton, reduceCtorEq, or_false, WorkItem.isCellLossOn_cellLoss] at hl hc
      rcases hl with hl | hl
      · exact apart q horizon y hl.1 hc.1
      · cases hl
        simp at hc
    · rw [hw] at hc
      simp only [List.mem_append, List.mem_filter, List.mem_singleton, reduceCtorEq, or_false] at hc
      exact cells y q hc.1
    · rw [hw] at hc
      simp only [List.mem_append, List.mem_filter, List.mem_singleton, reduceCtorEq, or_false] at hc
      exact targets y hc.1

theorem State.WorkSound.offerCellLoss {s : State} (h : s.WorkSound) {y : Nat} (hy : y ∈ allTargets) (p : PortId) :
    (s.offerCellLoss y p).WorkSound := by
  have hw : (s.offerCellLoss y p).failover.work = _ := congrArg Failover.work (s.offerCellLoss_work y p)
  obtain ⟨once, oncePerPort, apart, cells, targets⟩ := h
  by_cases hstands : s.portLossStands p = true ∨ .cellLoss y p ∈ s.failover.work
  · rw [if_pos hstands] at hw
    constructor <;> rw [hw] <;> assumption
  · rw [if_neg hstands] at hw
    obtain ⟨hno, hnot⟩ := not_or.1 hstands
    refine ⟨?_, fun q => ?_, fun q horizon z hl hc => ?_, fun z q hc => ?_, fun z hc => ?_⟩
    · rw [hw]
      exact once.append (by simp) (by simpa using hnot)
    · rw [hw, List.filter_append]
      simpa [List.filter_cons] using oncePerPort q
    · rw [hw] at hl hc
      simp only [List.mem_append, List.mem_singleton, reduceCtorEq, or_false] at hl hc
      rcases hc with hc | hc
      · exact apart q horizon z hl hc
      · cases hc
        refine hno ?_
        rw [State.portLossStands, Bool.or_eq_true]
        exact .inl (List.any_eq_true.2 ⟨_, hl, by simp⟩)
    · rw [hw] at hc
      rcases List.mem_append.1 hc with hc | hc
      · exact cells z q hc
      · cases List.mem_singleton.1 hc
        exact hy
    · rw [hw] at hc
      simp only [List.mem_append, List.mem_singleton, reduceCtorEq, or_false] at hc
      exact targets z hc

theorem State.WorkSound.offerPlacement {s : State} (h : s.WorkSound) {y : Nat} (hy : y ∈ allTargets) : (s.offerPlacement y).WorkSound := by
  have hw : (s.offerPlacement y).failover.work = _ := congrArg Failover.work (s.offerPlacement_work y)
  obtain ⟨once, oncePerPort, apart, cells, targets⟩ := h
  by_cases hstands : .placement y ∈ s.failover.work
  · rw [if_pos hstands] at hw
    constructor <;> rw [hw] <;> assumption
  · rw [if_neg hstands] at hw
    refine ⟨?_, fun q => ?_, fun q horizon z hl hc => ?_, fun z q hc => ?_, fun z hc => ?_⟩
    · rw [hw]
      exact once.append (by simp) (by simpa using hstands)
    · rw [hw, List.filter_append]
      simpa [List.filter_cons] using oncePerPort q
    · rw [hw] at hl hc
      simp only [List.mem_append, List.mem_singleton, reduceCtorEq, or_false] at hl hc
      exact apart q horizon z hl hc
    · rw [hw] at hc
      simp only [List.mem_append, List.mem_singleton, reduceCtorEq, or_false] at hc
      exact cells z q hc
    · rw [hw] at hc
      rcases List.mem_append.1 hc with hc | hc
      · exact targets z hc
      · cases List.mem_singleton.1 hc
        exact hy

/-- Between two states the work list has only been offered items: those that stood stand, a port-loss item perhaps with a later
horizon, and a cell-loss item perhaps overtaken by one for its port (R93 to R95). -/
structure State.Offered (s t : State) : Prop where
  current : t.failover.current = s.failover.current
  sound : s.WorkSound → t.WorkSound
  time : t.timeBase = s.timeBase
  portLoss : ∀ p horizon, .portLoss p horizon ∈ s.failover.work →
    ∃ later, .portLoss p later ∈ t.failover.work ∧ (later = horizon ∨ later = s.timeBase)
  cellLoss : ∀ y p, .cellLoss y p ∈ s.failover.work → .cellLoss y p ∈ t.failover.work ∨ t.portLossStands p = true
  placement : ∀ y, .placement y ∈ s.failover.work → .placement y ∈ t.failover.work

theorem State.portLossStands_iff (s : State) (p : PortId) : s.portLossStands p = true ↔
    (∃ horizon, .portLoss p horizon ∈ s.failover.work) ∨ s.failover.current.any (·.isPortLoss p) = true := by
  rw [State.portLossStands, Bool.or_eq_true]
  refine or_congr_left ?_
  rw [List.any_eq_true]
  constructor
  · rintro ⟨w, hm, hp⟩
    obtain ⟨horizon, rfl⟩ := (WorkItem.isPortLoss_iff p w).1 hp
    exact ⟨horizon, hm⟩
  · rintro ⟨horizon, hm⟩
    exact ⟨_, hm, by simp⟩

theorem State.Offered.stands {s t : State} (h : s.Offered t) {p : PortId} (hs : s.portLossStands p = true) : t.portLossStands p = true := by
  rw [State.portLossStands_iff] at hs ⊢
  rcases hs with ⟨horizon, hm⟩ | hc
  · obtain ⟨later, hl, -⟩ := h.portLoss p horizon hm
    exact .inl ⟨later, hl⟩
  · exact .inr (h.current ▸ hc)

theorem State.Offered.of_eq {s t : State} (hfailover : t.failover = s.failover) (htime : t.timeBase = s.timeBase) : s.Offered t := by
  refine ⟨by rw [hfailover], fun h => ?_, htime, fun p x hm => ⟨x, by rw [hfailover]; exact hm, .inl rfl⟩,
    fun y p hm => .inl (by rw [hfailover]; exact hm), fun y hm => by rw [hfailover]; exact hm⟩
  obtain ⟨once, oncePerPort, apart, cells, targets⟩ := h
  constructor <;> rw [hfailover] <;> assumption

theorem State.Offered.refl (s : State) : s.Offered s := .of_eq rfl rfl

theorem State.Offered.trans {s t u : State} (h : s.Offered t) (g : t.Offered u) : s.Offered u where
  current := g.current.trans h.current
  sound hs := g.sound (h.sound hs)
  time := g.time.trans h.time
  portLoss p x hm := by
    obtain ⟨y, hy, hxy⟩ := h.portLoss p x hm
    obtain ⟨z, hz, hyz⟩ := g.portLoss p y hy
    refine ⟨z, hz, ?_⟩
    rcases hyz with rfl | rfl
    · exact hxy
    · exact .inr h.time
  cellLoss y p hm := by
    rcases h.cellLoss y p hm with ht | ht
    · exact g.cellLoss y p ht
    · exact .inr (g.stands ht)
  placement y hm := g.placement y (h.placement y hm)

theorem State.offered_portLoss (s : State) (p : PortId) : s.Offered (s.offerPortLoss p) := by
  have hf := s.offerPortLoss_work p
  have hw : (s.offerPortLoss p).failover.work = _ := congrArg Failover.work hf
  refine ⟨by rw [hf], fun h => h.offerPortLoss p, by simp, fun q x hm => ?_, fun y q hm => ?_, fun y hm => ?_⟩
  · rw [hw]
    split
    · by_cases hq : q = p
      · subst hq
        exact ⟨s.timeBase, List.mem_map.2 ⟨_, hm, by simp [WorkItem.moved]⟩, .inr rfl⟩
      · exact ⟨x, List.mem_map.2 ⟨_, hm, by simp [WorkItem.moved, hq]⟩, .inl rfl⟩
    · exact ⟨x, List.mem_append_left _ (List.mem_filter.2 ⟨hm, by simp⟩), .inl rfl⟩
  · rw [hw, State.portLossStands_iff, hw]
    split
    · exact .inl (List.mem_map.2 ⟨_, hm, by simp [WorkItem.moved]⟩)
    · by_cases hq : q = p
      · subst hq
        exact .inr (.inl ⟨s.timeBase, by simp⟩)
      · exact .inl (List.mem_append_left _ (List.mem_filter.2 ⟨hm, by simp [hq]⟩))
  · rw [hw]
    split
    · exact List.mem_map.2 ⟨_, hm, by simp [WorkItem.moved]⟩
    · exact List.mem_append_left _ (List.mem_filter.2 ⟨hm, by simp⟩)

/-- A port-loss item offered stands, with the present moment as its horizon (R93). -/
theorem State.mem_offerPortLoss (s : State) (p : PortId) : .portLoss p s.timeBase ∈ (s.offerPortLoss p).failover.work := by
  rw [State.offerPortLoss_work]
  dsimp only
  split
  next hany =>
    obtain ⟨w, hm, hp⟩ := List.any_eq_true.1 hany
    exact List.mem_map.2 ⟨w, hm, by rw [WorkItem.moved, if_pos hp]⟩
  · simp

theorem State.offered_cellLoss (s : State) {y : Nat} (hy : y ∈ allTargets) (p : PortId) : s.Offered (s.offerCellLoss y p) := by
  have hf := s.offerCellLoss_work y p
  have hsub : ∀ w ∈ s.failover.work, w ∈ (s.offerCellLoss y p).failover.work := fun w hm => by
    rw [hf]
    dsimp only
    split
    · exact hm
    · exact List.mem_append_left _ hm
  exact ⟨by rw [hf], fun h => h.offerCellLoss hy p, by simp, fun q x hm => ⟨x, hsub _ hm, .inl rfl⟩, fun z q hm => .inl (hsub _ hm),
    fun z hm => hsub _ hm⟩

theorem State.mem_offerCellLoss (s : State) (y : Nat) (p : PortId) :
    .cellLoss y p ∈ (s.offerCellLoss y p).failover.work ∨ (s.offerCellLoss y p).portLossStands p = true := by
  have hf := s.offerCellLoss_work y p
  by_cases hstands : s.portLossStands p = true
  · refine .inr ?_
    rw [State.portLossStands, hf, if_pos (.inl hstands)]
    exact hstands
  · refine .inl ?_
    rw [hf]
    dsimp only
    split
    next h => exact h.resolve_left hstands
    · simp

theorem State.offered_placement (s : State) {y : Nat} (hy : y ∈ allTargets) : s.Offered (s.offerPlacement y) := by
  have hf := s.offerPlacement_work y
  have hsub : ∀ w ∈ s.failover.work, w ∈ (s.offerPlacement y).failover.work := fun w hm => by
    rw [hf]
    dsimp only
    split
    · exact hm
    · exact List.mem_append_left _ hm
  exact ⟨by rw [hf], fun h => h.offerPlacement hy, by simp, fun q x hm => ⟨x, hsub _ hm, .inl rfl⟩, fun z q hm => .inl (hsub _ hm),
    fun z hm => hsub _ hm⟩

theorem State.mem_offerPlacement (s : State) (y : Nat) : .placement y ∈ (s.offerPlacement y).failover.work := by
  rw [State.offerPlacement_work]
  dsimp only
  split
  next h => exact h
  · simp

/-- The fold of a step that only offers. -/
theorem State.Offered.foldl {α : Type} {f : State → α → State} {l : List α} (h : ∀ u : State, ∀ x ∈ l, u.Offered (f u x)) (s : State) :
    s.Offered (l.foldl f s) := by
  induction l generalizing s with
  | nil => exact .refl s
  | cons x l ih => exact (h s x (by simp)).trans (ih (fun u y hy => h u y (List.mem_cons_of_mem _ hy)) _)

end Sys2Proof.Machine

namespace Sys2Proof.Machine
open Sys2Proof

/-! ### Verdicts, peers and the row bus (R143 to R147) -/

theorem State.VerdictsSound.setVerdict {s : State} (h : s.VerdictsSound) (sw : Nat) {v : VerdictRecord} (hv : v.Sound) :
    (s.setVerdict sw v).VerdictsSound := by
  intro x hx
  obtain ⟨i, hi, rfl⟩ := List.getElem_of_mem hx
  simp only [State.setVerdict, setBySwitch, Vector.getElem_toList] at hi ⊢
  split
  · rw [Vector.getElem_set]
    split
    · exact hv
    · exact h _ (by simp)
  · exact h _ (by simp)

/-- The record of any number is sound: that of no switch is the one of a full reset. -/
theorem State.VerdictsSound.verdict {s : State} (h : s.VerdictsSound) (sw : Nat) : (s.verdict sw).Sound := by
  unfold State.verdict bySwitch
  split
  · exact h _ (by simp)
  · exact VerdictRecord.afterReset_sound

/-- At most 31 peers list a switch, none of them this station. -/
theorem State.PeersSound.length_freshEntries_le {s : State} (h : s.PeersSound) (sw : Nat) : (s.freshEntries sw).length ≤ 31 := by
  have hown : ∃ hi : s.station.id.val < s.view.peers.toList.length, s.view.peers.toList[s.station.id.val] = none :=
    ⟨by simp, by simpa [State.peer] using h.notOwn⟩
  have hlen : s.view.peers.toList.length = 32 := by simp
  unfold State.freshEntries
  generalize s.view.peers.toList = l at *
  obtain ⟨hi, hown⟩ := hown
  have hsplit := List.take_append_drop s.station.id.val l
  rw [List.drop_eq_getElem_cons (by omega)] at hsplit
  rw [← hsplit, List.filterMap_append, List.filterMap_cons, hown]
  have h1 := List.length_filterMap_le (fun e => e.bind (fun x => if s.fresh x then entryFor sw x.switches else none)) (l.take s.station.id.val)
  have h2 := List.length_filterMap_le (fun e => e.bind (fun x => if s.fresh x then entryFor sw x.switches else none)) (l.drop (s.station.id.val + 1))
  simp only [List.length_take, List.length_drop] at h1 h2
  simp only [Option.bind_none, List.length_append]
  omega

/-- A load that a peer reports is at most 512 (R170). -/
theorem State.PeersSound.load_le {s : State} (h : s.PeersSound) {sw : Nat} {x : SwitchEntry} (hx : x ∈ s.freshEntries sw) : x.load ≤ 512 := by
  obtain ⟨e, he, hxe⟩ := List.mem_filterMap.1 hx
  obtain ⟨y, rfl, hy⟩ := Option.bind_eq_some_iff.1 hxe
  obtain ⟨i, hi, hget⟩ := List.getElem_of_mem he
  have hpeer : s.peer ⟨i, by simpa using hi⟩ = some y := by simpa [State.peer] using hget
  have hwf := h.passed _ y hpeer
  split at hy
  · have hm : x ∈ y.switches := List.mem_of_find?_eq_some hy
    simp only [sightingWf, Bool.and_eq_true, List.all_eq_true] at hwf
    have := hwf.1.2 x hm
    simp only [SwitchEntry.wf, Bool.and_eq_true, decide_eq_true_eq] at this
    exact this.2
  · cases hy

theorem sum_le_mul_length {l : List Nat} {n : Nat} (h : ∀ x ∈ l, x ≤ n) : l.sum ≤ n * l.length := by
  rw [Nat.mul_comm, ← smul_eq_mul]
  exact List.sum_le_card_nsmul l n h

/-- What the counts of a recomputation keep to, whatever the verdict (R143, R49). -/
structure VerdictRecord.Counted (v : VerdictRecord) : Prop where
  witnesses : v.d ≤ v.c
  peers : v.n ≤ 31
  load : v.l ≤ 512 * v.n

theorem State.PeersSound.withCounts {s : State} (h : s.PeersSound) (sw : Nat) (v : VerdictRecord) : (s.withCounts sw v).Counted := by
  refine ⟨?_, h.length_freshEntries_le sw, ?_⟩
  · simp only [State.withCounts]
    have := List.length_filter_le (fun x : SwitchEntry => decide (1 ≤ x.lost)) (s.freshEntries sw)
    split <;> split <;> omega
  · have hle : ((s.freshEntries sw).map (·.load)).sum ≤ 512 * ((s.freshEntries sw).map (·.load)).length :=
      sum_le_mul_length fun x hx => by
        obtain ⟨y, hy, rfl⟩ := List.mem_map.1 hx
        exact h.load_le hy
    rwa [List.length_map] at hle

theorem judge_eq (cfg : Config.Settings) (c d : Nat) :
    (judge cfg c d = .sound → d = 0) ∧ (judge cfg c d = .suspect → 1 ≤ d) := by
  unfold judge
  split
  · exact ⟨fun h => (nomatch h), fun h => (nomatch h)⟩
  · split
    next h => exact ⟨fun h => (nomatch h), fun _ => h⟩
    next h => exact ⟨fun _ => by omega, fun h => (nomatch h)⟩

/-- A record that is not FAILING runs no timer (R145, R147). -/
theorem VerdictRecord.Sound.idle {v : VerdictRecord} (h : v.Sound) (hv : v.verdict ≠ .failing) :
    v.clearEnds = none ∧ v.staggerEnds = none ∧ v.staggerExpired = false :=
  ⟨Option.not_isSome_iff_eq_none.1 fun hc => hv (h.clear hc).1, Option.not_isSome_iff_eq_none.1 fun hc => hv (h.stagger hc),
    Bool.eq_false_iff.2 fun hc => hv (h.expired hc).1⟩

/-- A record with its timers cleared is sound where its counts fit its verdict. -/
theorem VerdictRecord.Counted.sound {v : VerdictRecord} (h : v.Counted) (hverdict : v.verdict ≠ .failing)
    (hsound : v.verdict = .sound → v.d = 0) (hsuspect : v.verdict = .suspect → 1 ≤ v.d) (hclear : v.clearEnds = none)
    (hstagger : v.staggerEnds = none) (hexpired : v.staggerExpired = false) : v.Sound :=
  ⟨hsound, fun hc => (by rw [hclear] at hc; cases hc), fun hc => (by rw [hstagger] at hc; cases hc),
    fun hc => (by rw [hexpired] at hc; cases hc), h.witnesses, hsuspect, fun hc => absurd hc hverdict, h.peers, h.load⟩

theorem State.VerdictsSound.of_view {s t : State} (h : s.VerdictsSound) (hview : t.view.verdicts = s.view.verdicts) : t.VerdictsSound := by
  intro v hv
  exact h v (hview ▸ hv)

theorem State.VerdictsSound.expireStagger {s : State} (h : s.VerdictsSound) {sw : Nat} (hsw : (s.verdict sw).verdict = .failing) :
    (s.expireStagger sw).VerdictsSound := by
  have hv := h.verdict sw
  have hnew : VerdictRecord.Sound { s.verdict sw with staggerEnds := none, staggerExpired := true } :=
    ⟨hv.sound, hv.clear, fun hc => (nomatch hc), fun _ => ⟨hsw, rfl⟩, hv.witnesses, hv.suspect, fun _ => .inr rfl, hv.peers, hv.load⟩
  exact (h.setVerdict sw hnew).of_view rfl

theorem State.VerdictsSound.becomeFailing {s : State} (h : s.VerdictsSound) {sw : Nat} (hsw : sw ∈ allSwitches) (before : Verdict)
    {v : VerdictRecord} (hv : v.Counted) : (s.becomeFailing sw before v).VerdictsSound := by
  have hrange : 1 ≤ sw ∧ sw ≤ 15 := by
    have := List.mem_range'_1.1 hsw
    omega
  have hnew : ∀ ends : Time, VerdictRecord.Sound
      { v with verdict := .failing, clearEnds := none, staggerEnds := some ends, staggerExpired := false } := fun ends =>
    ⟨fun hc => (nomatch hc), fun hc => (nomatch hc), fun _ => rfl, fun hc => (nomatch hc), hv.witnesses, fun hc => (nomatch hc),
      fun _ => .inl rfl, hv.peers, hv.load⟩
  unfold State.becomeFailing
  dsimp only
  split
  · refine State.VerdictsSound.expireStagger ((h.setVerdict sw (hnew _)).of_view rfl) ?_
    have hread := (s.verdict_setVerdict sw sw
      { v with verdict := .failing, clearEnds := none, staggerEnds := some (s.timeBase + ms (s.station.id.val * staggerUnit s.config)),
               staggerExpired := false } hrange).trans (if_pos rfl)
    exact congrArg VerdictRecord.verdict hread
  · exact (h.setVerdict sw (hnew _)).of_view rfl

theorem State.VerdictsSound.recompute {s : State} (h : s.VerdictsSound) (hpeers : s.PeersSound) {sw : Nat} (hsw : sw ∈ allSwitches) :
    (s.recompute sw).VerdictsSound := by
  have hold := h.verdict sw
  have hcounts := hpeers.withCounts sw (s.verdict sw)
  have hkeep : (s.withCounts sw (s.verdict sw)).verdict = (s.verdict sw).verdict ∧
      (s.withCounts sw (s.verdict sw)).clearEnds = (s.verdict sw).clearEnds ∧
      (s.withCounts sw (s.verdict sw)).staggerEnds = (s.verdict sw).staggerEnds ∧
      (s.withCounts sw (s.verdict sw)).staggerExpired = (s.verdict sw).staggerExpired := ⟨rfl, rfl, rfl, rfl⟩
  obtain ⟨hverdict, hclear, hstagger, hexpired⟩ := hkeep
  unfold State.recompute
  dsimp only
  generalize s.withCounts sw (s.verdict sw) = v at *
  split
  next hv =>
    have hfail : (s.verdict sw).verdict = .failing := hverdict.symm.trans hv
    have hsound : ∀ ends : Option Time, (ends.isSome = true → v.d = 0) → VerdictRecord.Sound { v with clearEnds := ends } := fun ends hd =>
      ⟨fun hc => (by rw [hv] at hc; cases hc), fun hc => ⟨hv, hd hc⟩, fun _ => hv,
        fun hc => ⟨hv, hstagger.trans (hold.expired (hexpired ▸ hc)).2⟩, hcounts.witnesses, fun hc => (by rw [hv] at hc; cases hc),
        fun _ => (hold.staggered hfail).imp (hstagger ▸ ·) (hexpired ▸ ·), hcounts.peers, hcounts.load⟩
    split
    · exact h.setVerdict sw (hsound none fun hc => (nomatch hc))
    next hd =>
      split
      · exact h.setVerdict sw (hsound v.clearEnds fun _ => by omega)
      · exact h.setVerdict sw (hsound _ fun _ => by omega)
  next hne =>
    have hidle := hold.idle (fun hc => hne (hverdict.trans hc))
    split
    · exact h.becomeFailing hsw _ hcounts
    next after hj =>
      have hjudge := judge_eq s.config v.c v.d
      split
      next heq =>
        refine h.setVerdict sw (hcounts.sound hne (fun hs => hjudge.1 ?_) (fun hs => hjudge.2 ?_) (hclear.trans hidle.1)
          (hstagger.trans hidle.2.1) (hexpired.trans hidle.2.2))
        · rw [heq, hs]
        · rw [heq, hs]
      · refine (h.setVerdict sw (VerdictRecord.Counted.sound (v := { v with verdict := judge s.config v.c v.d })
          ⟨hcounts.witnesses, hcounts.peers, hcounts.load⟩ hj hjudge.1 hjudge.2 (hclear.trans hidle.1)
          (hstagger.trans hidle.2.1) (hexpired.trans hidle.2.2))).of_view rfl

theorem State.VerdictsSound.clearVerdict {s : State} (h : s.VerdictsSound) {sw : Nat} (hd : (s.verdict sw).d = 0) :
    (s.clearVerdict sw).VerdictsSound := by
  have hv := h.verdict sw
  have hnew : VerdictRecord.Sound { s.verdict sw with verdict := .sound, clearEnds := none, staggerEnds := none, staggerExpired := false } :=
    ⟨fun _ => hd, fun hc => (nomatch hc), fun hc => (nomatch hc), fun hc => (nomatch hc), hv.witnesses, fun hc => (nomatch hc),
      fun hc => (nomatch hc), hv.peers, hv.load⟩
  exact (h.setVerdict sw hnew).of_view rfl

theorem State.PeersSound.congr {s t : State} (h : s.PeersSound) (hpeers : t.view.peers = s.view.peers)
    (hid : t.station.id = s.station.id) : t.PeersSound :=
  ⟨by rw [hid, State.peer, hpeers]; exact h.notOwn, fun i e he => h.passed i e (by rw [State.peer, hpeers] at he; exact he)⟩

@[simp] theorem State.expireStagger_peers (s : State) (sw : Nat) :
    (s.expireStagger sw).view.peers = s.view.peers ∧ (s.expireStagger sw).view.own = s.view.own := ⟨rfl, rfl⟩

@[simp] theorem State.becomeFailing_peers (s : State) (sw : Nat) (b : Verdict) (v : VerdictRecord) :
    (s.becomeFailing sw b v).view.peers = s.view.peers ∧ (s.becomeFailing sw b v).view.own = s.view.own := by
  simp only [State.becomeFailing]
  split <;> simp [State.setVerdict]

@[simp] theorem State.recompute_peers (s : State) (sw : Nat) :
    (s.recompute sw).view.peers = s.view.peers ∧ (s.recompute sw).view.own = s.view.own := by
  simp only [State.recompute]
  (repeat' split) <;> simp [State.setVerdict]

@[simp] theorem State.recomputeThose_peers (s : State) (which : Nat → Bool) :
    (s.recomputeThose which).view.peers = s.view.peers ∧ (s.recomputeThose which).view.own = s.view.own :=
  ⟨foldl_keeps (·.view.peers) _ (by simp) _ _, foldl_keeps (·.view.own) _ (by simp) _ _⟩

@[simp] theorem State.reportCables_peers (s : State) : s.reportCables.view.peers = s.view.peers := by
  simp [State.reportCables]

@[simp] theorem State.reportCables_own (s : State) : s.reportCables.view.own = s.countAllCables := by
  simp [State.reportCables]

theorem State.VerdictsSound.recomputeThose {s : State} (h : s.VerdictsSound) (hpeers : s.PeersSound) (which : Nat → Bool) :
    (s.recomputeThose which).VerdictsSound := by
  unfold State.recomputeThose
  have hl : ∀ sw ∈ allSwitches.filter which, sw ∈ allSwitches := fun sw hm => (List.mem_filter.1 hm).1
  generalize allSwitches.filter which = l at *
  induction l generalizing s with
  | nil => exact h
  | cons sw l ih =>
    exact ih (h.recompute hpeers (hl sw (by simp))) (hpeers.congr (by simp) (by simp)) fun x hx => hl x (List.mem_cons_of_mem _ hx)

/-! ### What port and exchange operations keep of views, row bus, work list and order -/

/-- A note of a report changes the controller's phase, times and withdrawn not at all, and only a frame pending where none was (R135). -/
theorem RowBus.noteReport_eq (now : Time) (own : Vector CableCount 15) (r : RowBus) :
    (r.noteReport now own).phase = r.phase ∧ (r.noteReport now own).retryAt = r.retryAt ∧
    (r.noteReport now own).withdrawn = r.withdrawn ∧
    ((r.noteReport now own).pending = r.pending ∨ (r.pending = .none ∧ r.phase ≠ .silent ∧ (r.noteReport now own).pending = .sighting)) := by
  unfold RowBus.noteReport RowBus.pendSighting
  dsimp only
  (repeat' split) <;> simp_all

/-- The row bus's invariant under a change of the controller that leaves its phase. -/
theorem State.RowSound.congr {s t : State} (h : s.RowSound) (hphase : t.row.phase = s.row.phase) (hretry : t.row.retryAt = s.row.retryAt)
    (hwithdrawn : t.row.withdrawn = s.row.withdrawn)
    (hpending : t.row.pending = s.row.pending ∨ (s.row.pending = .none ∧ s.row.phase ≠ .silent ∧ t.row.pending = .sighting))
    (hstation : t.station = s.station) : t.RowSound := by
  refine ⟨by rw [hphase, hstation]; exact h.silent, fun hs => ?_, by rw [hretry, hphase]; exact h.retry, fun f hf => ?_,
    by rw [hwithdrawn, hstation]; exact h.withdrawn⟩
  · rcases hpending with hp | ⟨-, hne, -⟩
    · exact hp.trans (h.quiet (hphase ▸ hs))
    · exact absurd (hphase ▸ hs) hne
  · rcases hpending with hp | ⟨-, -, hp⟩
    · exact hp ▸ h.sending f (hphase ▸ hf)
    · rw [hp]; exact fun hc => (nomatch hc)

/-- The invariants of views and row bus together. -/
structure State.Viewed (s : State) : Prop where
  verdicts : s.VerdictsSound
  peers : s.PeersSound
  row : s.RowSound

theorem State.Viewed.congr {s t : State} (h : s.Viewed) (hview : t.view = s.view) (hrow : t.row = s.row) (hstation : t.station = s.station) :
    t.Viewed :=
  ⟨h.verdicts.of_view (by rw [hview]), h.peers.congr (by rw [hview]) (by rw [hstation]),
    h.row.congr (by rw [hrow]) (by rw [hrow]) (by rw [hrow]) (.inl (by rw [hrow])) hstation⟩

theorem State.Viewed.reportCables {s : State} (h : s.Viewed) : s.reportCables.Viewed := by
  refine ⟨?_, h.peers.congr (by simp) (by simp), ?_⟩
  · have hs : ({ s with view := { s.view with own := s.countAllCables } } : State).VerdictsSound := h.verdicts.of_view rfl
    have hp : ({ s with view := { s.view with own := s.countAllCables } } : State).PeersSound := h.peers.congr rfl rfl
    exact (hs.recomputeThose hp (fun sw => s.ownCount sw != bySwitch s.countAllCables ⟨0, 0⟩ sw)).of_view (by rfl)
  · have hrow : s.reportCables.row = s.row.noteReport s.timeBase s.countAllCables := by simp [State.reportCables, State.setRow]
    obtain ⟨hphase, hretry, hwithdrawn, hpending⟩ := RowBus.noteReport_eq s.timeBase s.countAllCables s.row
    exact h.row.congr (by rw [hrow, hphase]) (by rw [hrow, hretry]) (by rw [hrow, hwithdrawn]) (by rw [hrow]; exact hpending) (by simp)

/-- Between two states the views and the row bus stay sound, the work list has only been offered items, no exchange has been opened,
and the station stands. -/
structure State.Onward (s t : State) : Prop where
  offered : s.Offered t
  order : t.ex.order.Sublist s.ex.order
  viewed : s.Viewed → t.Viewed
  station : t.station = s.station
  i2c : t.i2c = s.i2c

theorem State.Onward.trans {s t u : State} (h : s.Onward t) (g : t.Onward u) : s.Onward u :=
  ⟨h.offered.trans g.offered, g.order.trans h.order, fun hs => g.viewed (h.viewed hs), g.station.trans h.station, g.i2c.trans h.i2c⟩

/-- A change of the table alone. -/
theorem State.Onward.of_eq {s t : State} (horder : t.ex.order.Sublist s.ex.order) (hfailover : t.failover = s.failover)
    (hview : t.view = s.view) (hrow : t.row = s.row) (hstation : t.station = s.station) (hi2c : t.i2c = s.i2c)
    (htime : t.timeBase = s.timeBase) : s.Onward t :=
  ⟨.of_eq hfailover htime, horder, fun h => h.congr hview hrow hstation, hstation, hi2c⟩

theorem State.Onward.refl (s : State) : s.Onward s := .of_eq (.refl _) rfl rfl rfl rfl rfl rfl

theorem State.Onward.of_offered {s t : State} (h : s.Offered t) (hex : t.ex = s.ex) (hview : t.view = s.view) (hrow : t.row = s.row)
    (hstation : t.station = s.station) (hi2c : t.i2c = s.i2c) : s.Onward t :=
  ⟨h, by rw [hex], fun hv => hv.congr hview hrow hstation, hstation, hi2c⟩

theorem State.Onward.foldl {α : Type} {f : State → α → State} {l : List α} (h : ∀ u : State, ∀ x ∈ l, u.Onward (f u x)) (s : State) :
    s.Onward (l.foldl f s) := by
  induction l generalizing s with
  | nil => exact .refl s
  | cons x l ih => exact (h s x (by simp)).trans (ih (fun u y hy => h u y (List.mem_cons_of_mem _ hy)) _)

theorem State.onward_reportCables (s : State) : s.Onward s.reportCables :=
  ⟨.of_eq (by simp) (by simp), by simp, fun h => h.reportCables, by simp, by simp⟩

theorem State.onward_announce (s : State) (p : PortId) (l : PortState) (c : PortCause) : s.Onward (s.announce p l c) :=
  State.Onward.trans (t := s.raise (.portChange p l (s.port p).state (s.port p).identity c))
    (.of_eq (.refl _) rfl rfl rfl rfl rfl rfl) (State.onward_reportCables _)

theorem State.onward_modPort (s : State) (p : PortId) (f : Port → Port) : s.Onward (s.modPort p f) :=
  .of_eq (.refl _) rfl rfl rfl rfl rfl rfl

theorem State.onward_modCell (s : State) (y : Nat) (p : PortId) (f : Cell → Cell) : s.Onward (s.modCell y p f) :=
  .of_eq (by simp) (by simp) (by simp) (by simp) (by simp) (by simp) (by simp)

theorem State.onward_detect (s : State) (p : PortId) : s.Onward (s.detect p) := by
  unfold State.detect
  split
  · exact (s.onward_modPort p _).trans (State.onward_announce _ _ _ _)
  · exact .refl s

theorem State.onward_reportIfLostness (s : State) (b : Bool) (p : PortId) : s.Onward (State.reportIfLostness b p s) := by
  unfold State.reportIfLostness
  split
  · exact s.onward_reportCables
  · exact .refl s

/-- A target with a cell that is not ABSENT is one. -/
theorem State.mem_allTargets_of_cell {s : State} {y : Nat} {p : PortId} (h : (s.cell y p).state ≠ .absent) : y ∈ allTargets := by
  unfold State.cell at h
  split at h
  next hy => exact List.mem_range'_1.2 (by omega)
  · exact absurd rfl h

theorem State.mem_allTargets_of_monitored {s : State} {y : Nat} {p : PortId} (h : s.monitored y p = true) : y ∈ allTargets := by
  simp only [State.monitored, Bool.and_eq_true, bne_iff_ne] at h
  exact State.mem_allTargets_of_cell h.1

theorem State.onward_offerCellLoss (s : State) {y : Nat} (hy : y ∈ allTargets) (p : PortId) : s.Onward (s.offerCellLoss y p) :=
  .of_offered (s.offered_cellLoss hy p) (by simp) (by simp) (by simp) (by simp) (by simp)

theorem State.onward_offerPlacement (s : State) {y : Nat} (hy : y ∈ allTargets) : s.Onward (s.offerPlacement y) :=
  .of_offered (s.offered_placement hy) (by simp) (by simp) (by simp) (by simp) (by simp)

theorem State.onward_offerPortLoss (s : State) (p : PortId) : s.Onward (s.offerPortLoss p) :=
  .of_offered (s.offered_portLoss p) (by simp) (by simp) (by simp) (by simp) (by simp)

theorem State.onward_offerIfWork (s : State) (p : PortId) : s.Onward (s.offerIfWork p) := by
  unfold State.offerIfWork
  split
  · exact s.onward_offerPortLoss p
  · exact .refl s

theorem State.onward_fallDue (s : State) (y : Nat) (p : PortId) : s.Onward (s.fallDue y p) :=
  .of_eq (by simp) (by simp) (by simp) (by simp) (by simp) (by simp) (by simp)

theorem State.onward_raiseCell (s : State) (y : Nat) (p : PortId) (l : CellState) (c : CellCause) : s.Onward (s.raiseCell y p l c) :=
  .of_eq (by simp) (by simp) (by simp) (by simp) (by simp) (by simp) (by simp)

theorem State.onward_miss (s : State) (y : Nat) (p : PortId) : s.Onward (s.miss y p) := by
  unfold State.miss
  split
  · exact .refl s
  next hmon =>
    have hy := State.mem_allTargets_of_monitored (s := s) (y := y) (p := p) (by simpa using hmon)
    dsimp only
    refine State.Onward.trans ?_ (State.onward_fallDue _ _ _)
    split
    · refine State.Onward.trans ?_ (State.onward_reportIfLostness _ _ _)
      have h3 := (s.onward_modCell y p (Cell.missed (missLimit s.config))).trans ((State.onward_modCell _ y p _).trans
        (State.onward_raiseCell ((s.modCell y p (Cell.missed (missLimit s.config))).modCell y p (fun x => { x with state := .lost })) y p
          (s.cell y p).state .misses))
      split
      · exact h3.trans (State.onward_offerCellLoss _ hy p)
      · exact h3
    · exact s.onward_modCell y p _

theorem State.onward_exchangeMiss (s : State) (y : Nat) (p : PortId) (at_ : Time) : s.Onward (s.exchangeMiss y p at_) := by
  unfold State.exchangeMiss
  split
  · exact .refl s
  · exact s.onward_miss y p

theorem State.onward_alive (s : State) (y : Nat) (p : PortId) : s.Onward (s.alive y p) := by
  unfold State.alive
  split
  · exact s.onward_modCell y p _
  · exact .refl s

theorem State.onward_offerIfHeld (s : State) {y : Nat} (hy : y ∈ allTargets) : s.Onward (s.offerIfHeld y) := by
  unfold State.offerIfHeld
  split
  · exact s.onward_offerPlacement hy
  · exact .refl s

theorem State.onward_echoState (s : State) (y : Nat) (p : PortId) : s.Onward (s.echoState y p) := by
  unfold State.echoState
  dsimp only
  split
  next hst =>
    have hy := State.mem_allTargets_of_cell (s := s) (y := y) (p := p) (by rw [hst]; exact fun hc => (nomatch hc))
    exact ((s.onward_modCell y p _).trans (State.onward_reportIfLostness _ _ p)).trans (State.onward_offerIfHeld _ hy)
  next hst =>
    have hy := State.mem_allTargets_of_cell (s := s) (y := y) (p := p) (by rw [hst]; exact fun hc => (nomatch hc))
    split
    · exact (((s.onward_modCell y p _).trans (State.onward_raiseCell _ _ _ _ _)).trans (State.onward_reportIfLostness _ _ p)).trans
        (State.onward_offerIfHeld _ hy)
    · exact s.onward_modCell y p _
  · exact .refl s

theorem State.onward_resolveEcho (s : State) (y : Nat) (p : PortId) (f : Flight) : s.Onward (s.resolveEcho y p f) :=
  ((s.onward_modCell y p _).trans (State.onward_echoState _ y p)).trans (State.onward_fallDue _ y p)

/-! #### Exchanges -/

theorem State.onward_detach (s : State) (i : Slot) : s.Onward (s.detach i) := .of_eq (.refl _) rfl rfl rfl rfl rfl rfl

theorem State.onward_modLive (s : State) (i : Slot) (f : Exchange → Exchange) : s.Onward (s.modLive i f) :=
  .of_eq (.refl _) rfl rfl rfl rfl rfl rfl

theorem State.onward_setPhase (s : State) (i : Slot) (ph : Phase) : s.Onward (s.setPhase i ph) := s.onward_modLive i _

theorem State.onward_hold (s : State) (i : Slot) (a : Action) : s.Onward (s.hold i a) := by
  unfold State.hold
  dsimp only
  have h1 := s.onward_setPhase i (.held a (s.timeBase + ms (holdLimit s.config)))
  split
  · split
    next helig =>
      obtain ⟨p, -, hp⟩ := List.any_eq_true.1 helig
      have hy := State.mem_allTargets_of_cell (by rw [((State.eligible_iff _ _ _).1 hp).2]; exact fun hc => (nomatch hc))
      exact h1.trans (State.onward_offerPlacement _ hy)
    · exact h1
  · exact h1

theorem State.onward_placeTrace (s : State) (i : Slot) (q : PortId) : s.Onward (s.placeTrace i q) :=
  .of_eq (.refl _) rfl rfl rfl rfl rfl rfl

theorem State.onward_becomeSent (s : State) (i : Slot) (q : PortId) : s.Onward (s.becomeSent i q) :=
  .of_eq (.refl _) rfl rfl rfl rfl rfl rfl

theorem State.onward_traceOrHold (s : State) (i : Slot) (y : Nat) (x : Option PortId) : s.Onward (s.traceOrHold i y x) := by
  unfold State.traceOrHold
  split
  · exact s.onward_placeTrace i _
  · exact s.onward_hold i _

theorem State.onward_leavePair (s : State) (i : Slot) (e : Exchange) : s.Onward (s.leavePair i e) :=
  .of_eq (by rw [State.leavePair_ex]; exact List.filter_sublist) (by simp) (by simp) (by simp) (by simp) (by simp) (by simp)

theorem State.onward_decideResult (s : State) (i : Slot) (status : ResultStatus) (payload : List Byte) :
    s.Onward (s.decideResult i status payload) := by
  unfold State.decideResult
  split
  · exact .refl s
  next e _ =>
    refine ((s.onward_detach i).trans (State.onward_leavePair _ i e)).trans ?_
    exact .of_eq (by rw [State.answer_ex]; rfl) (by simp) (by simp) (by simp) (by simp) (by simp) (by simp)

theorem State.onward_seekFate (s : State) (i : Slot) (x : Option PortId) : s.Onward (s.seekFate i x) := by
  unfold State.seekFate
  split
  · exact .refl s
  · split
    · exact s.onward_decideResult i _ _
    · exact s.onward_traceOrHold i _ x

theorem State.onward_unanswered (s : State) (p : PortId) (i : Slot) : s.Onward (s.unanswered p i) :=
  (s.onward_detach i).trans (State.onward_seekFate _ i _)

theorem State.onward_handBack (p : PortId) (s : State) (i : Slot) : s.Onward (State.handBack p s i) :=
  (s.onward_modLive i _).trans (State.onward_unanswered _ p i)

theorem State.onward_dueResend (s : State) (i : Slot) (e : Exchange) : s.Onward (s.dueResend i e) := by
  unfold State.dueResend
  split
  · split
    · exact s.onward_setPhase i _
    · exact s.onward_hold i _
  · exact s.onward_decideResult i _ _

theorem State.onward_takeFinding (s : State) (p : PortId) (i : Slot) (e : Exchange) (payload : List Byte) (f : Finding) :
    s.Onward (s.takeFinding p i e payload f) := by
  cases f
  · exact s.onward_decideResult i _ _
  · exact s.onward_becomeSent i p
  · exact (s.onward_modLive i _).trans (State.onward_dueResend _ i _)

theorem State.onward_placePair (s : State) (a : Word32) (y : Nat) (q : Option PortId) : s.Onward (s.placePair a y q) :=
  .of_eq (by simp) (by simp) (by simp) (by simp) (by simp) (by simp) (by simp)

theorem State.onward_returnHeld (s : State) (a : Word32) (y : Nat) (q : PortId) : s.Onward (s.returnHeld a y q) := by
  rw [State.returnHeld_eq]
  refine State.Onward.foldl (fun u i _ => ?_) s
  unfold State.returnOne
  split
  · exact u.onward_placeTrace i q
  · exact u.onward_setPhase i _
  · exact .refl u

theorem State.onward_holdWaiting (s : State) (a : Word32) (y : Nat) : s.Onward (s.holdWaiting a y) := by
  rw [State.holdWaiting_eq]
  refine State.Onward.foldl (fun u i _ => ?_) s
  unfold State.holdOne
  split
  · exact u.onward_hold i _
  · exact .refl u

theorem State.onward_replacePair (s : State) (a : Word32) (y : Nat) : s.Onward (s.replacePair a y) := by
  unfold State.replacePair
  split
  · exact (s.onward_placePair a y _).trans (State.onward_returnHeld _ a y _)
  · exact (s.onward_placePair a y _).trans (State.onward_holdWaiting _ a y)

theorem State.onward_moveSent (s : State) (p : PortId) (i : Slot) (e : Exchange) : s.Onward (s.moveSent p i e) := by
  unfold State.moveSent
  (repeat' split) <;> first
    | exact s.onward_setPhase i _
    | exact s.onward_hold i _
    | exact s.onward_decideResult i _ _
    | exact s.onward_traceOrHold i _ _
    | exact s.onward_placeTrace i _

theorem State.onward_walkOne (s : State) (p : PortId) (i : Slot) (e : Exchange) : s.Onward (s.walkOne p i e) := by
  unfold State.walkOne
  have h1 : s.Onward (if s.pairPort e.session e.target = some p ∧ !s.eligible e.target p then s.replacePair e.session e.target else s) := by
    split
    · exact s.onward_replacePair _ _
    · exact .refl s
  dsimp only
  generalize (if s.pairPort e.session e.target = some p ∧ !s.eligible e.target p then s.replacePair e.session e.target else s) = u at *
  split
  · exact h1.trans ((u.onward_detach i).trans (State.onward_moveSent _ p i e))
  · exact h1.trans (u.onward_unanswered p i)
  · exact h1

theorem State.onward_handleEntry (s : State) (p : PortId) (r : EntryRef) : s.Onward (s.handleEntry p r) := by
  unfold State.handleEntry
  (repeat' split) <;> first
    | exact .refl s
    | exact .of_eq (.refl _) rfl rfl rfl rfl rfl rfl
    | exact s.onward_replacePair _ _

theorem State.onward_handlePair (s : State) (r : EntryRef) : s.Onward (s.handlePair r) := by
  unfold State.handlePair
  (repeat' split) <;> first
    | exact .refl s
    | exact (s.onward_placePair _ _ _).trans (State.onward_returnHeld _ _ _ _)

theorem State.onward_handleHeld (s : State) (r : HeldRef) : s.Onward (s.handleHeld r) := by
  unfold State.handleHeld
  (repeat' split) <;> first
    | exact .refl s
    | exact s.onward_placeTrace _ _
    | exact s.onward_setPhase _ _

/-! #### Ports -/

theorem State.onward_dropLink (s : State) (p : PortId) (st : PortState) : s.Onward (s.dropLink p st) := by
  have h1 : s.Onward (s.cutLink p st) := .of_eq (by simp) (by simp) (by simp) (by simp) (by simp) (by simp) (by simp)
  exact (h1.trans (State.Onward.foldl (fun u i _ => u.onward_handBack p i) _)).trans (State.onward_offerPortLoss _ p)

theorem State.onward_loseLink (s : State) (p : PortId) (c : PortCause) : s.Onward (s.loseLink p c) :=
  ((s.onward_dropLink p .down).trans (State.onward_announce _ _ _ _)).trans (State.onward_detect _ p)

theorem State.onward_takeDamaged (s : State) (p : PortId) : s.Onward (s.takeDamaged p) := by
  unfold State.takeDamaged
  dsimp only
  split
  · split
    · exact (s.onward_modPort p _).trans (State.onward_loseLink _ p _)
    · exact (s.onward_modPort p _).trans (State.onward_modPort _ p _)
  · exact .refl s

theorem State.onward_comeUp (s : State) (p : PortId) (a b : Byte) (l : BitVec 64) : s.Onward (s.comeUp p a b l) := by
  unfold State.comeUp
  refine State.Onward.trans ?_ (State.onward_announce _ _ _ _)
  exact .of_eq (by simp) (by simp) (by simp) (by simp) (by simp) (by simp) (by simp)

theorem State.onward_takeReach (s : State) (p : PortId) (new : List Nat) : s.Onward (s.takeReach p new) := by
  unfold State.takeReach
  refine ((s.onward_modPort p _).trans (State.Onward.foldl (fun u y hy => ?_) _)).trans (State.onward_reportIfLostness _ _ p)
  unfold State.reachTarget
  dsimp only
  split
  · exact .of_eq (by simp) (by simp) (by simp) (by simp) (by simp) (by simp) (by simp)
  · split
    · have h1 : u.Onward (u.enterAbsent y p) := .of_eq (by simp) (by simp) (by simp) (by simp) (by simp) (by simp) (by simp)
      have h2 : u.Onward (if (u.cell y p).state = .absent then u.enterAbsent y p
          else (u.enterAbsent y p).raiseCell y p (u.cell y p).state .dropped) := by
        split
        · exact h1
        · exact h1.trans (State.onward_raiseCell _ _ _ _ _)
      split
      · exact h2.trans (State.onward_offerCellLoss _ hy p)
      · exact h2
    · exact .refl u

theorem State.onward_resetPort (s : State) (p : PortId) : s.Onward (s.resetPort p) := by
  unfold State.resetPort
  dsimp only
  split
  · exact ((s.onward_dropLink p _).trans (State.onward_modPort _ p _)).trans (State.onward_announce _ _ _ _)
  · exact ((s.onward_dropLink p _).trans (State.onward_modPort _ p _)).trans (State.onward_announce _ _ _ _)
  · exact ((s.onward_modPort p _).trans (State.onward_offerIfWork _ p)).trans (State.onward_announce _ _ _ _)
  · exact ((s.onward_modPort p _).trans (State.onward_offerIfWork _ p)).trans (State.onward_announce _ _ _ _)
  · exact ((s.onward_modPort p _).trans (State.onward_offerIfWork _ p)).trans (State.onward_announce _ _ _ _)
  · exact s.onward_modPort p _

theorem State.onward_portOff (s : State) (p : PortId) : s.Onward (s.portOff p) := by
  unfold State.portOff
  dsimp only
  split
  · exact ((s.onward_dropLink p _).trans (State.onward_modPort _ p _)).trans (State.onward_announce _ _ _ _)
  · exact ((s.onward_dropLink p _).trans (State.onward_modPort _ p _)).trans (State.onward_announce _ _ _ _)
  · exact ((s.onward_modPort p _).trans (State.onward_offerIfWork _ p)).trans (State.onward_announce _ _ _ _)
  · exact ((s.onward_modPort p _).trans (State.onward_offerIfWork _ p)).trans (State.onward_announce _ _ _ _)
  · exact ((s.onward_modPort p _).trans (State.onward_offerIfWork _ p)).trans (State.onward_announce _ _ _ _)
  · exact .refl s

theorem State.onward_drain (s : State) (p : PortId) : s.Onward (s.drain p) :=
  ((s.onward_dropLink p _).trans (State.onward_modPort _ p _)).trans (State.onward_announce _ _ _ _)

theorem State.onward_mapEntries (s : State) (f : Entry → Entry) : s.Onward (s.mapEntries f) := .of_eq (.refl _) rfl rfl rfl rfl rfl rfl

theorem State.onward_quiesce (s : State) (p : PortId) : s.Onward (s.quiesce p) := by
  unfold State.quiesce
  dsimp only
  have h1 := ((s.onward_modPort p (fun x => { x with state := .quiescing })).trans (State.onward_mapEntries _
    (fun e => if e.port = some p then { e with quiesceMark := true } else e))).trans (State.onward_announce _ p .up .quiesceRequested)
  split
  · exact h1.trans (State.onward_drain _ p)
  · exact h1

theorem State.onward_resume (s : State) (p : PortId) : s.Onward (s.resume p) := by
  unfold State.resume
  dsimp only
  have h1 := ((s.onward_modPort p (fun x => { x with state := .up })).trans (State.onward_mapEntries _
    (fun e => if e.port = some p then { e with quiesceMark := false } else e))).trans (State.onward_announce _ p .quiescing .onRequested)
  exact h1.trans (State.Onward.foldl (fun u y hy => u.onward_offerPlacement (List.mem_filter.1 hy).1) _)

theorem State.onward_switchOn (s : State) (p : PortId) : s.Onward (s.switchOn p) :=
  ((s.onward_modPort p _).trans (State.onward_announce _ _ _ _)).trans (State.onward_detect _ p)

theorem State.onward_drainEmptied (before s : State) : s.Onward (before.drainEmptied s) := by
  refine State.Onward.foldl (fun u p _ => ?_) s
  split
  · exact u.onward_drain p
  · exact .refl u

theorem State.onward_flush (s : State) : s.Onward s.flush := .of_eq (.refl _) rfl rfl rfl rfl rfl rfl

theorem State.onward_close (s : State) : s.Onward s.close := .of_eq (.refl _) rfl rfl rfl rfl rfl rfl

theorem State.onward_closeFrom (before s : State) : s.Onward (before.closeFrom s) :=
  (State.onward_drainEmptied before s).trans (State.onward_close _)

theorem State.onward_heard (s : State) (p : PortId) : s.Onward (s.heard p) :=
  .of_eq (by simp) (by simp) (by simp) (by simp) (by simp) (by simp) (by simp)

theorem State.onward_finishLoss (s : State) (scope : LossScope) : (s.setCurrent none).Onward (s.finishLoss scope) := by
  unfold State.finishLoss
  dsimp only
  split
  · exact .refl _
  · split
    · exact State.Onward.foldl (fun u y hy => u.onward_offerCellLoss (List.mem_filter.1 hy).1 _) _
    · exact .refl _

end Sys2Proof.Machine

namespace Sys2Proof.Machine
open Sys2Proof

/-! ### Ports but for their pending traces -/

/-- The record of a port without its pending traces, which the exchange operations change. -/
def baresOf (ports : Vector Port 4) (p : PortId) : Port := { ports[p] with pendingTraces := [] }

theorem baresOf_eq (s : State) (p : PortId) : baresOf s.ports p = { s.port p with pendingTraces := [] } := rfl

@[simp] theorem State.detach_baresOf (s : State) (i : Slot) : baresOf (s.detach i).ports = baresOf s.ports := by
  funext p
  rw [baresOf_eq, baresOf_eq, State.port_detach]

@[simp] theorem State.placeTrace_baresOf (s : State) (i : Slot) (q : PortId) : baresOf (s.placeTrace i q).ports = baresOf s.ports := by
  funext p
  unfold State.placeTrace
  dsimp only
  rw [baresOf_eq, baresOf_eq, State.port_modPort]
  split
  next h => subst h; rfl
  · rfl

@[simp] theorem State.traceOrHold_baresOf (s : State) (i : Slot) (y : Nat) (x : Option PortId) :
    baresOf (s.traceOrHold i y x).ports = baresOf s.ports := by
  unfold State.traceOrHold
  split <;> simp

@[simp] theorem State.decideResult_baresOf (s : State) (i : Slot) (status : ResultStatus) (payload : List Byte) :
    baresOf (s.decideResult i status payload).ports = baresOf s.ports := by
  unfold State.decideResult
  split <;> simp

@[simp] theorem State.seekFate_baresOf (s : State) (i : Slot) (x : Option PortId) : baresOf (s.seekFate i x).ports = baresOf s.ports := by
  unfold State.seekFate
  split
  · rfl
  · split <;> simp

@[simp] theorem State.unanswered_baresOf (s : State) (p : PortId) (i : Slot) : baresOf (s.unanswered p i).ports = baresOf s.ports := by
  simp [State.unanswered]

@[simp] theorem State.handBack_baresOf (s : State) (p : PortId) (i : Slot) : baresOf (State.handBack p s i).ports = baresOf s.ports := by
  simp [State.handBack]

@[simp] theorem State.dueResend_baresOf (s : State) (i : Slot) (e : Exchange) : baresOf (s.dueResend i e).ports = baresOf s.ports := by
  unfold State.dueResend
  (repeat' split) <;> simp

@[simp] theorem State.becomeSent_baresOf (s : State) (i : Slot) (p : PortId) : baresOf (s.becomeSent i p).ports = baresOf s.ports := rfl

@[simp] theorem State.takeFinding_baresOf (s : State) (p : PortId) (i : Slot) (e : Exchange) (l : List Byte) (f : Finding) :
    baresOf (s.takeFinding p i e l f).ports = baresOf s.ports := by
  cases f <;> simp [State.takeFinding]

@[simp] theorem State.returnHeld_baresOf (s : State) (a : Word32) (y : Nat) (q : PortId) :
    baresOf (s.returnHeld a y q).ports = baresOf s.ports := by
  rw [State.returnHeld_eq]
  refine foldl_keeps (fun u => baresOf u.ports) _ (fun u i => ?_) _ _
  unfold State.returnOne
  split <;> simp

@[simp] theorem State.replacePair_baresOf (s : State) (a : Word32) (y : Nat) : baresOf (s.replacePair a y).ports = baresOf s.ports := by
  unfold State.replacePair
  split <;> simp

@[simp] theorem State.moveSent_baresOf (s : State) (p : PortId) (i : Slot) (e : Exchange) :
    baresOf (s.moveSent p i e).ports = baresOf s.ports := by
  unfold State.moveSent
  (repeat' split) <;> simp

@[simp] theorem State.walkOne_baresOf (s : State) (p : PortId) (i : Slot) (e : Exchange) :
    baresOf (s.walkOne p i e).ports = baresOf s.ports := by
  unfold State.walkOne
  dsimp only
  (repeat' split) <;> simp

@[simp] theorem State.handleEntry_baresOf (s : State) (p : PortId) (r : EntryRef) : baresOf (s.handleEntry p r).ports = baresOf s.ports := by
  unfold State.handleEntry
  (repeat' split) <;> simp

@[simp] theorem State.handlePair_baresOf (s : State) (r : EntryRef) : baresOf (s.handlePair r).ports = baresOf s.ports := by
  unfold State.handlePair
  (repeat' split) <;> simp

@[simp] theorem State.handleHeld_baresOf (s : State) (r : HeldRef) : baresOf (s.handleHeld r).ports = baresOf s.ports := by
  unfold State.handleHeld
  (repeat' split) <;> simp

/-! ### This station's own counts (R142) -/

/-- What a cable rests on beside the cells: its switch and the state of its port. -/
def facesOf (ports : Vector Port 4) (p : PortId) : Option Nat × PortState := (ports[p].identity, ports[p].state)

theorem facesOf_eq (s : State) (p : PortId) : facesOf s.ports p = ((s.port p).identity, (s.port p).state) := rfl

theorem facesOf_of_bares {x y : Vector Port 4} (h : baresOf x = baresOf y) : facesOf x = facesOf y := by
  funext p
  have hp := congrFun h p
  exact Prod.ext (congrArg Port.identity hp :) (congrArg Port.state hp :)

theorem State.facesOf_modPort (s : State) (p : PortId) (f : Port → Port) (hidentity : (f (s.port p)).identity = (s.port p).identity)
    (hstate : (f (s.port p)).state = (s.port p).state) : facesOf (s.modPort p f).ports = facesOf s.ports := by
  funext q
  rw [facesOf_eq, facesOf_eq, State.port_modPort]
  split
  next h => subst h; rw [hidentity, hstate]
  · rfl

@[simp] theorem State.joinProbe_facesOf (s : State) (y : Nat) (p : PortId) : facesOf (s.joinProbe y p).ports = facesOf s.ports := by
  unfold State.joinProbe
  rw [State.facesOf_modPort]
  · simp
  · split <;> rfl
  · split <;> rfl

@[simp] theorem State.fallDue_facesOf (s : State) (y : Nat) (p : PortId) : facesOf (s.fallDue y p).ports = facesOf s.ports := by
  unfold State.fallDue
  split <;> simp

@[simp] theorem State.enterUntested_facesOf (s : State) (y : Nat) (p : PortId) : facesOf (s.enterUntested y p).ports = facesOf s.ports := by
  simp [State.enterUntested]

@[simp] theorem State.enterAbsent_facesOf (s : State) (y : Nat) (p : PortId) : facesOf (s.enterAbsent y p).ports = facesOf s.ports := by
  unfold State.enterAbsent
  rw [State.facesOf_modPort _ _ _ rfl rfl]
  simp

@[simp] theorem State.heard_facesOf (s : State) (p : PortId) : facesOf (s.heard p).ports = facesOf s.ports := by
  unfold State.heard
  split
  · exact s.facesOf_modPort p _ rfl rfl
  · rfl

@[simp] theorem State.transmit_facesOf (s : State) (p : PortId) (f : FabricFrame) : facesOf (s.transmit p f).ports = facesOf s.ports :=
  s.facesOf_modPort p _ rfl rfl

@[simp] theorem State.reachTarget_facesOf (s : State) (p : PortId) (old new : List Nat) (y : Nat) :
    facesOf (State.reachTarget p old new s y).ports = facesOf s.ports := by
  unfold State.reachTarget
  dsimp only
  (repeat' split) <;> simp

@[simp] theorem State.fallDueAll_facesOf (s : State) : facesOf s.fallDueAll.ports = facesOf s.ports :=
  foldl_keeps (fun u => facesOf u.ports) _ (fun u y => foldl_keeps (fun v => facesOf v.ports) _ (by simp) _ _) _ _

/-- The states of the cells. -/
def cellStatesOf (routes : Vector Cell 252) (y : Nat) (p : PortId) : CellState :=
  if h : 1 ≤ y ∧ y ≤ 63 then (routes[(y - 1) * 4 + p.val]'(cellIndex_lt h p)).state else .absent

theorem cellStatesOf_eq (s : State) (y : Nat) (p : PortId) : cellStatesOf s.routes y p = (s.cell y p).state := by
  unfold cellStatesOf State.cell
  split <;> rfl

/-- What a change of one cell leaves of any. -/
theorem State.cell_modCell (s : State) (y z : Nat) (p q : PortId) (f : Cell → Cell) (hy : y ∈ allTargets) :
    (s.modCell y p f).cell z q = if y = z ∧ p = q then f (s.cell y p) else s.cell z q :=
  s.cell_setCell y z p q _ (by have := List.mem_range'_1.1 hy; omega)

/-- A number that is no target has no cell to change. -/
theorem State.modCell_of_not_mem (s : State) {y : Nat} (p : PortId) (f : Cell → Cell) (hy : y ∉ allTargets) : s.modCell y p f = s := by
  unfold State.modCell State.setCell
  rw [dif_neg]
  intro h
  exact hy (List.mem_range'_1.2 (by omega))

theorem State.cellStatesOf_modCell (s : State) (y : Nat) (p : PortId) (f : Cell → Cell) (hf : (f (s.cell y p)).state = (s.cell y p).state) :
    cellStatesOf (s.modCell y p f).routes = cellStatesOf s.routes := by
  by_cases hy : y ∈ allTargets
  · funext z q
    rw [cellStatesOf_eq, cellStatesOf_eq, State.cell_modCell _ _ _ _ _ _ hy]
    split
    next h => rw [hf, h.1, h.2]
    · rfl
  · rw [s.modCell_of_not_mem p f hy]

@[simp] theorem State.joinProbe_cellStatesOf (s : State) (y : Nat) (p : PortId) :
    cellStatesOf (s.joinProbe y p).routes = cellStatesOf s.routes := by
  unfold State.joinProbe
  rw [State.modPort_routes, State.cellStatesOf_modCell]
  rfl

@[simp] theorem State.fallDue_cellStatesOf (s : State) (y : Nat) (p : PortId) :
    cellStatesOf (s.fallDue y p).routes = cellStatesOf s.routes := by
  unfold State.fallDue
  split <;> simp

@[simp] theorem State.fallDueAll_cellStatesOf (s : State) : cellStatesOf s.fallDueAll.routes = cellStatesOf s.routes :=
  foldl_keeps (fun u => cellStatesOf u.routes) _ (fun u y => foldl_keeps (fun v => cellStatesOf v.routes) _ (by simp) _ _) _ _

@[simp] theorem State.alive_cellStatesOf (s : State) (y : Nat) (p : PortId) : cellStatesOf (s.alive y p).routes = cellStatesOf s.routes := by
  unfold State.alive
  split
  · exact s.cellStatesOf_modCell y p _ rfl
  · rfl

/-- Whether all cells of a port are LOST rests on the states of its cells. -/
theorem State.allCellsLost_congr {s t : State} {p : PortId} (h : ∀ y, (t.cell y p).state = (s.cell y p).state) :
    t.allCellsLost p = s.allCellsLost p := by
  simp only [State.allCellsLost, h]

theorem State.countCables_congr {s t : State} (hfaces : facesOf t.ports = facesOf s.ports)
    (hlost : ∀ p, (s.port p).state = .up → t.allCellsLost p = s.allCellsLost p) (sw : Nat) : t.countCables sw = s.countCables sw := by
  have hidentity : ∀ p, (t.port p).identity = (s.port p).identity := fun p => congrArg Prod.fst (congrFun hfaces p)
  have hstate : ∀ p, (t.port p).state = (s.port p).state := fun p => congrArg Prod.snd (congrFun hfaces p)
  have hcable : ∀ p, t.isCable sw p = s.isCable sw p := fun p => by simp only [State.isCable, hidentity, hstate]
  have hcableLost : ∀ p, t.cableLost p = s.cableLost p := fun p => by
    simp only [State.cableLost, hstate]
    by_cases hup : (s.port p).state = .up
    · rw [hlost p hup]
    · rw [beq_eq_false_iff_ne.2 hup, Bool.false_and, Bool.false_and]
  rw [State.countCables, State.countCables, funext hcable, funext hcableLost]

theorem State.ownCount_congr {s t : State} (h : t.view.own = s.view.own) (sw : Nat) : t.ownCount sw = s.ownCount sw := by
  simp only [State.ownCount, h]

theorem State.OwnCounted.congr {s t : State} (h : s.OwnCounted) (hown : t.view.own = s.view.own) (hfaces : facesOf t.ports = facesOf s.ports)
    (hlost : ∀ p, (s.port p).state = .up → t.allCellsLost p = s.allCellsLost p) : t.OwnCounted := fun sw hsw => by
  rw [State.ownCount_congr hown, State.countCables_congr hfaces hlost]
  exact h sw hsw

/-- The states of the cells as they were. -/
theorem State.OwnCounted.of_states {s t : State} (h : s.OwnCounted) (hown : t.view.own = s.view.own)
    (hfaces : facesOf t.ports = facesOf s.ports) (hcells : cellStatesOf t.routes = cellStatesOf s.routes) : t.OwnCounted :=
  h.congr hown hfaces fun p _ => State.allCellsLost_congr fun y => by rw [← cellStatesOf_eq, hcells, cellStatesOf_eq]

/-- A change of the table alone. -/
theorem State.OwnCounted.of_bares {s t : State} (h : s.OwnCounted) (hbares : baresOf t.ports = baresOf s.ports)
    (hroutes : t.routes = s.routes) (hview : t.view = s.view) : t.OwnCounted :=
  h.of_states (by rw [hview]) (facesOf_of_bares hbares) (by rw [hroutes])

/-- A report counts the cables afresh (R142). -/
theorem State.ownCounted_reportCables (s : State) : s.reportCables.OwnCounted := fun sw hsw => by
  have hrange : 1 ≤ sw ∧ sw ≤ 15 := by
    have := List.mem_range'_1.1 hsw
    omega
  rw [State.countCables_congr (s := s) (by simp) fun p _ => State.allCellsLost_congr fun y => by
    rw [← cellStatesOf_eq, ← cellStatesOf_eq]; simp]
  rw [State.ownCount, State.reportCables_own, bySwitch, dif_pos hrange]
  simp only [State.countAllCables, Vector.getElem_ofFn]
  rw [Nat.sub_add_cancel hrange.1]

theorem State.ownCounted_announce (s : State) (p : PortId) (l : PortState) (c : PortCause) : (s.announce p l c).OwnCounted :=
  State.ownCounted_reportCables _

theorem State.OwnCounted.detect {s : State} (h : s.OwnCounted) (p : PortId) : (s.detect p).OwnCounted := by
  unfold State.detect
  split
  · exact State.ownCounted_announce _ _ _ _
  · exact h

/-- A change to the cells of one port, with the report of a lost cable (R90). -/
theorem State.OwnCounted.reportIfLostness {s u : State} (h : s.OwnCounted) (p : PortId) (hown : u.view.own = s.view.own)
    (hfaces : facesOf u.ports = facesOf s.ports) (hothers : ∀ q, q ≠ p → ∀ y, (u.cell y q).state = (s.cell y q).state) :
    (State.reportIfLostness (s.allCellsLost p) p u).OwnCounted := by
  unfold State.reportIfLostness
  split
  · exact State.ownCounted_reportCables _
  next hno =>
    refine h.congr hown hfaces fun q hq => ?_
    by_cases hqp : q = p
    · subst hqp
      have hup : (u.port q).state = .up := (congrArg Prod.snd (congrFun hfaces q)).trans hq
      by_contra hne
      exact hno ⟨hup, hne⟩
    · exact State.allCellsLost_congr (hothers q hqp)

theorem State.cell_congr {s t : State} (h : t.routes = s.routes) : t.cell = s.cell := by
  funext y p
  simp only [State.cell, h]

theorem State.cell_raiseCell (s : State) (y : Nat) (p : PortId) (l : CellState) (c : CellCause) : (s.raiseCell y p l c).cell = s.cell :=
  State.cell_congr (by simp)

/-- A change of a cell of another port leaves a port's cells. -/
theorem State.cell_modCell_other (s : State) (y z : Nat) {p q : PortId} (hq : q ≠ p) (f : Cell → Cell) :
    (s.modCell y p f).cell z q = s.cell z q := by
  by_cases hy : y ∈ allTargets
  · rw [State.cell_modCell _ _ _ _ _ _ hy, if_neg fun h => hq h.2.symm]
  · rw [s.modCell_of_not_mem p f hy]

theorem State.OwnCounted.miss {s : State} (h : s.OwnCounted) (y : Nat) (p : PortId) : (s.miss y p).OwnCounted := by
  unfold State.miss
  split
  · exact h
  · dsimp only
    refine State.OwnCounted.of_states ?_ (by simp) (State.fallDue_facesOf _ y p) (State.fallDue_cellStatesOf _ y p)
    split
    · refine h.reportIfLostness p (by split <;> simp) (by split <;> simp) fun q hq z => ?_
      have hcell : ∀ {u : State}, u.routes = ((s.modCell y p (Cell.missed (missLimit s.config))).modCell y p
          (fun x => { x with state := .lost })).routes → (u.cell z q).state = (s.cell z q).state := fun hu => by
        rw [State.cell_congr hu, State.cell_modCell_other _ _ _ hq, State.cell_modCell_other _ _ _ hq]
      split <;> exact hcell (by simp)
    · exact h.of_states (by simp) (by simp) (s.cellStatesOf_modCell y p _ rfl)

theorem State.OwnCounted.exchangeMiss {s : State} (h : s.OwnCounted) (y : Nat) (p : PortId) (at_ : Time) :
    (s.exchangeMiss y p at_).OwnCounted := by
  unfold State.exchangeMiss
  split
  · exact h
  · exact h.miss y p

theorem State.OwnCounted.echoState {s : State} (h : s.OwnCounted) (y : Nat) (p : PortId) : (s.echoState y p).OwnCounted := by
  unfold State.echoState
  dsimp only
  have hoffer : ∀ {u : State}, u.OwnCounted → (u.offerIfHeld y).OwnCounted := fun hu => hu.of_states (by simp) (by simp) (by simp)
  split
  · refine hoffer (h.reportIfLostness p (by simp) (by simp) fun q hq z => ?_)
    rw [State.cell_modCell_other _ _ _ hq]
  · split
    · refine hoffer (h.reportIfLostness p (by simp) (by simp) fun q hq z => ?_)
      rw [State.cell_raiseCell, State.cell_modCell_other _ _ _ hq]
    · exact h.of_states (by simp) (by simp) (s.cellStatesOf_modCell y p _ rfl)
  · exact h

theorem State.OwnCounted.resolveEcho {s : State} (h : s.OwnCounted) (y : Nat) (p : PortId) (f : Flight) : (s.resolveEcho y p f).OwnCounted := by
  have h1 : (s.modCell y p (Cell.echoed s.config (elapsed s.timeBase f.sentAt))).OwnCounted := by
    refine h.of_states (by simp) (by simp) (s.cellStatesOf_modCell y p _ ?_)
    unfold Cell.echoed
    (repeat' split) <;> rfl
  unfold State.resolveEcho
  exact (h1.echoState y p).of_states (by simp) (State.fallDue_facesOf _ y p) (State.fallDue_cellStatesOf _ y p)

theorem State.ownCounted_loseLink (s : State) (p : PortId) (c : PortCause) : (s.loseLink p c).OwnCounted :=
  State.OwnCounted.detect (State.ownCounted_announce _ _ _ _) p

theorem State.OwnCounted.modPort {s : State} (h : s.OwnCounted) (p : PortId) (f : Port → Port)
    (hidentity : (f (s.port p)).identity = (s.port p).identity) (hstate : (f (s.port p)).state = (s.port p).state) :
    (s.modPort p f).OwnCounted := h.of_states rfl (s.facesOf_modPort p f hidentity hstate) rfl

theorem State.OwnCounted.takeDamaged {s : State} (h : s.OwnCounted) (p : PortId) : (s.takeDamaged p).OwnCounted := by
  unfold State.takeDamaged
  dsimp only
  split
  · split
    · exact State.ownCounted_loseLink _ p _
    · exact (h.modPort p _ rfl rfl).modPort p _ rfl rfl
  · exact h

theorem State.ownCounted_comeUp (s : State) (p : PortId) (a b : Byte) (l : BitVec 64) : (s.comeUp p a b l).OwnCounted :=
  State.ownCounted_announce _ _ _ _

theorem State.cell_joinProbe_other (s : State) (y z : Nat) {p q : PortId} (hq : q ≠ p) : (s.joinProbe y p).cell z q = s.cell z q := by
  unfold State.joinProbe
  rw [State.cell_congr (State.modPort_routes _ _ _), State.cell_modCell_other _ _ _ hq]

theorem State.cell_enterUntested_other (s : State) (y z : Nat) {p q : PortId} (hq : q ≠ p) :
    (s.enterUntested y p).cell z q = s.cell z q := by
  unfold State.enterUntested
  rw [State.cell_joinProbe_other _ _ _ hq, State.cell_modCell_other _ _ _ hq]

theorem State.cell_enterAbsent_other (s : State) (y z : Nat) {p q : PortId} (hq : q ≠ p) :
    (s.enterAbsent y p).cell z q = s.cell z q := by
  unfold State.enterAbsent
  rw [State.cell_congr (State.modPort_routes _ _ _), State.cell_modCell_other _ _ _ hq]

theorem State.reachTarget_routes (s : State) (p : PortId) (old new : List Nat) (y : Nat) : (State.reachTarget p old new s y).routes =
    if new.contains y && !old.contains y then (s.enterUntested y p).routes
    else if old.contains y && !new.contains y then (s.enterAbsent y p).routes else s.routes := by
  unfold State.reachTarget
  dsimp only
  (repeat' split) <;> simp

theorem State.cell_reachTarget_other (s : State) (y z : Nat) {p q : PortId} (hq : q ≠ p) (old new : List Nat) :
    (State.reachTarget p old new s y).cell z q = s.cell z q := by
  have hr := s.reachTarget_routes p old new y
  split at hr
  · rw [State.cell_congr hr, State.cell_enterUntested_other _ _ _ hq]
  · split at hr
    · rw [State.cell_congr hr, State.cell_enterAbsent_other _ _ _ hq]
    · rw [State.cell_congr hr]

theorem State.OwnCounted.takeReach {s : State} (h : s.OwnCounted) (p : PortId) (new : List Nat) : (s.takeReach p new).OwnCounted := by
  unfold State.takeReach
  dsimp only
  refine h.reportIfLostness p ?_ ?_ fun q hq z => ?_
  · rw [foldl_keeps (·.view.own) _ (by simp)]; rfl
  · rw [foldl_keeps (fun u => facesOf u.ports) _ (by simp)]
    exact s.facesOf_modPort p _ rfl rfl
  · have hkeep := foldl_keeps (fun u => (u.cell z q).state) (State.reachTarget p (s.port p).reach new)
      (fun u y => by rw [State.cell_reachTarget_other _ _ _ hq]) allTargets (s.modPort p (fun x => { x with reach := new }))
    exact hkeep.trans (by rw [State.cell_congr (State.modPort_routes _ _ _)])

theorem State.OwnCounted.resetPort {s : State} (h : s.OwnCounted) (p : PortId) : (s.resetPort p).OwnCounted := by
  unfold State.resetPort
  dsimp only
  split
  case h_6 hst => exact h.modPort p _ rfl hst.symm
  all_goals exact State.ownCounted_announce _ _ _ _

theorem State.OwnCounted.portOff {s : State} (h : s.OwnCounted) (p : PortId) : (s.portOff p).OwnCounted := by
  unfold State.portOff
  dsimp only
  split
  case h_6 => exact h
  all_goals exact State.ownCounted_announce _ _ _ _

theorem State.ownCounted_drain (s : State) (p : PortId) : (s.drain p).OwnCounted := State.ownCounted_announce _ _ _ _

theorem State.ownCounted_quiesce (s : State) (p : PortId) : (s.quiesce p).OwnCounted := by
  unfold State.quiesce
  dsimp only
  split
  · exact State.ownCounted_drain _ p
  · exact State.ownCounted_announce _ _ _ _

theorem State.ownCounted_resume (s : State) (p : PortId) : (s.resume p).OwnCounted := by
  unfold State.resume
  dsimp only
  have h1 := State.ownCounted_announce ((s.modPort p (fun x => { x with state := .up })).clearQuiesceMarks p) p .quiescing .onRequested
  refine h1.of_states ?_ ?_ ?_
  · exact foldl_keeps (·.view.own) _ (by simp) _ _
  · exact foldl_keeps (fun u => facesOf u.ports) _ (by simp) _ _
  · exact foldl_keeps (fun u => cellStatesOf u.routes) _ (by simp) _ _

theorem State.ownCounted_switchOn (s : State) (p : PortId) : (s.switchOn p).OwnCounted :=
  State.OwnCounted.detect (State.ownCounted_announce _ _ _ _) p

theorem State.OwnCounted.drainEmptied {s : State} (h : s.OwnCounted) (before : State) : (before.drainEmptied s).OwnCounted := by
  unfold State.drainEmptied
  generalize allPorts = l
  induction l generalizing s with
  | nil => exact h
  | cons p l ih =>
    refine ih ?_
    dsimp only
    split
    · exact State.ownCounted_drain _ p
    · exact h

theorem State.OwnCounted.close {s : State} (h : s.OwnCounted) : s.close.OwnCounted := h.of_states rfl rfl rfl

theorem State.OwnCounted.closeFrom {s : State} (h : s.OwnCounted) (before : State) : (before.closeFrom s).OwnCounted :=
  (h.drainEmptied before).close

end Sys2Proof.Machine

namespace Sys2Proof.Machine
open Sys2Proof

/-! ### O58: the invariants together -/

/-- Views, row bus, work list and station are sound. -/
structure State.Settled (s : State) : Prop where
  viewed : s.Viewed
  work : s.WorkSound
  station : s.StationSound

/-- The station's record and the transaction stand, and no exchange has been opened. -/
theorem State.StationSound.congr {s t : State} (h : s.StationSound) (hstation : t.station = s.station) (hi2c : t.i2c = s.i2c)
    (horder : t.ex.order.Sublist s.ex.order) : t.StationSound := by
  obtain ⟨locked, outcome, noOpen, pin, load, transaction⟩ := h
  refine ⟨hstation ▸ locked, hstation ▸ outcome, fun hs => ?_, hstation ▸ pin, hstation ▸ load, by rw [hi2c, hstation]; exact transaction⟩
  rw [hstation] at hs
  have hnil := noOpen hs
  rw [hnil] at horder
  exact List.eq_nil_of_sublist_nil horder

theorem State.Onward.settled {s t : State} (h : s.Onward t) (hs : s.Settled) : t.Settled :=
  ⟨h.viewed hs.viewed, h.offered.sound hs.work, hs.station.congr h.station h.i2c h.order⟩

/-- The part's invariants on views, work list, row bus and station, with this station's own counts. -/
structure State.Housed (s : State) : Prop extends s.Settled where
  own : s.OwnCounted

theorem State.Sound.housed {s : State} (h : s.Sound) : s.Housed := ⟨⟨⟨h.verdicts, h.peers, h.row⟩, h.work, h.station⟩, h.own⟩

theorem State.Housed.onward {s t : State} (h : s.Housed) (ho : s.Onward t) (hown : t.OwnCounted) : t.Housed := ⟨ho.settled h.toSettled, hown⟩

theorem State.Housed.close {s : State} (h : s.Housed) : s.close.Housed := h.onward s.onward_close h.own.close

theorem State.Housed.closeFrom {s : State} (h : s.Housed) (before : State) : (before.closeFrom s).Housed :=
  h.onward (State.onward_closeFrom before s) (h.own.closeFrom before)

/-- A change that onward operations on the table make. -/
theorem State.Housed.table {s t : State} (h : s.Housed) (ho : s.Onward t) (hbares : baresOf t.ports = baresOf s.ports)
    (hroutes : t.routes = s.routes) (hview : t.view = s.view) : t.Housed :=
  h.onward ho (h.own.of_bares hbares hroutes hview)

/-- Only the host link, the cache and the raised notices, the configuration, a port's record but for its face, or cells but for
their states differ. -/
theorem State.Housed.aside {s t : State} (h : s.Housed) (horder : t.ex.order.Sublist s.ex.order) (hfailover : t.failover = s.failover)
    (hview : t.view = s.view) (hrow : t.row = s.row) (hstation : t.station = s.station) (hi2c : t.i2c = s.i2c)
    (htime : t.timeBase = s.timeBase) (hfaces : facesOf t.ports = facesOf s.ports)
    (hcells : cellStatesOf t.routes = cellStatesOf s.routes) : t.Housed :=
  h.onward (.of_eq horder hfailover hview hrow hstation hi2c htime) (h.own.of_states (by rw [hview]) hfaces hcells)

theorem housed_linkFree : LinkFree State.Housed := fun _ _ h => h.aside (.refl _) rfl rfl rfl rfl rfl rfl rfl rfl

/-! #### The row bus -/

section
variable {s : State} {r : RowBus}

theorem State.Housed.setRow (h : s.Housed) (hr : (s.setRow r).RowSound) : (s.setRow r).Housed :=
  ⟨⟨⟨h.viewed.verdicts.of_view rfl, h.viewed.peers.congr rfl rfl, hr⟩, by obtain ⟨⟩ := h.work; constructor <;> assumption,
    h.station.congr rfl rfl (.refl _)⟩, h.own.of_states rfl rfl rfl⟩

/-- A controller that does not send: WAITING outside LOADING with no retry time. -/
theorem State.RowSound.waiting (h : s.RowSound) (hup : s.station.state ≠ .loading) (hphase : r.phase = .waiting) (hretry : r.retryAt = none)
    (hwithdrawn : r.withdrawn = s.row.withdrawn) : (s.setRow r).RowSound where
  silent := iff_of_false (fun hc => nomatch hphase.symm.trans hc) hup
  quiet hc := nomatch hphase.symm.trans hc
  retry := by change r.retryAt.isSome = (r.phase == .driveRetry); rw [hphase, hretry]; rfl
  sending f hc := nomatch hphase.symm.trans hc
  withdrawn hc := h.withdrawn (hwithdrawn ▸ hc)

/-- The controller keeps its phase, retry time and withdrawn, and a sighting may become pending where one may. -/
theorem State.RowSound.keeps (h : s.RowSound) (hphase : r.phase = s.row.phase) (hretry : r.retryAt = s.row.retryAt)
    (hwithdrawn : r.withdrawn = s.row.withdrawn)
    (hpending : r.pending = s.row.pending ∨ (s.row.pending = .none ∧ s.row.phase ≠ .silent ∧ r.pending = .sighting)) :
    (s.setRow r).RowSound := h.congr hphase hretry hwithdrawn hpending rfl

theorem RowBus.pendSighting_eq (r : RowBus) : r.pendSighting.phase = r.phase ∧ r.pendSighting.retryAt = r.retryAt ∧
    r.pendSighting.withdrawn = r.withdrawn ∧
    (r.pendSighting.pending = r.pending ∨ (r.pending = .none ∧ r.phase ≠ .silent ∧ r.pendSighting.pending = .sighting)) := by
  unfold RowBus.pendSighting
  split
  next h => exact ⟨rfl, rfl, rfl, .inr ⟨h.1, h.2.2, rfl⟩⟩
  · exact ⟨rfl, rfl, rfl, .inl rfl⟩

theorem State.RowSound.pendSighting (h : s.RowSound) : (s.setRow s.row.pendSighting).RowSound := by
  obtain ⟨hphase, hretry, hwithdrawn, hpending⟩ := s.row.pendSighting_eq
  exact h.keeps hphase hretry hwithdrawn hpending

theorem RowBus.endOfOldFrame_eq (r : RowBus) : r.endOfOldFrame.phase = r.phase ∧ r.endOfOldFrame.retryAt = r.retryAt ∧
    r.endOfOldFrame.withdrawn = r.withdrawn := by
  unfold RowBus.endOfOldFrame
  split
  · obtain ⟨hphase, hretry, hwithdrawn, -⟩ := ({ r with dueAtEnd := false, pending := .none } : RowBus).pendSighting_eq
    exact ⟨hphase, hretry, hwithdrawn⟩
  · exact ⟨rfl, rfl, rfl⟩

/-- No retry time stands outside DRIVE RETRY. -/
theorem State.RowSound.retryAt_eq (h : s.RowSound) (hphase : s.row.phase ≠ .driveRetry) : s.row.retryAt = none := by
  rw [← Option.not_isSome_iff_eq_none, h.retry]
  simpa using hphase

theorem State.RowSound.up (h : s.RowSound) (hphase : s.row.phase ≠ .silent) : s.station.state ≠ .loading := fun hc => hphase (h.silent.2 hc)

/-- A frame that was on the line is gone, whole or aborted. -/
theorem State.RowSound.ended (h : s.RowSound) {f : RowFrame} (hf : s.row.phase = .sending f) (hphase : r.phase = .waiting)
    (hretry : r.retryAt = s.row.retryAt) (hwithdrawn : r.withdrawn = s.row.withdrawn) : (s.setRow r.endOfOldFrame).RowSound := by
  obtain ⟨hp, hr, hw⟩ := r.endOfOldFrame_eq
  refine h.waiting (h.up ?_) (hp.trans hphase) (hr.trans (hretry.trans (h.retryAt_eq ?_))) (hw.trans hwithdrawn) <;>
    (rw [hf]; exact fun hc => nomatch hc)

theorem RowBus.sending_of_isSending (h : r.isSending = true) : ∃ f, r.phase = .sending f := by
  unfold RowBus.isSending at h
  split at h
  next f hf => exact ⟨f, hf⟩
  · cases h

theorem State.RowSound.abort (h : s.RowSound) (hs : s.row.isSending = true) : (s.setRow s.row.abort).RowSound := by
  obtain ⟨f, hf⟩ := RowBus.sending_of_isSending hs
  exact h.ended hf (r := { s.row with phase := .waiting, receiving := true, changeWanted := (s.row.changeWanted || s.row.wantedNext), wantedNext := false })
    rfl rfl rfl

theorem RowBus.retime_eq (now : Time) (cfg : Config.Settings) (r : RowBus) : (r.retime now cfg).phase = r.phase ∧
    (r.retime now cfg).retryAt = r.retryAt ∧ (r.retime now cfg).withdrawn = r.withdrawn ∧
    ((r.retime now cfg).pending = r.pending ∨ (r.pending = .none ∧ r.phase ≠ .silent ∧ (r.retime now cfg).pending = .sighting)) := by
  unfold RowBus.retime
  split
  · exact ⟨rfl, rfl, rfl, .inl rfl⟩
  · dsimp only
    split
    · exact RowBus.pendSighting_eq _
    · exact ⟨rfl, rfl, rfl, .inl rfl⟩

end

/-- The row bus's commands. -/
theorem exec_housed_row {c : Instr} {s : State} (h : s.Housed) (hc : c matches .rowFrameStart .. | .lostArbitration | .bitError
    | .rowFrameSentWhole | .frameBrokenOff | .lineHeldLow | .cleared | .driveRetryExpiry | .periodicSightingDue | .changeSightingDue) :
    Leads State.Housed (exec c s) := by
  have hr := h.viewed.row
  have hflush : ∀ (u : State) b, u.Housed → ((u.raise b).flush).Housed := fun u b hu =>
    hu.aside (.refl _) rfl rfl rfl rfl rfl rfl rfl rfl
  cases c <;> cases hc
  case rowFrameStart dominant =>
    simp only [exec, execRowFrameStart, State.failDrive]
    split
    next hgo =>
      have hwait : s.row.phase = .waiting := by
        simp only [RowBus.mayStart, Bool.and_eq_true, beq_iff_eq] at hgo
        exact hgo.2.1.1
      have hup := hr.up (by rw [hwait]; exact fun hc => nomatch hc)
      split
      · exact .next h
      next f hf =>
        have hpend : s.row.pending ≠ .none := fun hc => by
          rw [State.composeFrame, hc] at hf
          cases hf
        have hnone : s.row.retryAt = none := hr.retryAt_eq (by rw [hwait]; exact fun hc => nomatch hc)
        split
        · refine .next (h.setRow ⟨iff_of_false (fun hc => (nomatch hc)) hup, fun hc => (nomatch hc), ?_, fun _ _ => hpend, hr.withdrawn⟩)
          change s.row.retryAt.isSome = _
          rw [hnone]
          rfl
        · have hretry : (s.setRow { s.row with phase := .driveRetry, retryAt := some (s.timeBase + ms (sightingPeriod s.config)), driveFaultReported := true }).Housed :=
            h.setRow ⟨iff_of_false (fun hc => (nomatch hc)) hup, fun hc => (nomatch hc), rfl, fun _ hc => (nomatch hc), hr.withdrawn⟩
          split
          · exact .next hretry
          · exact .next (hflush _ _ hretry)
    · exact .next h
  case lostArbitration =>
    simp only [exec, execLostArbitration]
    split
    next hs => exact .next (h.setRow (hr.abort hs))
    · exact .next h
  case bitError =>
    simp only [exec, execBitError]
    split
    next hs => exact .next (h.setRow (hr.abort hs))
    · exact .next h
  case rowFrameSentWhole =>
    simp only [exec, execRowFrameSentWhole]
    split
    next sender state entries hf =>
      exact .next (h.setRow (hr.ended hf (r := s.row.sightingSent s.timeBase s.config entries) rfl rfl rfl))
    next sender hf => exact .next (h.setRow (hr.ended hf (r := { s.row with phase := .waiting, pending := .none }) rfl rfl rfl))
    · exact .next h
  case frameBrokenOff => exact .next (h.setRow (hr.keeps rfl rfl rfl (.inl rfl)))
  case lineHeldLow =>
    simp only [exec, execLineHeldLow]
    split
    · refine .next (hflush _ _ ?_)
      split
      next hs =>
        have ha := h.setRow (hr.abort hs)
        exact ha.setRow (r := { s.row.abort with lineFault := .heldLow, receiving := false })
          (ha.viewed.row.keeps rfl rfl rfl (.inl rfl))
      · exact h.setRow (hr.keeps rfl rfl rfl (.inl rfl))
    · exact .next h
  case cleared =>
    simp only [exec, execCleared]
    split
    · exact .next (hflush _ _ (h.setRow (hr.keeps rfl rfl rfl (.inl rfl))))
    · exact .next h
  case driveRetryExpiry =>
    simp only [exec, execDriveRetryExpiry]
    split
    next hgo =>
      simp only [Bool.and_eq_true, beq_iff_eq] at hgo
      exact .next (h.setRow (hr.waiting (hr.up (by rw [hgo.1]; exact fun hc => nomatch hc)) rfl rfl rfl))
    · exact .next h
  case periodicSightingDue =>
    simp only [exec, execPeriodicSightingDue]
    split
    · exact .next (h.setRow hr.pendSighting)
    · exact .next h
  case changeSightingDue =>
    simp only [exec, execChangeSightingDue]
    split
    · exact .next (h.setRow hr.pendSighting)
    · exact .next h

/-! #### Peer views and verdict timers -/

theorem State.Housed.endReceive {s : State} (h : s.Housed) : s.endReceive.Housed := h.setRow (h.viewed.row.keeps rfl rfl rfl (.inl rfl))

theorem State.Housed.conflict {s : State} (h : s.Housed) : s.conflict.Housed := by
  unfold State.conflict
  have hset : (s.setRow { s.row with lastConflict := some s.timeBase }).Housed := h.setRow (h.viewed.row.keeps rfl rfl rfl (.inl rfl))
  extract_lets due
  clear_value due
  split
  · exact hset.aside (.refl _) rfl rfl rfl rfl rfl rfl rfl rfl
  · exact h

/-- The view changed in verdicts and peers alone. -/
theorem State.Housed.view {s t : State} (h : s.Housed) (hverdicts : t.VerdictsSound) (hpeers : t.PeersSound)
    (hown : t.view.own = s.view.own) (hrow : t.row = s.row) (hstation : t.station = s.station) (hi2c : t.i2c = s.i2c)
    (hfailover : t.failover = s.failover) (htime : t.timeBase = s.timeBase) (horder : t.ex.order.Sublist s.ex.order)
    (hports : t.ports = s.ports) (hroutes : t.routes = s.routes) : t.Housed :=
  ⟨⟨⟨hverdicts, hpeers, h.viewed.row.congr (by rw [hrow]) (by rw [hrow]) (by rw [hrow]) (.inl (by rw [hrow])) hstation⟩,
    (State.Offered.of_eq hfailover htime).sound h.work, h.station.congr hstation hi2c horder⟩,
    h.own.of_states hown (by rw [hports]) (by rw [hroutes])⟩

theorem State.Housed.replacePeer {s : State} (h : s.Housed) {i : StationId} {e : Option PeerEntry} (hi : e.isSome = true → i ≠ s.station.id)
    (he : ∀ x, e = some x → sightingWf x.state x.switches = true) : (s.replacePeer i e).Housed := by
  have hpeers : (s.setPeer i e).PeersSound := by
    refine ⟨?_, fun j x hx => ?_⟩
    · change (s.setPeer i e).peer s.station.id = none
      rw [State.peer_setPeer]
      split
      next heq =>
        cases e with
        | none => rfl
        | some x => exact absurd heq (hi rfl)
      · exact h.viewed.peers.notOwn
    · rw [State.peer_setPeer] at hx
      split at hx
      · exact he x hx
      · exact h.viewed.peers.passed j x hx
  have hset : (s.setPeer i e).VerdictsSound := h.viewed.verdicts.of_view rfl
  unfold State.replacePeer
  dsimp only
  refine h.view (State.VerdictsSound.of_view (hset.recomputeThose hpeers _) rfl) ?_ ?_ ?_ ?_ ?_ ?_ ?_ ?_ ?_ ?_
  · exact hpeers.congr (by simp) (by simp)
  · simp [State.setPeer]
  all_goals simp

/-- A peer's entry that stood passes the content checks, and is of another station. -/
theorem State.PeersSound.of_peer {s : State} (h : s.PeersSound) {i : StationId} {e : PeerEntry} (he : s.peer i = some e) :
    i ≠ s.station.id ∧ sightingWf e.state e.switches = true := by
  refine ⟨?_, h.passed i e he⟩
  rintro rfl
  cases h.notOwn.symm.trans he

theorem exec_housed_views {c : Instr} {s : State} (h : s.Housed) (hc : c matches .sightingReceived .. | .withdrawReceived ..
    | .peerEntryStale .. | .peerEntryExpired .. | .clearHoldExpiry .. | .staggerExpiry ..) : Leads State.Housed (exec c s) := by
  have hv := h.viewed.verdicts
  cases c <;> cases hc
  case sightingReceived sender state entries =>
    simp only [exec, execSightingReceived]
    split
    · split
      · exact .next h.endReceive
      next hwf =>
        split
        · exact .next h.endReceive.conflict
        next hother => exact .next (h.endReceive.replacePeer (fun _ => hother) fun x hx => by cases hx; simpa using hwf)
    · exact .next h
  case withdrawReceived sender =>
    simp only [exec, execWithdrawReceived]
    split
    · split
      · exact .next h.endReceive.conflict
      · exact .next (h.endReceive.replacePeer (fun hc => nomatch hc) fun x hx => nomatch hx)
    · exact .next h
  case peerEntryStale i =>
    simp only [exec, execPeerEntryStale]
    split
    · exact .next h
    next e he =>
      obtain ⟨hother, hwf⟩ := h.viewed.peers.of_peer he
      split
      · exact .next h
      · refine .next (h.replacePeer (fun _ => hother) fun x hx => ?_)
        split at hx <;> cases hx
        exact hwf
  case peerEntryExpired i =>
    simp only [exec, execPeerEntryExpired]
    split
    · exact .next h
    · split
      · exact .next (h.replacePeer (fun hc => nomatch hc) fun x hx => nomatch hx)
      · exact .next h
  case clearHoldExpiry sw =>
    simp only [exec, execClearHoldExpiry]
    split
    next hexp =>
      have hd : (s.verdict sw).d = 0 := by
        refine ((hv.verdict sw).clear ?_).2
        cases hclear : (s.verdict sw).clearEnds with
        | none => rw [hclear] at hexp; cases hexp
        | some _ => rfl
      exact .next (h.view ((hv.clearVerdict hd).of_view rfl) (h.viewed.peers.congr (by simp [State.clearVerdict, State.setVerdict]) (by simp))
        (by simp [State.clearVerdict, State.setVerdict]) (by simp) (by simp) (by simp) (by simp) (by simp) (by simp) (by simp) (by simp))
    · exact .next h
  case staggerExpiry sw =>
    simp only [exec, execStaggerExpiry]
    split
    next hgo =>
      simp only [Bool.and_eq_true, beq_iff_eq] at hgo
      exact .next (h.view ((hv.expireStagger hgo.1).of_view rfl) (h.viewed.peers.congr (by simp) (by simp)) (by simp) (by simp) (by simp)
        (by simp) (by simp) (by simp) (by simp) (by simp) (by simp))
    · exact .next h

/-! #### Resets and start-up -/

theorem State.OwnCounted.foldl_detect {s : State} (h : s.OwnCounted) (l : List PortId) : (l.foldl State.detect s).OwnCounted := by
  induction l generalizing s with
  | nil => exact h
  | cons p l ih => exact ih (h.detect p)

theorem State.onward_foldl_detect (l : List PortId) (s : State) : s.Onward (l.foldl State.detect s) :=
  State.Onward.foldl (fun u p _ => u.onward_detect p) s

theorem State.Housed.enterStandby {s : State} (h : s.Housed) (hload : s.station.state = .loading) (hpin : s.station.pinAsserted = false)
    (x : LoadOutcome × Config.Settings) (b : Bool) : (s.enterStandby x b).Housed := by
  have hr := h.viewed.row
  have hsilent := hr.silent.2 hload
  have hnone : s.row.retryAt = none := hr.retryAt_eq (by rw [hsilent]; exact fun hc => nomatch hc)
  have hst := h.station
  unfold State.enterStandby
  dsimp only
  refine State.Housed.close ?_
  refine State.Housed.onward ?_ (State.onward_foldl_detect _ _) (State.OwnCounted.foldl_detect ?_ _)
  · refine ⟨⟨⟨h.viewed.verdicts.of_view rfl, h.viewed.peers.congr rfl rfl, ?_⟩, ?_, ?_⟩, h.own.of_states rfl rfl rfl⟩
    · refine ⟨iff_of_false (fun hc => (nomatch hc)) (fun hc => (nomatch hc)), fun hc => (nomatch hc), ?_, fun _ hc => (nomatch hc), fun hw => ?_⟩
      · change s.row.retryAt.isSome = _
        rw [hnone]
        rfl
      · cases hload.symm.trans (hr.withdrawn hw)
    · obtain ⟨⟩ := h.work
      constructor <;> assumption
    · refine ⟨fun hc => ?_, fun _ => rfl, fun _ => hst.noOpen (.inl hload), fun hc => ?_, rfl, hst.transaction⟩
      · rcases hc with hc | hc <;> cases hc
      · cases hpin.symm.trans hc
  · exact h.own.of_states rfl rfl rfl

theorem RowBus.hostReset_eq (r : RowBus) : r.hostReset.phase = r.phase ∧ r.hostReset.retryAt = r.retryAt ∧ r.hostReset.withdrawn = false ∧
    r.hostReset.pending ≠ .none := by
  unfold RowBus.hostReset
  dsimp only
  split <;> exact ⟨rfl, rfl, rfl, fun hc => nomatch hc⟩

theorem State.Housed.settled_hostCleared {s : State} (h : s.Housed) (hup : s.station.state ≠ .loading) : s.hostCleared.Settled := by
  have hr := h.viewed.row
  obtain ⟨hphase, hretry, hwithdrawn, hpending⟩ := s.row.hostReset_eq
  have hrow : s.hostCleared.row = s.row.hostReset := rfl
  have hfail : s.hostCleared.failover = Failover.empty := rfl
  refine ⟨⟨h.viewed.verdicts.of_view (by simp), h.viewed.peers.congr (by simp) rfl, ?_⟩, ?_, ?_⟩
  · refine ⟨iff_of_false (fun hc => hup (hr.silent.1 (hphase ▸ hrow ▸ hc))) (fun hc => (nomatch hc)), fun hc => ?_, ?_, fun _ _ => hpending, fun hc => ?_⟩
    · exact absurd (hr.silent.1 (hphase ▸ hrow ▸ hc)) hup
    · rw [hrow, hretry, hphase]
      exact hr.retry
    · cases (hrow ▸ hwithdrawn : s.hostCleared.row.withdrawn = false).symm.trans hc
  · constructor <;> simp [hfail, Failover.empty]
  · have hst := h.station
    have hpin : s.station.pinAsserted = false := Bool.eq_false_iff.2 fun hc => hup (hst.pin hc)
    refine ⟨fun hc => ?_, fun _ => hst.outcome hup, fun _ => rfl, fun hc => ?_, ?_, ?_⟩
    · rcases hc with hc | hc <;> cases hc
    · cases hpin.symm.trans hc
    · change s.station.loadBegan.isSome = _
      rw [hst.load]
      change (s.station.state == .loading && _) = (StationState.standby == .loading && _)
      rw [beq_eq_false_iff_ne.2 hup]
      rfl
    · exact (by simp : s.hostCleared.i2c = s.i2c).trans hst.transaction

/-- Where no port returned to DOWN, no port's face and no cell's state has changed (R76). -/
theorem State.OwnCounted.hostCleared {s : State} (h : s.OwnCounted) (hnone : s.portsReturned = []) : s.hostCleared.OwnCounted := by
  have hstate : ∀ p, (s.port p).state ≠ .off ∧ (s.port p).state ≠ .quiescing ∧ (s.port p).state ≠ .reset := fun p => by
    have := List.filter_eq_nil_iff.1 hnone p (mem_allPorts p)
    simpa [and_assoc] using this
  have hports : s.hostCleared.ports = s.ports.map Port.hostReset := rfl
  refine h.of_states (by simp) ?_ ?_
  · funext p
    have hp := hstate p
    simp only [facesOf, hports, Fin.getElem_fin, Vector.getElem_map]
    change ((Port.hostReset (s.port p)).identity, (Port.hostReset (s.port p)).state) = ((s.port p).identity, (s.port p).state)
    unfold Port.hostReset
    split <;> simp_all
  · have hr : s.hostCleared.routes = s.loseQuiescingCells.routes := rfl
    have hq : allPorts.filter (fun p => (s.port p).state == .quiescing) = [] := List.filter_eq_nil_iff.2 fun p _ => by simpa using (hstate p).2.1
    rw [hr, State.loseQuiescingCells, hq]
    rfl

theorem State.Housed.hostReset {s : State} (h : s.Housed) (hup : s.station.state ≠ .loading) : s.hostReset.Housed := by
  have h1 : s.hostCleared.Onward s.hostCleared.queueRestart :=
    .of_eq (by simp) (by simp) (by simp) (by simp) (by simp) (by simp) (by simp)
  have hs := h1.settled (h.settled_hostCleared hup)
  simp only [State.hostReset]
  split
  next hnone =>
    have hown : s.hostCleared.queueRestart.OwnCounted :=
      (h.own.hostCleared (List.isEmpty_iff.1 hnone)).of_states (by simp) (by simp) (by simp)
    exact (State.Housed.onward ⟨hs, hown⟩ (State.onward_foldl_detect _ _) (hown.foldl_detect _)).close
  · have hown := s.hostCleared.queueRestart.ownCounted_reportCables
    exact (State.Housed.onward ⟨(State.onward_reportCables _).settled hs, hown⟩ (State.onward_foldl_detect _ _) (hown.foldl_detect _)).close

/-! #### CONFIGURE -/

theorem State.cellStatesOf_mapCells (s : State) (f : Cell → Cell) (hf : ∀ x, (f x).state = x.state) :
    cellStatesOf (s.mapCells f).routes = cellStatesOf s.routes := by
  funext y p
  simp only [cellStatesOf, State.mapCells, Vector.getElem_map, hf]

theorem State.Viewed.dropExpired {s : State} (h : s.Viewed) : s.dropExpired.Viewed := by
  have hpeer : ∀ i, s.dropExpired.peer i = if (s.peer i).any s.pastExpiry then none else s.peer i := fun i => by
    simp [State.peer, State.dropExpired]
    rfl
  refine ⟨h.verdicts.of_view rfl, ⟨?_, fun i e he => ?_⟩, h.row.congr rfl rfl rfl (.inl rfl) rfl⟩
  · rw [hpeer]
    split
    · rfl
    · exact h.peers.notOwn
  · rw [hpeer] at he
    split at he
    · cases he
    · exact h.peers.passed i e he

theorem State.Viewed.recomputeThose {s : State} (h : s.Viewed) (which : Nat → Bool) : (s.recomputeThose which).Viewed :=
  ⟨h.verdicts.recomputeThose h.peers which, h.peers.congr (by simp) (by simp),
    h.row.congr (by simp) (by simp) (by simp) (.inl (by simp)) (by simp)⟩

theorem State.Viewed.retime {s : State} (h : s.Viewed) (now : Time) (cfg : Config.Settings) : (s.setRow (s.row.retime now cfg)).Viewed := by
  obtain ⟨hphase, hretry, hwithdrawn, hpending⟩ := s.row.retime_eq now cfg
  exact ⟨h.verdicts.of_view rfl, h.peers.congr rfl rfl, h.row.keeps hphase hretry hwithdrawn hpending⟩

theorem State.Viewed.applyItems {s : State} (h : s.Viewed) (v : Config.Settings) : (s.applyItems v).Viewed := by
  have h2 : (({ s with config := v } : State).mapCells (Cell.underLimits s.config v)).Viewed := h.congr rfl rfl rfl
  unfold State.applyItems
  dsimp only
  have h3 : ∀ {u : State} (b : Bool), u.Viewed → (if b = true then u.fallDueAll else u).Viewed := fun b hu => by
    split
    · exact hu.congr (by simp) (by simp) (by simp)
    · exact hu
  have h4 : ∀ {u : State} (b : Bool), u.Viewed → (if b = true then u.setRow (u.row.retime u.timeBase v) else u).Viewed := fun b hu => by
    split
    · exact hu.retime _ _
    · exact hu
  have h5 : ∀ {u : State} (b : Bool), u.Viewed → (if b = true then u.dropExpired else u).Viewed := fun b hu => by
    split
    · exact hu.dropExpired
    · exact hu
  have h6 : ∀ {u : State} (b : Bool), u.Viewed → (if b = true then u.recomputeThose (fun _ => true) else u).Viewed := fun b hu => by
    split
    · exact hu.recomputeThose _
    · exact hu
  have h7 : ∀ {u : State} (b : Bool), u.Viewed → (if b = true then u.setLink { u.link with returnDue := true } else u).Viewed := fun b hu => by
    split
    · exact hu.congr rfl rfl rfl
    · exact hu
  exact h7 _ (h6 _ (h5 _ (h4 _ (h3 _ h2))))

theorem State.Housed.applyItems {s : State} (h : s.Housed) (v : Config.Settings) : (s.applyItems v).Housed := by
  refine h.onward ⟨.of_eq (by simp) (by simp), by simp, fun hv => hv.applyItems v, by simp, by simp⟩ (h.own.of_states ?_ ?_ ?_)
  · simp only [State.applyItems, State.mapCells, State.dropExpired]
    (repeat' split) <;> simp
  · simp only [State.applyItems, State.dropExpired]
    (repeat' split) <;> simp [State.mapCells]
  · have hcells := ({ s with config := v } : State).cellStatesOf_mapCells (Cell.underLimits s.config v) fun _ => rfl
    simp only [State.applyItems, State.dropExpired]
    (repeat' split) <;> simp [hcells]

theorem State.Housed.withWork {s t : State} (h : s.Housed) (hwork : t.WorkSound) (hex : t.ex = s.ex) (hview : t.view = s.view) (hrow : t.row = s.row)
    (hstation : t.station = s.station) (hi2c : t.i2c = s.i2c) (hports : t.ports = s.ports) (hroutes : t.routes = s.routes) : t.Housed :=
  ⟨⟨h.viewed.congr hview hrow hstation, hwork, h.station.congr hstation hi2c (by rw [hex])⟩,
    h.own.of_states (by rw [hview]) (by rw [hports]) (by rw [hroutes])⟩

end Sys2Proof.Machine

namespace Sys2Proof.Machine
open Sys2Proof

/-! #### O58: the dispatch -/

/-- The work list stands, or an item has left it. -/
theorem State.WorkSound.sublist {s t : State} (h : s.WorkSound) (hwork : t.failover.work.Sublist s.failover.work) : t.WorkSound where
  once := h.once.sublist hwork
  oncePerPort p := (hwork.filter _).length_le.trans (h.oncePerPort p)
  apart p horizon y hp hc := h.apart p horizon y (hwork.subset hp) (hwork.subset hc)
  cells y p hc := h.cells y p (hwork.subset hc)
  targets y hy := h.targets y (hwork.subset hy)

section
variable {s : State}

/-- Only the Failover Engine's record differs, its list with items left out. -/
theorem State.Housed.failing {t : State} (h : s.Housed) (hwork : t.failover.work.Sublist s.failover.work) (hex : t.ex = s.ex)
    (hview : t.view = s.view) (hrow : t.row = s.row) (hstation : t.station = s.station) (hi2c : t.i2c = s.i2c)
    (hports : t.ports = s.ports) (hroutes : t.routes = s.routes) : t.Housed :=
  h.withWork (h.work.sublist hwork) hex hview hrow hstation hi2c hports hroutes

theorem State.onward_settleReady (s : State) : s.Onward s.settleReady := .of_eq (.refl _) rfl rfl rfl rfl rfl rfl

theorem State.onward_freeSlot (s : State) (i : Slot) : s.Onward (s.freeSlot i) :=
  .of_eq (by rw [State.freeSlot_ex]) (by simp) (by simp) (by simp) (by simp) (by simp) (by simp)

theorem State.onward_setResults (s : State) (l : List Slot) : s.Onward (s.setResults l) := .of_eq (.refl _) rfl rfl rfl rfl rfl rfl

theorem State.Housed.setCurrent (h : s.Housed) (x : Option InProgress) : (s.setCurrent x).Housed :=
  h.failing (.refl _) rfl rfl rfl rfl rfl rfl rfl

theorem State.Housed.setWork (h : s.Housed) {head : WorkItem} {rest : List WorkItem} (hwork : s.failover.work = head :: rest) :
    (s.setWork rest).Housed :=
  h.failing (by rw [hwork]; exact List.sublist_cons_self head rest) rfl rfl rfl rfl rfl rfl rfl

theorem State.Housed.beginHeld (h : s.Housed) (y : Nat) : (s.beginHeld y).Housed := by
  unfold State.beginHeld
  split <;> exact h.setCurrent _

theorem State.Housed.beginPairs (h : s.Housed) (y : Nat) : (s.beginPairs y).Housed := by
  unfold State.beginPairs
  split
  · exact h.beginHeld y
  · exact h.setCurrent _

theorem State.Housed.finishLoss (h : s.Housed) (scope : LossScope) : (s.finishLoss scope).Housed :=
  (h.setCurrent none).table (s.onward_finishLoss scope) (by simp [State.setCurrent, State.setFailover]) (by simp [State.setCurrent, State.setFailover]) (by simp [State.setCurrent, State.setFailover])

theorem State.Housed.beginEntries (h : s.Housed) (scope : LossScope) (horizon : Time) : (s.beginEntries scope horizon).Housed := by
  unfold State.beginEntries
  split
  · exact h.finishLoss scope
  · exact h.setCurrent _

theorem State.Housed.handleEntry (h : s.Housed) (p : PortId) (r : EntryRef) : (s.handleEntry p r).Housed :=
  h.table (s.onward_handleEntry p r) (by simp) (by simp) (by simp)

theorem State.Housed.handlePair (h : s.Housed) (r : EntryRef) : (s.handlePair r).Housed :=
  h.table (s.onward_handlePair r) (by simp) (by simp) (by simp)

theorem State.Housed.handleHeld (h : s.Housed) (r : HeldRef) : (s.handleHeld r).Housed :=
  h.table (s.onward_handleHeld r) (by simp) (by simp) (by simp)

/-- An exchange joins the order of an ACTIVE station (R166). -/
theorem State.Housed.enter (h : s.Housed) (hactive : s.station.state = .active) (i : Slot) (rest : List Slot) (b : Booking) :
    (s.enter i rest b).Housed := by
  have hj : (s.joined i rest b).Housed := by
    obtain ⟨locked, outcome, -, pin, load, transaction⟩ := h.station
    refine ⟨⟨h.viewed.congr (by simp [State.joined]) (by simp [State.joined]) (by simp [State.joined]), h.work.sublist (by simp [State.joined]), ?_⟩,
      h.own.of_states (by simp [State.joined]) (by simp [State.joined]) (by simp [State.joined])⟩
    have hs : (s.joined i rest b).station = s.station := by simp [State.joined]
    have hi : (s.joined i rest b).i2c = s.i2c := by simp [State.joined]
    constructor
    · rwa [hs]
    · rwa [hs]
    · rw [hs, hactive]
      exact fun hc => hc.elim (fun hc => (nomatch hc)) (fun hc => (nomatch hc))
    · rwa [hs]
    · rwa [hs]
    · rwa [hi, hs]
  rw [State.enter_eq]
  split
  · exact hj
  · exact hj.table (State.onward_hold _ _ _) (by simp) (by simp) (by simp)

theorem State.Housed.refuse (h : s.Housed) (i : Slot) (rest : List Slot) (b : Booking) (status : ResultStatus) : (s.refuse i rest b status).Housed := by
  exact h.aside (by rw [(s.refuse_ex i rest b status).2.2.1]) (by simp) (by simp) (by simp) (by simp) (by simp) (by simp) (by simp) (by simp)

theorem State.station_active_of_refusal {b : Booking} (h : s.refusal b = none) : s.station.state = .active := by
  by_contra hc
  rw [State.refusal, if_pos hc] at h
  cases h

end

/-- Resets and the end of the load. -/
theorem exec_housed_reset {c : Instr} {s : State} (h : s.Sound) (hc : c matches .powerOn .. | .resetPinAsserted | .resetPinReleased ..
    | .eepromLoadComplete .. | .eepromReadTimeout .. | .hostLinkResetSequence) : Leads State.Housed (exec c s) := by
  have ht := h.housed
  have hpin : ∀ {x}, s.station.loadBegan = some x → s.station.pinAsserted = false := fun hx => by
    have hload := h.station.load
    rw [hx] at hload
    simpa using (Bool.and_eq_true_iff.1 hload.symm).2
  cases c <;> cases hc
  case powerOn straps pin =>
    simp only [exec, execPowerOn, State.fullResetHeld, State.fullResetBegun]
    split <;> exact .next (State.afterFullReset_sound _ _ _ rfl rfl).housed
  case resetPinAsserted =>
    simp only [exec, execResetPinAsserted, State.fullResetHeld]
    split
    · exact .next ht
    · exact .next (State.afterFullReset_sound _ _ _ rfl rfl).housed
  case resetPinReleased straps =>
    simp only [exec, execResetPinReleased, State.fullResetBegun]
    split
    · exact .next (State.afterFullReset_sound _ _ _ rfl rfl).housed
    · exact .next ht
  case eepromLoadComplete image sequence =>
    simp only [exec, execEepromLoadComplete]
    split
    next hload hbegan => exact .next (ht.enterStandby hload (hpin hbegan) _ _)
    · exact .next ht
  case eepromReadTimeout sequence =>
    simp only [exec, execEepromReadTimeout]
    split
    next hload hbegan =>
      split
      · exact .next (ht.enterStandby hload (hpin hbegan) _ _)
      · exact .next ht
    · exact .next ht
  case hostLinkResetSequence =>
    simp only [exec, execHostLinkResetSequence]
    split
    · exact .next ht
    next hup => exact .next (ht.hostReset hup)

/-- Admission and the sending of a result. -/
theorem exec_housed_results {s : State} (h : s.Housed) :
    Leads State.Housed (exec .admission s) ∧ Leads State.Housed (exec .sendResult s) := by
  simp only [exec, execAdmission, execSendResult]
  refine ⟨?_, ?_⟩
  · split
    · split
      · split
        · exact .next (housed_linkFree _ _ h)
        next i rest hfree =>
          split
          · exact .next (h.refuse _ _ _ _)
          next b _ _ hnone =>
            split
            · exact .next (housed_linkFree _ _ h)
            next u hu =>
              obtain ⟨htime, hstation, -, -, hex, hports, hroutes, hfailover, hrow, hview, -, hi2c, -⟩ := State.takeEntry_frame hu
              have hu : u.Housed := h.aside (by rw [hex]) hfailover hview hrow hstation hi2c htime (by rw [hports]) (by rw [hroutes])
              have hactive : u.station.state = .active := by rw [hstation]; exact State.station_active_of_refusal hnone
              exact .next (housed_linkFree _ _ (hu.enter hactive i rest _)).close
      · exact .next h
    · exact .next h
  · (repeat' split) <;> apply Leads.next <;> first
      | with_reducible exact h
      | exact (housed_linkFree s _ h).table ((State.onward_setResults _ _).trans (State.onward_freeSlot _ _)) (by simp) (by simp) (by simp)

/-- The commands on exchanges and traces. -/
theorem exec_housed_exchanges {c : Instr} {s : State} (h : s.Housed) (hc : c matches .sendExchange .. | .answerArrival ..
    | .answerWaitExpiry .. | .holdExpiry .. | .traceTransmission .. | .traceReplyArrival .. | .traceWaitExpiry ..) :
    Leads State.Housed (exec c s) := by
  have hheard : ∀ p, (s.heard p).Housed := fun p =>
    h.aside (by simp) (by simp) (by simp) (by simp) (by simp) (by simp) (by simp) (by simp) (by simp)
  have hdamaged : ∀ p, (s.takeDamaged p).close.Housed := fun p => (h.onward (s.onward_takeDamaged p) (h.own.takeDamaged p)).close
  cases c <;> cases hc
  case sendExchange p =>
    simp only [exec, execSendExchange]
    split
    · split
      · exact .next h
      · split
        · exact .next h
        next i _ _ e _ =>
          have h1 : ((s.modLive i (fun _ => e.afterSend)).becomeSent i p).Housed :=
            h.table ((s.onward_modLive i _).trans (State.onward_becomeSent _ i p)) (by simp) (by simp) (by simp)
          exact .next (State.Housed.close (h1.aside (by simp) (by simp) (by simp) (by simp) (by simp) (by simp) (by simp) (by simp) (by simp)))
    · exact .next h
  case answerArrival p tag attempt payload =>
    simp only [exec, execAnswerArrival]
    (repeat' split) <;> apply Leads.next <;> first
      | with_reducible exact h
      | with_reducible exact hheard p
      | with_reducible exact hdamaged p
      | exact (((hheard p).table (State.onward_decideResult _ (tagSlot tag) .completed payload) (by simp) (by simp) (by simp)).aside
          (by simp) (by simp) (by simp) (by simp) (by simp) (by simp) (by simp) (by simp) (by simp)).closeFrom _
  case answerWaitExpiry i =>
    simp only [exec, execAnswerWaitExpiry]
    split
    · exact .next h
    next e hlive =>
      split
      next p d at_ hp =>
        split
        · have h1 : (s.detach i).Housed := h.table (s.onward_detach i) (by simp) (by simp) (by simp)
          have h2 : ((s.detach i).exchangeMiss e.target p at_).Housed :=
            h1.onward (State.onward_exchangeMiss _ _ _ _) (h1.own.exchangeMiss _ _ _)
          refine .next (State.Housed.closeFrom ?_ _)
          split
          · exact h2.table (State.onward_dueResend _ _ _) (by simp) (by simp) (by simp)
          · exact h2.table (State.onward_seekFate _ _ _) (by simp) (by simp) (by simp)
        · exact .next h
      · exact .next h
  case holdExpiry i =>
    simp only [exec, execHoldExpiry]
    (repeat' split) <;> apply Leads.next <;> first
      | with_reducible exact h
      | with_reducible exact (h.table (State.onward_decideResult _ _ _ _) (by simp) (by simp) (by simp)).close
  case traceTransmission p =>
    simp only [exec, execTraceTransmission]
    have hmod : ∀ rest : List Slot, (s.modPort p (fun x => { x with pendingTraces := rest })).Housed := fun rest =>
      h.onward (s.onward_modPort p _) (h.own.modPort p _ rfl rfl)
    (repeat' split) <;> apply Leads.next <;> first
      | with_reducible exact h
      | with_reducible exact hmod _
      | (with_reducible refine (hmod ‹List Slot›).aside ?_ ?_ ?_ ?_ ?_ ?_ ?_ ?_ ?_ <;> simp)
  case traceReplyArrival p tag attempt finding payload =>
    simp only [exec, execTraceReplyArrival]
    split
    · exact .next (hdamaged p)
    · split
      · exact .next h
      · split
        · exact .next (hheard p)
        · split
          · exact .next (hheard p)
          next e hlive =>
            have h1 : ((s.heard p).detach (tagSlot tag)).Housed := (hheard p).table (State.onward_detach _ _) (by simp) (by simp) (by simp)
            have h2 : (((s.heard p).detach (tagSlot tag)).alive e.target p).Housed :=
              h1.aside (by simp) (by simp) (by simp) (by simp) (by simp) (by simp) (by simp) (by simp) (by simp)
            exact .next ((h2.table (State.onward_takeFinding _ _ _ _ _ _) (by simp) (by simp) (by simp)).closeFrom _)
  case traceWaitExpiry i =>
    simp only [exec, execTraceWaitExpiry]
    (repeat' split) <;> apply Leads.next <;> first
      | with_reducible exact h
      | with_reducible exact (h.table (State.onward_unanswered _ _ _) (by simp) (by simp) (by simp)).closeFrom _

/-- The commands of the Failover Engine. -/
theorem exec_housed_failover {c : Instr} {s : State} (h : s.Housed) (hc : c matches .workItemTakenUp | .walkStep
    | .entriesStep | .pairPhaseStep | .heldPhaseStep) : Leads State.Housed (exec c s) := by
  cases c <;> cases hc
  case workItemTakenUp =>
    simp only [exec, execWorkItemTakenUp]
    split
    · exact .next h
    · split
      · exact .next h
      next head rest hwork =>
        have h1 := h.setWork hwork
        (repeat' split) <;> apply Leads.next <;> first
          | with_reducible exact h1
          | with_reducible exact h1.setCurrent _
          | with_reducible exact h1.beginPairs _
  case walkStep =>
    simp only [exec, execWalkStep]
    (repeat' split) <;> apply Leads.next <;> first
      | with_reducible exact h
      | with_reducible exact h.beginEntries _ _
      | with_reducible exact (h.table (State.onward_walkOne _ _ _ _) (by simp) (by simp) (by simp)).closeFrom _
  case entriesStep =>
    simp only [exec, execEntriesStep]
    (repeat' split) <;> apply Leads.next <;> first
      | with_reducible exact h
      | with_reducible exact h.finishLoss _
      | with_reducible exact ((h.handleEntry _ _).finishLoss _).close
      | with_reducible exact ((h.handleEntry _ _).setCurrent _).close
  case pairPhaseStep =>
    simp only [exec, execPairPhaseStep]
    (repeat' split) <;> apply Leads.next <;> first
      | with_reducible exact h
      | with_reducible exact h.beginHeld _
      | with_reducible exact ((h.handlePair _).beginHeld _).close
      | with_reducible exact ((h.handlePair _).setCurrent _).close
  case heldPhaseStep =>
    simp only [exec, execHeldPhaseStep]
    (repeat' split) <;> apply Leads.next <;> first
      | with_reducible exact h
      | with_reducible exact h.setCurrent _
      | with_reducible exact ((h.handleHeld _).setCurrent _).close

/-- The commands of the fabric lines and of routes. -/
theorem exec_housed_lines {c : Instr} {s : State} (h : s.Housed) (hc : c matches .signalArriving .. | .signalLost ..
    | .trainingWaitExpiry .. | .linkOffer .. | .fabricCreditArrival .. | .reach .. | .idleTick .. | .damagedFrame ..
    | .linkSilenceExpiry .. | .portResetHoldExpiry .. | .probeDue .. | .probeSend .. | .echo .. | .probeWaitExpiry ..) :
    Leads State.Housed (exec c s) := by
  have hmod : ∀ p f, (f (s.port p)).identity = (s.port p).identity → (f (s.port p)).state = (s.port p).state →
      (s.modPort p f).Housed := fun p f hid hstate => h.onward (s.onward_modPort p f) (h.own.modPort p f hid hstate)
  have hheard : ∀ p, (s.heard p).Housed := fun p =>
    h.aside (by simp) (by simp) (by simp) (by simp) (by simp) (by simp) (by simp) (by simp) (by simp)
  have hdamaged : ∀ p, (s.takeDamaged p).close.Housed := fun p => (h.onward (s.onward_takeDamaged p) (h.own.takeDamaged p)).close
  have hlose : ∀ {u : State} p cause, u.Housed → (u.loseLink p cause).Housed := fun p cause hu =>
    hu.onward (State.onward_loseLink _ p cause) (State.ownCounted_loseLink _ p cause)
  have hchange : ∀ p f left cause, ((s.modPort p f).announce p left cause).Housed := fun p f left cause =>
    h.onward ((s.onward_modPort p f).trans (State.onward_announce _ _ _ _)) (State.ownCounted_announce _ _ _ _)
  cases c <;> cases hc
  case signalArriving p =>
    simp only [exec, execSignalArriving]
    have h1 := hmod p (fun x => { x with signal := true }) rfl rfl
    split
    · exact .next h1
    · exact .next (h1.onward (State.onward_detect _ p) (h1.own.detect p)).close
  case signalLost p =>
    simp only [exec, execSignalLost]
    have h1 := hmod p (fun x => { x with signal := false, retryBar := false }) rfl rfl
    split
    · exact .next (State.Housed.close (h1.onward ((State.onward_modPort _ _ _).trans (State.onward_announce _ _ _ _)) (State.ownCounted_announce _ _ _ _)))
    · exact .next (hlose p _ h1).close
    · exact .next (hlose p _ h1).close
    all_goals exact .next h1
  case trainingWaitExpiry p =>
    simp only [exec, execTrainingWaitExpiry]
    split
    · exact .next (hchange p _ _ _).close
    · exact .next h
  case linkOffer p identity grant reachList =>
    simp only [exec, execLinkOffer]
    have hup : ∀ {u : State}, u.Housed → (u.comeUp p identity grant reachList).Housed := fun hu =>
      hu.onward (State.onward_comeUp _ _ _ _ _) (State.ownCounted_comeUp _ _ _ _ _)
    have hsettled : ((s.loseLink p .switchRestart).settleReady).Housed :=
      (hlose p .switchRestart h).table (State.onward_settleReady _) (by simp) (by simp) (by simp)
    (repeat' split) <;> apply Leads.next <;> first
      | with_reducible exact h
      | with_reducible exact hheard p
      | with_reducible exact (hup h).close
      | with_reducible exact (hup hsettled).close
      | with_reducible exact hsettled.close
  case fabricCreditArrival p count =>
    simp only [exec, execFabricCreditArrival]
    split
    · exact .next ((hheard p).onward (State.onward_modPort _ p _) ((hheard p).own.modPort p _ rfl rfl))
    · exact .next h
  case reach p reachList =>
    simp only [exec, execReach]
    split
    · exact .next (State.Housed.close ((hheard p).onward (State.onward_takeReach _ p _) ((hheard p).own.takeReach p _)))
    · exact .next h
  case idleTick p => exact .next (hheard p)
  case damagedFrame p => exact .next (hdamaged p)
  case linkSilenceExpiry p =>
    simp only [exec, execLinkSilenceExpiry]
    split
    · exact .next (hlose p _ h).close
    · exact .next h
  case portResetHoldExpiry p =>
    simp only [exec, execPortResetHoldExpiry]
    split
    · have h1 := hchange p (fun x => { x with state := .down, holdEnds := none }) .reset .holdExpired
      exact .next (h1.onward (State.onward_detect _ p) (h1.own.detect p)).close
    · exact .next h
  case probeDue y p =>
    exact .next (h.aside (by simp) (by simp) (by simp) (by simp) (by simp) (by simp) (by simp) (by simp) (by simp))
  case probeSend p =>
    simp only [exec, execProbeSend]
    split
    · split
      · exact .next h
      next y rest _ =>
        have h1 := hmod p (fun x => { x with pendingProbes := rest }) rfl rfl
        have h2 := h1.onward (State.onward_modCell _ y p (Cell.probed s.timeBase s.config))
          (h1.own.of_states (by simp) (by simp) (State.cellStatesOf_modCell _ y p _ rfl))
        exact .next (h2.aside (by simp) (by simp) (by simp) (by simp) (by simp) (by simp) (by simp) (by simp) (by simp))
    · exact .next h
  case echo p target number =>
    simp only [exec, execEcho]
    (repeat' split) <;> apply Leads.next <;> first
      | with_reducible exact h
      | with_reducible exact hheard p
      | with_reducible exact hdamaged p
      | exact State.Housed.close ((hheard p).onward (State.onward_resolveEcho _ _ _ _) ((hheard p).own.resolveEcho _ _ _))
  case probeWaitExpiry y p =>
    simp only [exec, execProbeWaitExpiry]
    split
    · split
      · have h1 := h.onward (State.onward_modCell s y p (fun x => { x with inFlight := none }))
          (h.own.of_states (by simp) (by simp) (State.cellStatesOf_modCell _ y p _ rfl))
        exact .next (State.Housed.close (h1.onward (State.onward_miss _ _ _) (h1.own.miss _ _)))
      · exact .next h
    · exact .next h

section
variable {u : State}

theorem ownConfigure_housed (h : u.Housed) (items : List (Nat × Nat)) : (ownConfigure items u).state.Housed := by
  unfold ownConfigure
  (repeat' split) <;> first | with_reducible exact h | exact (h.applyItems _).close

theorem ownPort_housed (h : u.Housed) : (∀ a, (ownPortOffGraceful a u).state.Housed) ∧ (∀ a, (ownPortOffImmediate a u).state.Housed) ∧
    (∀ p, (ownPortOn p u).state.Housed) := by
  have hoff : ∀ p, (u.portOff p).close.Housed := fun p => (h.onward (u.onward_portOff p) (h.own.portOff p)).close
  refine ⟨fun a => ?_, fun a => ?_, fun p => ?_⟩
  · simp only [ownPortOffGraceful, doneWith, refusedWith]
    split <;> first
      | with_reducible exact h
      | with_reducible exact hoff _
      | with_reducible exact (h.onward (u.onward_quiesce _) (u.ownCounted_quiesce _)).close
  · unfold ownPortOffImmediate
    split
    · exact h
    · exact hoff _
  · simp only [ownPortOn, doneWith, refusedWith]
    split <;> first
      | with_reducible exact h
      | with_reducible exact (h.onward (u.onward_switchOn _) (u.ownCounted_switchOn _)).close
      | with_reducible exact (h.onward (u.onward_resume _) (u.ownCounted_resume _)).close

theorem endWith_housed {act : Slot → Exchange → State → State} (h : u.Housed) (hact : ∀ i e, (act i e u).Housed) (x : Word32) :
    (endWith act x u).state.Housed := by
  simp only [endWith, doneWith, refusedWith]
  (repeat' split) <;> first | with_reducible exact h | with_reducible exact (hact _ _).closeFrom _

theorem ownPin_housed (h : u.Housed) (a : PinArgs) : (ownPin a u).state.Housed := by
  simp only [ownPin, doneWith, refusedWith]
  split
  · exact h
  · split
    · exact h
    next w _ _ p _ =>
      have hcache := u.install_sameButCache a w p
      unfold State.sameButCache at hcache
      exact h.aside (by rw [hcache]) (by rw [hcache]) (by rw [hcache]) (by rw [hcache]) (by rw [hcache]) (by rw [hcache]) (by rw [hcache])
        (by rw [hcache]) (by rw [hcache])

/-- ENABLE and WITHDRAW move the station's state, outside LOADING (R166). -/
theorem ownEnable_housed (h : u.Housed) : (ownEnable () u).state.Housed := by
  unfold ownEnable
  split
  next hs =>
    obtain ⟨silent, quiet, retry, sending, withdrawn⟩ := h.viewed.row
    obtain ⟨-, outcome, noOpen, pin, load, transaction⟩ := h.station
    have hpin : u.station.pinAsserted = false := by
      by_contra hc
      cases hs.symm.trans (pin (by simpa using hc))
    have hload : u.station.loadBegan.isSome = false := by rw [load, hs]; rfl
    refine ⟨⟨⟨h.viewed.verdicts.of_view rfl, h.viewed.peers.congr rfl rfl, ?_⟩, h.work.sublist (.refl _), ?_⟩, h.own.of_states rfl rfl rfl⟩
    · refine ⟨iff_of_false (fun hc => ?_) (fun hc => (nomatch hc)), quiet, retry, sending, fun hc => ?_⟩
      · cases hs.symm.trans (silent.1 hc)
      · cases hs.symm.trans (withdrawn hc)
    · exact ⟨fun _ => rfl, fun _ => outcome (by rw [hs]; exact fun hc => (nomatch hc)), fun hc => hc.elim (fun hc => (nomatch hc)) fun hc => (nomatch hc),
        fun hc => (nomatch hpin.symm.trans hc), hload, transaction⟩
  · exact h

theorem ownWithdraw_housed (h : u.Housed) : (ownWithdraw () u).state.Housed := by
  unfold ownWithdraw
  split
  next hs =>
    obtain ⟨silent, -, retry, -, -⟩ := h.viewed.row
    obtain ⟨locked, outcome, noOpen, pin, load, transaction⟩ := h.station
    have hpin : u.station.pinAsserted = false := by
      by_contra hc
      cases hs.symm.trans (pin (by simpa using hc))
    have hload : u.station.loadBegan.isSome = false := by rw [load, hs]; rfl
    have hphase : u.row.phase ≠ .silent := fun hc => by cases hs.symm.trans (silent.1 hc)
    refine ⟨⟨⟨h.viewed.verdicts.of_view rfl, h.viewed.peers.congr rfl rfl, ?_⟩, h.work.sublist (.refl _), ?_⟩, h.own.of_states rfl rfl rfl⟩
    · exact ⟨iff_of_false hphase (fun hc => (nomatch hc)), fun hc => absurd hc hphase, retry, fun _ _ hc => (nomatch hc), fun _ => rfl⟩
    · exact ⟨fun _ => locked (.inl hs), fun _ => outcome (by rw [hs]; exact fun hc => (nomatch hc)),
        fun hc => hc.elim (fun hc => (nomatch hc)) fun hc => (nomatch hc), fun hc => (nomatch hpin.symm.trans hc), hload, transaction⟩
  · exact h

end

/-- Every command keeps views, row bus, work list, station and own counts sound. -/
theorem exec_housed (c : Instr) (s : State) (hsound : s.Sound) : Leads State.Housed (exec c s) := by
  have h := hsound.housed
  have hP := housed_linkFree
  cases c with
  | powerOn | resetPinAsserted | resetPinReleased | eepromLoadComplete | eepromReadTimeout | hostLinkResetSequence =>
    exact exec_housed_reset hsound rfl
  | admission => exact (exec_housed_results h).1
  | sendResult => exact (exec_housed_results h).2
  | configure => exact (hP.request h).1 fun x hu => ownConfigure_housed hu x
  | portOffGraceful => exact (hP.request h).2.1 fun a hu => (ownPort_housed hu).1 a
  | portOffImmediate => exact (hP.request h).2.2.1 fun a hu => (ownPort_housed hu).2.1 a
  | unknownRequest => exact (hP.request h).2.2.2
  | portOn => exact hP.onRequest h fun p hu => (ownPort_housed hu).2.2 p
  | resetPort => exact hP.onRequest h fun p hu => (hu.onward (State.onward_resetPort _ p) (hu.own.resetPort p)).close
  | pin => exact hP.onRequest h fun a hu => ownPin_housed hu a
  | flush => exact hP.onRequest h fun _ hu => hu.aside (.refl _) rfl rfl rfl rfl rfl rfl rfl rfl
  | endExchange =>
    exact hP.onRequest h fun x hu => endWith_housed hu (fun i _ => hu.table (State.onward_decideResult _ i _ _) (by simp) (by simp) (by simp)) x
  | cancel =>
    refine hP.onRequest h fun x hu => endWith_housed hu (fun i e => ?_) x
    exact hu.table (((State.onward_detach _ i).trans (State.onward_leavePair _ i e)).trans
      (State.onward_freeSlot _ i)) (by simp) (by simp) (by simp)
  | hostReset =>
    exact Leads.onRequest h fun hup _ _ => ⟨fun _ => hP _ _ (hP _ _ h), fun _ _ => hP _ _ ((hP _ _ h).hostReset hup)⟩
  | status | readConfig | readExchange | readPort | readRoute | readPeer | readVerdict | lookup =>
    exact hP.onRequest h fun _ hu => hu
  | enable => exact hP.onRequest h fun _ hu => ownEnable_housed hu
  | withdraw => exact hP.onRequest h fun _ hu => ownWithdraw_housed hu
  | sendExchange | answerArrival | answerWaitExpiry | holdExpiry | traceTransmission | traceReplyArrival | traceWaitExpiry =>
    exact exec_housed_exchanges h rfl
  | workItemTakenUp | walkStep | entriesStep | pairPhaseStep | heldPhaseStep => exact exec_housed_failover h rfl
  | signalArriving | signalLost | trainingWaitExpiry | linkOffer | fabricCreditArrival | reach | idleTick | damagedFrame
  | linkSilenceExpiry | portResetHoldExpiry | probeDue | probeSend | echo | probeWaitExpiry => exact exec_housed_lines h rfl
  | rowFrameStart | lostArbitration | bitError | rowFrameSentWhole | frameBrokenOff | lineHeldLow | cleared | driveRetryExpiry
  | periodicSightingDue | changeSightingDue => exact exec_housed_row h rfl
  | sightingReceived | withdrawReceived | peerEntryStale | peerEntryExpired | clearHoldExpiry | staggerExpiry =>
    exact exec_housed_views h rfl
  | hostRequestArrival | hostCreditArrival | sendCreditReturn | sendControlReply | sendNotice =>
    simp only [exec, execHostRequestArrival, execHostCreditArrival, execSendCreditReturn, execSendControlReply, execSendNotice]
    (repeat' split) <;> apply Leads.next <;> first
      | with_reducible exact h
      | exact h.aside (by simp) (by simp) (by simp) (by simp) (by simp) (by simp) (by simp) (by simp) (by simp)

/-- Settles O58. -/
theorem viewsWorkAndStationStaySound : Obligations.ViewsWorkAndStationStaySound := fun s t h ht =>
  have hhoused := Leads.step (fun _ h => h.housed) exec_housed s t h ht
  ⟨hhoused.viewed.verdicts, hhoused.viewed.peers, hhoused.own, hhoused.work, hhoused.viewed.row, hhoused.station⟩

end Sys2Proof.Machine

namespace Sys2Proof.Machine
open Sys2Proof

/-! ### O55: ports, cells and configuration

A port and its cells are wired when both are sound and their lists agree. An operation of the exchange table changes of them only the
pending traces; an operation of a port changes that port and its cells. -/

theorem State.up_of_eligible {s : State} {y : Nat} {p : PortId} (h : s.eligible y p = true) : (s.port p).state = .up :=
  ((State.eligible_iff s y p).1 h).1

theorem mem_of_cheapest {cost : PortId → Nat} {l : List PortId} {q : PortId} (h : cheapest cost l = some q) : q ∈ l := by
  induction l generalizing q with
  | nil => cases h
  | cons p l ih =>
    unfold cheapest at h
    split at h
    · cases h; exact List.mem_cons_self
    next r hr =>
      split at h <;> cases h
      · exact List.mem_cons_of_mem p (ih hr)
      · exact List.mem_cons_self

theorem State.eligible_of_cheapest {s : State} {y : Nat} {cost : PortId → Nat} {among : List PortId} {q : PortId}
    (h : cheapest cost (s.candidates y among) = some q) : s.eligible y q = true := by
  by_contra hc
  have hmem := mem_of_cheapest h
  unfold State.candidates at hmem
  dsimp only at hmem
  split at hmem
  · exact hc (List.mem_filter.1 hmem).2
  · exact hc (List.mem_filter.1 (List.mem_filter.1 hmem).1).2

theorem State.eligible_of_selectFor {s : State} {a : Word32} {y : Nat} {q : PortId} (h : s.selectFor a y = some q) :
    s.eligible y q = true := State.eligible_of_cheapest h

theorem State.eligible_of_traceChoice {s : State} {y : Nat} {x : Option PortId} {q : PortId} (h : s.traceChoice y x = some q) :
    s.eligible y q = true := by
  unfold State.traceChoice at h
  split at h
  · exact State.eligible_of_cheapest h
  · split at h
    next hq => cases h; exact State.eligible_of_cheapest hq
    · split at h
      next hx => cases h; exact hx
      · cases h

theorem State.linked_of_bares {s t : State} (h : baresOf t.ports = baresOf s.ports) (p : PortId) : (t.port p).state = (s.port p).state := by
  have hp := congrArg Port.state (congrFun h p)
  exact hp

/-- A port with no link has no pending trace (R67). -/
def State.TracedAt (s : State) (p : PortId) : Prop := (s.port p).state.linked = false → (s.port p).pendingTraces = []

/-- What an operation of the exchange table leaves of ports and cells: all but the pending traces, and those of ports with a link. -/
structure State.Wires (s t : State) : Prop where
  bares : baresOf t.ports = baresOf s.ports
  routes : t.routes = s.routes
  config : t.config = s.config
  traced : ∀ p, s.TracedAt p → t.TracedAt p

theorem State.Wires.trans {s t u : State} (h : s.Wires t) (g : t.Wires u) : s.Wires u :=
  ⟨g.bares.trans h.bares, g.routes.trans h.routes, g.config.trans h.config, fun p hp => g.traced p (h.traced p hp)⟩

theorem State.Wires.of_eq {s t : State} (hports : t.ports = s.ports) (hroutes : t.routes = s.routes) (hconfig : t.config = s.config) :
    s.Wires t := by
  have hport : t.port = s.port := by funext p; simp only [State.port, hports]
  exact ⟨by rw [hports], hroutes, hconfig, fun p hp => by unfold State.TracedAt; rw [hport]; exact hp⟩

theorem State.Wires.refl (s : State) : s.Wires s := .of_eq rfl rfl rfl

theorem State.Wires.state {s t : State} (h : s.Wires t) (p : PortId) : (t.port p).state = (s.port p).state := State.linked_of_bares h.bares p

theorem State.Wires.eligible {s t : State} (h : s.Wires t) {y : Nat} {p : PortId} (hp : s.eligible y p = true) : t.eligible y p = true := by
  rw [State.eligible_iff, h.state p, State.cell_congr h.routes]
  exact (State.eligible_iff s y p).1 hp

theorem State.Wires.foldl {α : Type} {f : State → α → State} {I : State → Prop} (h : ∀ u x, I u → u.Wires (f u x))
    (hI : ∀ {u v : State}, u.Wires v → I u → I v) (l : List α) (s : State) (hs : I s) : s.Wires (l.foldl f s) := by
  induction l generalizing s with
  | nil => exact .refl s
  | cons x l ih => exact (h s x hs).trans (ih (f s x) (hI (h s x hs) hs))

section
variable (s : State) (i : Slot)

theorem State.wires_modLive (f : Exchange → Exchange) : s.Wires (s.modLive i f) := .of_eq rfl rfl rfl

theorem State.wires_setPhase (ph : Phase) : s.Wires (s.setPhase i ph) := .of_eq rfl rfl rfl

theorem State.wires_detach : s.Wires (s.detach i) where
  bares := by simp
  routes := rfl
  config := rfl
  traced p hp := by
    unfold State.TracedAt
    rw [State.port_detach]
    exact fun hl => by rw [hp hl]; rfl

theorem State.wires_decideResult (status : ResultStatus) (payload : List Byte) : s.Wires (s.decideResult i status payload) := by
  unfold State.decideResult
  split
  · exact .refl s
  · exact (s.wires_detach i).trans (.of_eq (by simp) (by simp) (by simp))

theorem State.wires_hold (action : Action) : s.Wires (s.hold i action) := .of_eq (by simp) (by simp) (by simp)

theorem State.wires_placeTrace {q : PortId} (hq : (s.port q).state = .up) : s.Wires (s.placeTrace i q) where
  bares := by simp
  routes := by simp
  config := by simp
  traced p hp := by
    unfold State.TracedAt State.placeTrace
    dsimp only
    rw [State.port_modPort]
    split
    next h =>
      subst h
      intro hl
      change (s.port q).state.linked = false at hl
      rw [hq] at hl
      cases hl
    · exact hp

theorem State.wires_traceOrHold (y : Nat) (x : Option PortId) : s.Wires (s.traceOrHold i y x) := by
  unfold State.traceOrHold
  split
  next q hq => exact s.wires_placeTrace i (State.up_of_eligible (State.eligible_of_traceChoice hq))
  · exact s.wires_hold i _

theorem State.wires_seekFate (x : Option PortId) : s.Wires (s.seekFate i x) := by
  unfold State.seekFate
  split
  · exact .refl s
  · split
    · exact s.wires_decideResult i _ _
    · exact s.wires_traceOrHold i _ x

theorem State.wires_unanswered (p : PortId) : s.Wires (s.unanswered p i) := (s.wires_detach i).trans (State.wires_seekFate _ i _)

theorem State.wires_handBack (p : PortId) : s.Wires (State.handBack p s i) := (s.wires_modLive i _).trans (State.wires_unanswered _ i p)

theorem State.wires_dueResend (e : Exchange) : s.Wires (s.dueResend i e) := by
  unfold State.dueResend
  split
  · split
    · exact s.wires_setPhase i _
    · exact s.wires_hold i _
  · exact s.wires_decideResult i _ _

theorem State.wires_becomeSent (p : PortId) : s.Wires (s.becomeSent i p) := .of_eq (by simp) (by simp) (by simp)

theorem State.wires_takeFinding (p : PortId) (e : Exchange) (payload : List Byte) (f : Finding) : s.Wires (s.takeFinding p i e payload f) := by
  cases f
  · exact s.wires_decideResult i _ _
  · exact s.wires_becomeSent i p
  · exact (s.wires_modLive i _).trans (State.wires_dueResend _ i _)

theorem State.wires_returnHeld (a : Word32) (y : Nat) {q : PortId} (hq : (s.port q).state = .up) : s.Wires (s.returnHeld a y q) := by
  rw [State.returnHeld_eq]
  refine State.Wires.foldl (I := fun u => (u.port q).state = .up) (fun u j hu => ?_) (fun h hu => (h.state q).trans hu) _ s hq
  unfold State.returnOne
  split
  · exact u.wires_placeTrace j hu
  · exact u.wires_setPhase j _
  · exact .refl u

theorem State.wires_holdWaiting (a : Word32) (y : Nat) : s.Wires (s.holdWaiting a y) := by
  rw [State.holdWaiting_eq]
  refine State.Wires.foldl (I := fun _ => True) (fun u j _ => ?_) (fun _ _ => trivial) _ s trivial
  unfold State.holdOne
  split
  · exact u.wires_hold j _
  · exact .refl u

theorem State.wires_placePair (a : Word32) (y : Nat) (q : Option PortId) : s.Wires (s.placePair a y q) :=
  .of_eq (by simp) (by simp) (by simp)

theorem State.wires_replacePair (a : Word32) (y : Nat) : s.Wires (s.replacePair a y) := by
  unfold State.replacePair
  split
  next q hq =>
    have h1 := s.wires_placePair a y (some q)
    exact h1.trans (State.wires_returnHeld _ a y (State.up_of_eligible (h1.eligible (State.eligible_of_selectFor hq))))
  · exact (s.wires_placePair a y none).trans (State.wires_holdWaiting _ a y)

theorem State.wires_moveSent (p : PortId) (e : Exchange) : s.Wires (s.moveSent p i e) := by
  unfold State.moveSent
  split
  · exact s.wires_setPhase i _
  · exact s.wires_hold i _
  · split
    · exact s.wires_decideResult i _ _
    · split
      · split
        · exact s.wires_traceOrHold i _ _
        · exact s.wires_hold i _
      · split
        next hq => exact s.wires_placeTrace i (State.up_of_eligible hq)
        · exact s.wires_traceOrHold i _ _

theorem State.wires_walkOne (p : PortId) (e : Exchange) : s.Wires (s.walkOne p i e) := by
  unfold State.walkOne
  have h1 : s.Wires (if s.pairPort e.session e.target = some p ∧ !s.eligible e.target p then s.replacePair e.session e.target else s) := by
    split
    · exact s.wires_replacePair _ _
    · exact .refl s
  refine h1.trans ?_
  generalize (if s.pairPort e.session e.target = some p ∧ !s.eligible e.target p then s.replacePair e.session e.target else s) = u
  dsimp only
  split
  · exact (u.wires_detach i).trans (State.wires_moveSent _ i p e)
  · exact u.wires_unanswered i p
  · exact .refl u

theorem State.wires_handleEntry (p : PortId) (r : EntryRef) : s.Wires (s.handleEntry p r) := by
  unfold State.handleEntry
  split
  · exact .refl s
  · split
    · exact .refl s
    · split
      · exact .of_eq (by simp) (by simp) (by simp)
      · exact s.wires_replacePair _ _

theorem State.wires_handlePair (r : EntryRef) : s.Wires (s.handlePair r) := by
  unfold State.handlePair
  split
  · exact .refl s
  · split
    · split
      next e _ _ _ q hq =>
        have h1 := s.wires_placePair e.session e.target (some q)
        exact h1.trans (State.wires_returnHeld _ _ _ (State.up_of_eligible (h1.eligible (State.eligible_of_selectFor hq))))
      · exact .refl s
    · exact .refl s

theorem State.wires_handleHeld (r : HeldRef) : s.Wires (s.handleHeld r) := by
  unfold State.handleHeld
  split
  · exact .refl s
  · split
    · split
      · split
        next q hq => exact s.wires_placeTrace _ (State.up_of_eligible (State.eligible_of_traceChoice hq))
        · exact .refl s
      · exact s.wires_setPhase _ _
      · exact .refl s
    · exact .refl s

end

/-! #### One port and its cells -/

/-- A port and its cells, sound, with the probes pending and in flight as the cells say. -/
structure PortWired (limit : Nat) (x : Port) (cells : Nat → Cell) : Prop where
  port : x.Sound
  sound : ∀ y ∈ allTargets, (cells y).Sound limit
  pending : ∀ y ∈ allTargets, (cells y).pending = x.pendingProbes.contains y
  targets : ∀ y ∈ x.pendingProbes, y ∈ allTargets
  once : x.pendingProbes.Nodup
  probed : ∀ y ∈ allTargets, (cells y).inFlight.isSome = true ∨ (cells y).pending = true → (cells y).state ≠ .absent ∧ x.state.linked = true

/-- The cells are other than ABSENT exactly for the targets of the list. -/
def ListedBy (reach : List Nat) (cells : Nat → Cell) : Prop := reach = allTargets.filter (fun y => (cells y).state != .absent)

/-- One cell changed. -/
def setCellOf (cells : Nat → Cell) (y : Nat) (x : Cell) (z : Nat) : Cell := if y = z then x else cells z

theorem setCellOf_self (cells : Nat → Cell) (y : Nat) (x : Cell) : setCellOf cells y x y = x := if_pos rfl

theorem setCellOf_other (cells : Nat → Cell) {y z : Nat} (x : Cell) (h : y ≠ z) : setCellOf cells y x z = cells z := if_neg h

section
variable {limit : Nat} {x x' : Port} {cells cells' : Nat → Cell}

theorem PortWired.congr (h : PortWired limit x cells) (hcells : ∀ y, cells' y = cells y) : PortWired limit x cells' := by
  rw [show cells' = cells from funext hcells]
  exact h

/-- The port changed in fields that its cells do not speak of. -/
theorem PortWired.ofPort (h : PortWired limit x cells) (hsound : x'.Sound) (hprobes : x'.pendingProbes = x.pendingProbes)
    (hlinked : x'.state.linked = x.state.linked) : PortWired limit x' cells := by
  obtain ⟨-, sound, pending, targets, once, probed⟩ := h
  exact ⟨hsound, sound, by rw [hprobes]; exact pending, by rw [hprobes]; exact targets, by rw [hprobes]; exact once,
    by rw [hlinked]; exact probed⟩

/-- One cell changed, its mark pending kept. -/
theorem PortWired.setCell (h : PortWired limit x cells) {y : Nat} {c : Cell} (hc : (cells y).Sound limit → c.Sound limit)
    (hpending : c.pending = (cells y).pending)
    (hprobed : ((cells y).inFlight.isSome = true ∨ (cells y).pending = true → (cells y).state ≠ .absent ∧ x.state.linked = true) →
      c.inFlight.isSome = true ∨ c.pending = true → c.state ≠ .absent ∧ x.state.linked = true) :
    PortWired limit x (setCellOf cells y c) where
  port := h.port
  sound z hz := by
    by_cases hy : y = z
    · subst hy
      rw [setCellOf_self]
      exact hc (h.sound y hz)
    · rw [setCellOf_other _ _ hy]
      exact h.sound z hz
  pending z hz := by
    by_cases hy : y = z
    · subst hy
      rw [setCellOf_self, hpending]
      exact h.pending y hz
    · rw [setCellOf_other _ _ hy]
      exact h.pending z hz
  targets := h.targets
  once := h.once
  probed z hz := by
    by_cases hy : y = z
    · subst hy
      rw [setCellOf_self]
      exact hprobed (h.probed y hz)
    · rw [setCellOf_other _ _ hy]
      exact h.probed z hz

/-- The port with the target on its pending probes (R81). -/
def Port.probing (x : Port) (y : Nat) : Port := if x.pendingProbes.contains y then x else { x with pendingProbes := x.pendingProbes ++ [y] }

theorem Port.mem_probing (x : Port) (y z : Nat) : z ∈ (x.probing y).pendingProbes ↔ z ∈ x.pendingProbes ∨ z = y := by
  unfold Port.probing
  split
  next h =>
    have hy : y ∈ x.pendingProbes := List.contains_iff_mem.1 h
    exact ⟨.inl, fun hz => hz.elim id fun hz => hz ▸ hy⟩
  · simp

theorem Port.probing_eq (x : Port) (y : Nat) : ∃ l, x.probing y = { x with pendingProbes := l } := by
  unfold Port.probing
  split
  · exact ⟨_, rfl⟩
  · exact ⟨_, rfl⟩

theorem Port.Sound.probing (h : x.Sound) (hlinked : x.state.linked = true) (y : Nat) : (x.probing y).Sound := by
  obtain ⟨l, hl⟩ := x.probing_eq y
  rw [hl]
  obtain ⟨⟩ := h
  constructor <;> first | assumption | exact fun hc => nomatch hlinked.symm.trans hc

theorem Port.nodup_probing (h : x.pendingProbes.Nodup) (y : Nat) : (x.probing y).pendingProbes.Nodup := by
  unfold Port.probing
  split
  · exact h
  next hy =>
    refine h.append (List.nodup_singleton y) fun z hz hz' => hy ?_
    rw [List.mem_singleton] at hz'
    exact List.contains_iff_mem.2 (hz' ▸ hz)

/-- A monitored cell with none in flight joins the pending probes of its port (R81). -/
theorem PortWired.join (h : PortWired limit x cells) {y : Nat} (hy : y ∈ allTargets) {c : Cell} (hsound : c.Sound limit)
    (habsent : c.state ≠ .absent) (hlinked : x.state.linked = true) (hpending : c.pending = true) :
    PortWired limit (x.probing y) (setCellOf cells y c) where
  port := h.port.probing hlinked y
  sound z hz := by
    by_cases hyz : y = z
    · subst hyz
      rw [setCellOf_self]
      exact hsound
    · rw [setCellOf_other _ _ hyz]
      exact h.sound z hz
  pending z hz := by
    rw [Bool.eq_iff_iff, List.contains_iff_mem, Port.mem_probing]
    by_cases hyz : y = z
    · subst hyz
      rw [setCellOf_self]
      exact iff_of_true hpending (.inr rfl)
    · rw [setCellOf_other _ _ hyz, h.pending z hz, List.contains_iff_mem]
      exact ⟨.inl, fun hz => hz.resolve_right fun hc => hyz hc.symm⟩
  targets z hz := ((x.mem_probing y z).1 hz).elim (h.targets z) fun hz => hz ▸ hy
  once := Port.nodup_probing h.once y
  probed z hz hc := by
    obtain ⟨l, hl⟩ := x.probing_eq y
    refine ⟨?_, by rw [hl]; exact hlinked⟩
    by_cases hyz : y = z
    · subst hyz
      rw [setCellOf_self]
      exact habsent
    · rw [setCellOf_other _ _ hyz] at hc ⊢
      exact (h.probed z hz hc).1

/-- A cell with nothing pending or in flight, its target taken off the pending probes (R78). -/
theorem PortWired.unlist (h : PortWired limit x cells) {y : Nat} {c : Cell} (hsound : c.Sound limit) (hpending : c.pending = false)
    (hflight : c.inFlight = none) :
    PortWired limit { x with pendingProbes := x.pendingProbes.filter (· != y) } (setCellOf cells y c) where
  port := by
    obtain ⟨⟩ := h.port
    constructor <;> first | assumption | skip
    intro hl
    rw [h.port.noProbe hl]
    rfl
  sound z hz := by
    by_cases hyz : y = z
    · subst hyz
      rw [setCellOf_self]
      exact hsound
    · rw [setCellOf_other _ _ hyz]
      exact h.sound z hz
  pending z hz := by
    rw [Bool.eq_iff_iff, List.contains_iff_mem, List.mem_filter]
    by_cases hyz : y = z
    · subst hyz
      rw [setCellOf_self, hpending]
      simp
    · rw [setCellOf_other _ _ hyz, h.pending z hz, List.contains_iff_mem]
      exact ⟨fun hz => ⟨hz, bne_iff_ne.2 (Ne.symm hyz)⟩, And.left⟩
  targets z hz := h.targets z (List.mem_filter.1 hz).1
  once := h.once.filter _
  probed z hz hc := by
    by_cases hyz : y = z
    · subst hyz
      rw [setCellOf_self, hpending, hflight] at hc
      rcases hc with hc | hc <;> cases hc
    · rw [setCellOf_other _ _ hyz] at hc ⊢
      exact h.probed z hz hc

/-- The head of the pending probes goes out and is in flight (R82). -/
theorem PortWired.sent (h : PortWired limit x cells) {y : Nat} {rest : List Nat} (hprobes : x.pendingProbes = y :: rest) {c : Cell}
    (hsound : c.Sound limit) (hpending : c.pending = false) (hstate : c.state = (cells y).state) :
    PortWired limit { x with pendingProbes := rest } (setCellOf cells y c) := by
  have hmem : y ∈ x.pendingProbes := by rw [hprobes]; exact List.mem_cons_self
  have hy := h.targets y hmem
  have hnodup := h.once
  rw [hprobes] at hnodup
  obtain ⟨hnot, hrest⟩ := List.nodup_cons.1 hnodup
  have hmonitored := h.probed y hy (.inr (by rw [h.pending y hy]; exact List.contains_iff_mem.2 hmem))
  refine ⟨?_, fun z hz => ?_, fun z hz => ?_, fun z hz => ?_, hrest, fun z hz hc => ?_⟩
  · have hport := h.port
    obtain ⟨⟩ := h.port
    constructor <;> first | assumption | exact fun hc => nomatch hmonitored.2.symm.trans hc
  · by_cases hyz : y = z
    · subst hyz
      rw [setCellOf_self]
      exact hsound
    · rw [setCellOf_other _ _ hyz]
      exact h.sound z hz
  · rw [Bool.eq_iff_iff, List.contains_iff_mem]
    by_cases hyz : y = z
    · subst hyz
      rw [setCellOf_self, hpending]
      exact iff_of_false (fun hc => nomatch hc) hnot
    · rw [setCellOf_other _ _ hyz, h.pending z hz, List.contains_iff_mem, hprobes, List.mem_cons]
      exact ⟨fun hz => hz.resolve_left (Ne.symm hyz), .inr⟩
  · exact h.targets z (by rw [hprobes]; exact List.mem_cons_of_mem y hz)
  · by_cases hyz : y = z
    · subst hyz
      rw [setCellOf_self, hstate]
      exact hmonitored
    · rw [setCellOf_other _ _ hyz] at hc ⊢
      exact h.probed z hz hc

/-- A cell at the loss of its port's link (R79). -/
def Cell.cut (x : Cell) : Cell := { x with state := .lost, inFlight := none, pending := false, recovery := 0, quiet := 0 }

/-- The cells of the targets in the list at the loss of the link. -/
def cutCells (reach : List Nat) (cells : Nat → Cell) (y : Nat) : Cell := if y ∈ reach then (cells y).cut else cells y

theorem Cell.Sound.cut {c : Cell} (h : c.Sound limit) : c.cut.Sound limit := by
  obtain ⟨step, -, misses, -⟩ := h
  exact ⟨step, Nat.zero_le _, misses, fun hc => (nomatch hc)⟩

/-- The loss of a link (R67, R79): the cells listed are LOST, and nothing is pending or in flight. -/
theorem PortWired.cut (h : PortWired limit x cells) (hlisted : ListedBy x.reach cells) (hsound : x'.Sound) (hprobes : x'.pendingProbes = []) :
    PortWired limit x' (cutCells x.reach cells) := by
  have hnone : ∀ y ∈ allTargets, (cutCells x.reach cells y).inFlight = none ∧ (cutCells x.reach cells y).pending = false := fun y hy => by
    unfold cutCells
    split
    · exact ⟨rfl, rfl⟩
    next hno =>
      have habsent : (cells y).state = .absent := by
        by_contra hc
        exact hno (by rw [hlisted]; exact List.mem_filter.2 ⟨hy, bne_iff_ne.2 hc⟩)
      have hp := h.probed y hy
      refine ⟨?_, ?_⟩
      · by_contra hc
        exact (hp (.inl (Option.isSome_iff_ne_none.2 hc))).1 habsent
      · by_contra hc
        exact (hp (.inr (by simpa using hc))).1 habsent
  refine ⟨hsound, fun y hy => ?_, fun y hy => ?_, ?_, ?_, fun y hy hc => ?_⟩
  · unfold cutCells
    split
    · exact (h.sound y hy).cut
    · exact h.sound y hy
  · rw [(hnone y hy).2, hprobes]
    rfl
  · rw [hprobes]
    exact fun y hy => (nomatch hy)
  · rw [hprobes]
    exact List.nodup_nil
  · rw [(hnone y hy).1, (hnone y hy).2] at hc
    rcases hc with hc | hc <;> cases hc

/-- What is listed stands at the loss of the link. -/
theorem ListedBy.cut (h : ListedBy x.reach cells) : ListedBy x.reach (cutCells x.reach cells) := by
  unfold ListedBy
  conv_lhs => rw [h]
  refine List.filter_congr fun y hy => ?_
  unfold cutCells
  split
  next hmem =>
    rw [h] at hmem
    exact (List.mem_filter.1 hmem).2
  · rfl

theorem ListedBy.congr {reach : List Nat} (h : ListedBy reach cells)
    (hcells : ∀ y ∈ allTargets, (cells' y).state = .absent ↔ (cells y).state = .absent) : ListedBy reach cells' := by
  unfold ListedBy
  rw [h]
  refine List.filter_congr fun y hy => ?_
  rw [Bool.eq_iff_iff, bne_iff_ne, bne_iff_ne, not_iff_not]
  exact (hcells y hy).symm

end

end Sys2Proof.Machine

namespace Sys2Proof.Machine
open Sys2Proof

/-! #### The operations of one port -/

/-- Port p and its cells. -/
structure State.WiredAt (s : State) (p : PortId) : Prop where
  wired : PortWired (missLimit s.config) (s.port p) (fun y => s.cell y p)
  listed : ListedBy (s.port p).reach (fun y => s.cell y p)

/-- Only port p and its cells differ. -/
structure State.OnPort (p : PortId) (s t : State) : Prop where
  config : t.config = s.config
  port : ∀ q, q ≠ p → t.port q = s.port q
  cell : ∀ q, q ≠ p → ∀ y, t.cell y q = s.cell y q

/-- Ports, cells and configuration together. -/
structure State.Wired (s : State) : Prop where
  at_ : ∀ p, s.WiredAt p
  config : configInRange s.config

section
variable {s t u : State} {p q : PortId}

theorem State.OnPort.trans (h : s.OnPort p t) (g : t.OnPort p u) : s.OnPort p u :=
  ⟨g.config.trans h.config, fun q hq => (g.port q hq).trans (h.port q hq), fun q hq y => (g.cell q hq y).trans (h.cell q hq y)⟩

theorem State.OnPort.of_eq (hports : t.ports = s.ports) (hroutes : t.routes = s.routes) (hconfig : t.config = s.config) : s.OnPort p t :=
  ⟨hconfig, fun q _ => by simp only [State.port, hports], fun q _ y => by rw [State.cell_congr hroutes]⟩

theorem State.OnPort.refl (s : State) : s.OnPort p s := .of_eq rfl rfl rfl

theorem State.onPort_modPort (s : State) (p : PortId) (f : Port → Port) : s.OnPort p (s.modPort p f) where
  config := rfl
  port q hq := by rw [State.port_modPort, if_neg (Ne.symm hq)]
  cell q _ y := rfl

theorem State.onPort_modCell (s : State) (y : Nat) (p : PortId) (f : Cell → Cell) : s.OnPort p (s.modCell y p f) where
  config := by simp
  port q _ := by simp only [State.port, State.modCell_ports]
  cell q hq z := State.cell_modCell_other s y z hq f

theorem State.WiredAt.congr (h : s.WiredAt p) (hport : t.port p = s.port p) (hcells : ∀ y, t.cell y p = s.cell y p)
    (hconfig : t.config = s.config) : t.WiredAt p := by
  have hcells : (fun y => t.cell y p) = fun y => s.cell y p := funext hcells
  exact ⟨by rw [hport, hcells, hconfig]; exact h.wired, by rw [hport, hcells]; exact h.listed⟩

theorem State.WiredAt.of_eq (h : s.WiredAt p) (hports : t.ports = s.ports) (hroutes : t.routes = s.routes) (hconfig : t.config = s.config) :
    t.WiredAt p := h.congr (by simp only [State.port, hports]) (fun y => by rw [State.cell_congr hroutes]) hconfig

theorem State.WiredAt.onOther (h : s.WiredAt q) (ho : s.OnPort p t) (hq : q ≠ p) : t.WiredAt q :=
  h.congr (ho.port q hq) (ho.cell q hq) ho.config

theorem State.Wired.onPort (h : s.Wired) (ho : s.OnPort p t) (hp : t.WiredAt p) : t.Wired where
  at_ q := by
    by_cases hq : q = p
    · exact hq ▸ hp
    · exact (h.at_ q).onOther ho hq
  config := by rw [ho.config]; exact h.config

theorem State.Wired.of_eq (h : s.Wired) (hports : t.ports = s.ports) (hroutes : t.routes = s.routes) (hconfig : t.config = s.config) :
    t.Wired := ⟨fun p => (h.at_ p).of_eq hports hroutes hconfig, by rw [hconfig]; exact h.config⟩

/-! Exchange operations. -/

theorem State.Wires.port_eq (h : s.Wires t) (p : PortId) : t.port p = { s.port p with pendingTraces := (t.port p).pendingTraces } := by
  have hp := congrArg (fun x : Port => { x with pendingTraces := (t.port p).pendingTraces }) (congrFun h.bares p)
  exact hp

theorem State.WiredAt.wires (h : s.WiredAt p) (hw : s.Wires t) : t.WiredAt p := by
  have hport := hw.port_eq p
  have hcells : (fun y => t.cell y p) = fun y => s.cell y p := by rw [State.cell_congr hw.routes]
  have htraced := hw.traced p h.wired.port.noTrace
  have hwired := h.wired
  unfold State.TracedAt at htraced
  refine ⟨?_, ?_⟩
  · rw [hcells, hw.config]
    refine hwired.ofPort ?_ (by rw [hport]) (by rw [hport])
    generalize t.port p = y at *
    rw [hport] at htraced ⊢
    obtain ⟨⟩ := hwired.port
    constructor <;> assumption
  · rw [hcells, hport]
    exact h.listed

theorem State.Wired.wires (h : s.Wired) (hw : s.Wires t) : t.Wired := ⟨fun p => (h.at_ p).wires hw, by rw [hw.config]; exact h.config⟩

/-! Ports. -/

theorem State.port_modPort_self (s : State) (p : PortId) (f : Port → Port) : (s.modPort p f).port p = f (s.port p) := by
  rw [State.port_modPort, if_pos rfl]

/-- The port changed in fields that its cells do not speak of. -/
theorem State.WiredAt.modPort (h : s.WiredAt p) (f : Port → Port) (hsound : (f (s.port p)).Sound)
    (hprobes : (f (s.port p)).pendingProbes = (s.port p).pendingProbes) (hlinked : (f (s.port p)).state.linked = (s.port p).state.linked)
    (hreach : (f (s.port p)).reach = (s.port p).reach) : (s.modPort p f).WiredAt p := by
  have hcells : (s.modPort p f).cell = s.cell := State.cell_congr (by simp)
  exact ⟨by rw [State.port_modPort_self, hcells]; exact h.wired.ofPort hsound hprobes hlinked,
    by rw [State.port_modPort_self, hcells, hreach]; exact h.listed⟩

/-! Cells. -/

theorem State.cells_modCell (s : State) {y : Nat} (p : PortId) (f : Cell → Cell) (hy : y ∈ allTargets) :
    (fun z => (s.modCell y p f).cell z p) = setCellOf (fun z => s.cell z p) y (f (s.cell y p)) := by
  funext z
  rw [State.cell_modCell s y z p p f hy]
  unfold setCellOf
  simp

theorem State.port_modCell (s : State) (y : Nat) (p : PortId) (f : Cell → Cell) : (s.modCell y p f).port = s.port := by
  funext q
  simp only [State.port, State.modCell_ports]

/-- One cell changed, its mark pending and whether it is ABSENT kept. -/
theorem State.WiredAt.modCell (h : s.WiredAt p) {y : Nat} (f : Cell → Cell)
    (hsound : (s.cell y p).Sound (missLimit s.config) → (f (s.cell y p)).Sound (missLimit s.config))
    (hpending : (f (s.cell y p)).pending = (s.cell y p).pending)
    (hflight : (f (s.cell y p)).inFlight.isSome = true → (s.cell y p).inFlight.isSome = true)
    (habsent : (f (s.cell y p)).state = .absent ↔ (s.cell y p).state = .absent) : (s.modCell y p f).WiredAt p := by
  by_cases hy : y ∈ allTargets
  · refine ⟨?_, ?_⟩
    · rw [State.port_modCell, State.cells_modCell s p f hy, State.modCell_config]
      refine h.wired.setCell hsound hpending fun hprobed hc => ?_
      obtain ⟨hstate, hlinked⟩ := hprobed (hc.imp hflight fun hc => by rw [← hpending]; exact hc)
      exact ⟨fun ha => hstate (habsent.1 ha), hlinked⟩
    · rw [State.port_modCell, State.cells_modCell s p f hy]
      refine h.listed.congr fun z _ => ?_
      by_cases hyz : y = z
      · subst hyz
        rw [setCellOf_self]
        exact habsent
      · rw [setCellOf_other _ _ hyz]
  · rw [State.modCell_of_not_mem s p f hy]
    exact h

/-! Probes fall due. -/

theorem State.onPort_joinProbe (s : State) (y : Nat) (p : PortId) : s.OnPort p (s.joinProbe y p) := by
  unfold State.joinProbe
  exact (s.onPort_modCell y p _).trans (State.onPort_modPort _ p _)

theorem State.onPort_fallDue (s : State) (y : Nat) (p : PortId) : s.OnPort p (s.fallDue y p) := by
  unfold State.fallDue
  split
  · exact s.onPort_joinProbe y p
  · exact .refl s

theorem State.port_joinProbe (s : State) (y : Nat) (p : PortId) : (s.joinProbe y p).port p = (s.port p).probing y := by
  unfold State.joinProbe
  dsimp only
  rw [State.port_modPort_self, State.port_modCell]
  rfl

theorem State.cells_joinProbe (s : State) {y : Nat} (p : PortId) (hy : y ∈ allTargets) :
    (fun z => (s.joinProbe y p).cell z p) = setCellOf (fun z => s.cell z p) y { s.cell y p with pending := true } := by
  rw [← State.cells_modCell s p (fun x => { x with pending := true }) hy]
  unfold State.joinProbe
  dsimp only
  rw [State.cell_congr (State.modPort_routes _ _ _)]

theorem Port.reach_probing (x : Port) (y : Nat) : (x.probing y).reach = x.reach := by
  obtain ⟨l, hl⟩ := x.probing_eq y
  rw [hl]

theorem State.monitored_iff (s : State) (y : Nat) (p : PortId) : s.monitored y p = true ↔
    (s.cell y p).state ≠ .absent ∧ (s.port p).state.linked = true := by
  unfold State.monitored
  rw [Bool.and_eq_true, bne_iff_ne]

theorem State.WiredAt.joinProbe (h : s.WiredAt p) {y : Nat} (hm : s.monitored y p = true) (hflight : (s.cell y p).inFlight = none) :
    (s.joinProbe y p).WiredAt p := by
  have hy := State.mem_allTargets_of_monitored hm
  obtain ⟨hstate, hlinked⟩ := (s.monitored_iff y p).1 hm
  have hcell := h.wired.sound y hy
  refine ⟨?_, ?_⟩
  · rw [State.port_joinProbe, State.cells_joinProbe s p hy, (s.onPort_joinProbe y p).config]
    refine h.wired.join hy ⟨hcell.step, hcell.quiet, hcell.misses, fun hc => ?_⟩ hstate hlinked rfl
    rw [show (s.cell y p).inFlight = none from hflight] at hc
    cases hc
  · rw [State.port_joinProbe, State.cells_joinProbe s p hy, Port.reach_probing]
    refine h.listed.congr fun z _ => ?_
    by_cases hyz : y = z
    · subst hyz
      rw [setCellOf_self]
    · rw [setCellOf_other _ _ hyz]

theorem State.WiredAt.fallDue (h : s.WiredAt p) (y : Nat) : (s.fallDue y p).WiredAt p := by
  unfold State.fallDue
  split
  next hdue =>
    obtain ⟨hm, hexp⟩ := Bool.and_eq_true_iff.1 hdue
    refine h.joinProbe hm ?_
    by_contra hc
    have hsome := Option.isSome_iff_ne_none.2 hc
    unfold dueAt at hexp
    rw [hsome] at hexp
    cases hexp
  · exact h

theorem State.Wired.fallDue (h : s.Wired) (y : Nat) (p : PortId) : (s.fallDue y p).Wired :=
  h.onPort (s.onPort_fallDue y p) ((h.at_ p).fallDue y)

theorem State.Wired.fallDueAll (h : s.Wired) : s.fallDueAll.Wired := by
  unfold State.fallDueAll
  have hport : ∀ (l : List PortId) (y : Nat) (u : State), u.Wired → (l.foldl (fun v p => v.fallDue y p) u).Wired := fun l y => by
    induction l with
    | nil => exact fun u hu => hu
    | cons p l ih => exact fun u hu => ih _ (hu.fallDue y p)
  generalize allTargets = l
  induction l generalizing s with
  | nil => exact h
  | cons y l ih => exact ih (hport _ _ _ h)

/-! Misses and echoes. -/

/-- Only port p and its cells differ, and they are wired. -/
structure State.Rewired (p : PortId) (s t : State) : Prop where
  onPort : s.OnPort p t
  wired : t.WiredAt p

/-- What differs besides is neither ports, cells nor configuration. -/
theorem State.Rewired.aside (h : s.Rewired p t) (hports : u.ports = t.ports) (hroutes : u.routes = t.routes) (hconfig : u.config = t.config) :
    s.Rewired p u := ⟨h.onPort.trans (.of_eq hports hroutes hconfig), h.wired.of_eq hports hroutes hconfig⟩

theorem State.Rewired.fallDue (h : s.Rewired p t) (y : Nat) : s.Rewired p (t.fallDue y p) :=
  ⟨h.onPort.trans (t.onPort_fallDue y p), h.wired.fallDue y⟩

theorem State.Rewired.trans (h : s.Rewired p t) (g : t.Rewired p u) : s.Rewired p u := ⟨h.onPort.trans g.onPort, g.wired⟩

theorem State.Wired.rewired (h : s.Wired) (hr : s.Rewired p t) : t.Wired := h.onPort hr.onPort hr.wired

/-- A cell's state and recovery count changed, but not to or from ABSENT. -/
theorem State.WiredAt.setState (h : s.WiredAt p) {y : Nat} {st : CellState} (n : Cell → Nat) (hs : (s.cell y p).state ≠ .absent)
    (hst : st ≠ .absent) : s.Rewired p (s.modCell y p (fun x => { x with state := st, recovery := n x })) :=
  ⟨s.onPort_modCell y p _, h.modCell _ (fun hc => ⟨hc.step, hc.quiet, hc.misses, hc.once⟩) rfl id (iff_of_false hst hs)⟩

theorem Cell.Sound.missed {limit : Nat} {c : Cell} (h : c.Sound limit) : (Cell.missed limit c).Sound limit :=
  ⟨Nat.min_le_right _ _, Nat.zero_le _, Nat.min_le_right _ _, h.once⟩

theorem State.WiredAt.miss (h : s.WiredAt p) (y : Nat) : s.Rewired p (s.miss y p) := by
  unfold State.miss
  split
  · exact ⟨.refl s, h⟩
  next hm =>
    have hm : s.monitored y p = true := by simpa using hm
    obtain ⟨hstate, -⟩ := (s.monitored_iff y p).1 hm
    have hy := State.mem_allTargets_of_monitored hm
    have h1 : s.Rewired p (s.modCell y p (Cell.missed (missLimit s.config))) :=
      ⟨s.onPort_modCell y p _, h.modCell _ Cell.Sound.missed rfl id Iff.rfl⟩
    have hcell : ((s.modCell y p (Cell.missed (missLimit s.config))).cell y p).state = (s.cell y p).state := by
      rw [State.cell_modCell s y y p p _ hy, if_pos ⟨rfl, rfl⟩]
      rfl
    dsimp only
    refine State.Rewired.fallDue ?_ y
    split
    · refine (h1.trans (h1.wired.setState (y := y) (st := .lost) (·.recovery) (by rw [hcell]; exact hstate) (fun hc => nomatch hc))).aside ?_ ?_ ?_ <;>
        (split <;> simp)
    · exact h1

theorem State.Wired.miss (h : s.Wired) (y : Nat) (p : PortId) : (s.miss y p).Wired := h.rewired ((h.at_ p).miss y)

theorem State.Wired.exchangeMiss (h : s.Wired) (y : Nat) (p : PortId) (since : Time) : (s.exchangeMiss y p since).Wired := by
  unfold State.exchangeMiss
  split
  · exact h
  · exact h.miss y p

theorem State.Wired.alive (h : s.Wired) (y : Nat) (p : PortId) : (s.alive y p).Wired := by
  unfold State.alive
  split
  · exact h.onPort (s.onPort_modCell y p _)
      ((h.at_ p).modCell _ (fun hc => ⟨hc.step, hc.quiet, Nat.zero_le _, hc.once⟩) rfl id Iff.rfl)
  · exact h

theorem Cell.Sound.echoed {limit : Nat} {c : Cell} (h : c.Sound limit) (cfg : Config.Settings) (latency : Time) :
    (Cell.echoed cfg latency c).Sound limit := by
  unfold Cell.echoed
  have hstep := h.step
  dsimp only
  split
  · exact ⟨Nat.min_le_right _ _, Nat.zero_le _, Nat.zero_le _, fun hc => (nomatch hc)⟩
  · split
    · split
      · exact ⟨by change c.step - 1 ≤ 3; omega, Nat.zero_le _, Nat.zero_le _, fun hc => (nomatch hc)⟩
      next hq =>
        refine ⟨hstep, ?_, Nat.zero_le _, fun hc => (nomatch hc)⟩
        change c.quiet + 1 ≤ 7
        unfold Config.quietRun at hq
        omega
    · exact ⟨hstep, Nat.zero_le _, Nat.zero_le _, fun hc => (nomatch hc)⟩

theorem Cell.echoed_eq (cfg : Config.Settings) (latency : Time) (c : Cell) : (Cell.echoed cfg latency c).state = c.state ∧
    (Cell.echoed cfg latency c).pending = c.pending ∧ (Cell.echoed cfg latency c).inFlight = none := by
  unfold Cell.echoed
  (repeat' split) <;> exact ⟨rfl, rfl, rfl⟩

theorem State.WiredAt.echoState (h : s.WiredAt p) (y : Nat) : s.Rewired p (s.echoState y p) := by
  unfold State.echoState
  dsimp only
  split
  next hstate =>
    exact (h.setState (y := y) (st := .good) (·.recovery) (by rw [hstate]; exact fun hc => nomatch hc) (fun hc => nomatch hc)).aside
      (by simp) (by simp) (by simp)
  next hstate =>
    split
    · exact (h.setState (y := y) (st := .good) (fun _ => 0) (by rw [hstate]; exact fun hc => nomatch hc) (fun hc => nomatch hc)).aside
        (by simp) (by simp) (by simp)
    · exact ⟨s.onPort_modCell y p _, h.modCell _ (fun hc => ⟨hc.step, hc.quiet, hc.misses, hc.once⟩) rfl id Iff.rfl⟩
  · exact ⟨.refl s, h⟩

theorem State.Wired.resolveEcho (h : s.Wired) (y : Nat) (p : PortId) (f : Flight) : (s.resolveEcho y p f).Wired := by
  unfold State.resolveEcho
  dsimp only
  obtain ⟨hstate, hpending, hflight⟩ := Cell.echoed_eq s.config (elapsed s.timeBase f.sentAt) (s.cell y p)
  have h1 := (h.at_ p).modCell (y := y) (Cell.echoed s.config (elapsed s.timeBase f.sentAt)) (fun hc => hc.echoed _ _) hpending
    (fun hc => by rw [hflight] at hc; cases hc) (by rw [hstate])
  exact h.rewired (State.Rewired.fallDue (.trans ⟨s.onPort_modCell y p _, h1⟩ (h1.echoState y)) y)

end

end Sys2Proof.Machine

namespace Sys2Proof.Machine
open Sys2Proof

/-! #### Reachability lists (R63, R78) -/

section
variable {s t u : State} {p q : PortId}

/-- The probes and cells of a port, without its reachability list. -/
def State.ProbedAt (s : State) (p : PortId) : Prop := PortWired (missLimit s.config) (s.port p) (fun y => s.cell y p)

theorem State.cells_enterUntested (s : State) {y : Nat} (p : PortId) (hy : y ∈ allTargets) :
    ∃ c : Cell, c.state = .untested ∧ c.Sound (missLimit s.config) ∧ c.pending = true ∧ c.inFlight = none ∧
      (fun z => (s.enterUntested y p).cell z p) = setCellOf (fun z => s.cell z p) y c ∧
      (s.enterUntested y p).port p = (s.port p).probing y := by
  unfold State.enterUntested
  generalize hf : (fun x : Cell => ({ Cell.afterReset with state := .untested, probeNumber := x.probeNumber, testedSince := some s.timeBase } : Cell)) = f
  refine ⟨{ f (s.cell y p) with pending := true }, ?_, ?_, rfl, ?_, ?_, ?_⟩
  · rw [← hf]
  · rw [← hf]
    exact ⟨Nat.zero_le _, Nat.zero_le _, Nat.zero_le _, fun hc => (nomatch hc)⟩
  · rw [← hf]
    rfl
  · rw [State.cells_joinProbe _ p hy, State.cells_modCell s p f hy]
    funext z
    by_cases hyz : y = z
    · subst hyz
      rw [setCellOf_self, setCellOf_self, State.cell_modCell s y y p p f hy, if_pos ⟨rfl, rfl⟩]
    · rw [setCellOf_other _ _ hyz, setCellOf_other _ _ hyz, setCellOf_other _ _ hyz]
  · rw [State.port_joinProbe, State.port_modCell]

theorem State.onPort_enterUntested (s : State) (y : Nat) (p : PortId) : s.OnPort p (s.enterUntested y p) := by
  unfold State.enterUntested
  exact (s.onPort_modCell y p _).trans (State.onPort_joinProbe _ y p)

theorem State.ProbedAt.enterUntested (h : s.ProbedAt p) {y : Nat} (hy : y ∈ allTargets) (hlinked : (s.port p).state.linked = true) :
    (s.enterUntested y p).ProbedAt p := by
  obtain ⟨c, hstate, hsound, hpending, -, hcells, hport⟩ := s.cells_enterUntested p hy
  unfold State.ProbedAt
  rw [hport, hcells, (s.onPort_enterUntested y p).config]
  exact PortWired.join h hy hsound (by rw [hstate]; exact fun hc => nomatch hc) hlinked hpending

theorem State.cells_enterAbsent (s : State) {y : Nat} (p : PortId) (hy : y ∈ allTargets) :
    (fun z => (s.enterAbsent y p).cell z p) =
      setCellOf (fun z => s.cell z p) y { Cell.afterReset with probeNumber := (s.cell y p).probeNumber } := by
  unfold State.enterAbsent
  rw [State.cell_congr (State.modPort_routes _ _ _), State.cells_modCell s p _ hy]

theorem State.port_enterAbsent (s : State) (y : Nat) (p : PortId) : (s.enterAbsent y p).port p =
    { s.port p with pendingProbes := (s.port p).pendingProbes.filter (· != y) } := by
  unfold State.enterAbsent
  rw [State.port_modPort_self, State.port_modCell]

theorem State.onPort_enterAbsent (s : State) (y : Nat) (p : PortId) : s.OnPort p (s.enterAbsent y p) := by
  unfold State.enterAbsent
  exact (s.onPort_modCell y p _).trans (State.onPort_modPort _ p _)

theorem State.ProbedAt.enterAbsent (h : s.ProbedAt p) {y : Nat} (hy : y ∈ allTargets) : (s.enterAbsent y p).ProbedAt p := by
  unfold State.ProbedAt
  rw [State.port_enterAbsent, State.cells_enterAbsent s p hy, (s.onPort_enterAbsent y p).config]
  exact PortWired.unlist h ⟨Nat.zero_le _, Nat.zero_le _, Nat.zero_le _, fun hc => (nomatch hc)⟩ rfl rfl

/-- What the entry of one target's cell into UNTESTED or ABSENT leaves of the port, and what it makes of the cells. -/
structure State.Listing (p : PortId) (y : Nat) (listed : Bool) (s t : State) : Prop where
  onPort : s.OnPort p t
  probed : s.ProbedAt p → t.ProbedAt p
  state : (t.port p).state = (s.port p).state
  reach : (t.port p).reach = (s.port p).reach
  this : (t.cell y p).state = .absent ↔ listed = false
  others : ∀ z, z ≠ y → t.cell z p = s.cell z p

theorem State.listing_enterUntested (s : State) {y : Nat} (hy : y ∈ allTargets) (hlinked : (s.port p).state.linked = true) :
    State.Listing p y true s (s.enterUntested y p) := by
  obtain ⟨c, hstate, -, -, -, hcells, hport⟩ := s.cells_enterUntested p hy
  obtain ⟨l, hl⟩ := (s.port p).probing_eq y
  refine ⟨s.onPort_enterUntested y p, fun h => h.enterUntested hy hlinked, by rw [hport, hl], by rw [hport, hl], ?_, fun z hz => ?_⟩
  · have hcell := congrFun hcells y
    rw [setCellOf_self] at hcell
    rw [hcell, hstate]
    exact iff_of_false (fun hc => nomatch hc) (fun hc => nomatch hc)
  · have hcell := congrFun hcells z
    rw [setCellOf_other _ _ (Ne.symm hz)] at hcell
    exact hcell

theorem State.listing_enterAbsent (s : State) {y : Nat} (hy : y ∈ allTargets) : State.Listing p y false s (s.enterAbsent y p) := by
  have hport := s.port_enterAbsent y p
  have hcells := s.cells_enterAbsent p hy
  refine ⟨s.onPort_enterAbsent y p, fun h => h.enterAbsent hy, by rw [hport], by rw [hport], ?_, fun z hz => ?_⟩
  · have hcell := congrFun hcells y
    rw [setCellOf_self] at hcell
    rw [hcell]
    exact iff_of_true rfl rfl
  · have hcell := congrFun hcells z
    rw [setCellOf_other _ _ (Ne.symm hz)] at hcell
    exact hcell

theorem State.Listing.aside {y : Nat} {b : Bool} (h : State.Listing p y b s t) (hports : u.ports = t.ports) (hroutes : u.routes = t.routes)
    (hconfig : u.config = t.config) : State.Listing p y b s u := by
  have hport : u.port = t.port := by funext q; simp only [State.port, hports]
  have hcell : u.cell = t.cell := State.cell_congr hroutes
  refine ⟨h.onPort.trans (.of_eq hports hroutes hconfig), fun hs => ?_, by rw [hport]; exact h.state, by rw [hport]; exact h.reach,
    by rw [hcell]; exact h.this, by rw [hcell]; exact h.others⟩
  have ht := h.probed hs
  unfold State.ProbedAt at ht ⊢
  rw [hport, hcell, hconfig]
  exact ht

/-- Each target in turn entered as listed or not. Before its turn a cell is ABSENT as `old` says, or already as `new` does. -/
theorem State.foldl_listing {f : State → Nat → State} {old new : Nat → Bool} (hf : ∀ u : State, ∀ y ∈ allTargets,
      (u.port p).state.linked = true → ((u.cell y p).state = .absent ↔ old y = false) ∨ ((u.cell y p).state = .absent ↔ new y = false) →
      State.Listing p y (new y) u (f u y)) (l : List Nat) (hl : ∀ y ∈ l, y ∈ allTargets) (hlinked : (s.port p).state.linked = true)
    (hold : ∀ y, ((s.cell y p).state = .absent ↔ old y = false) ∨ ((s.cell y p).state = .absent ↔ new y = false)) :
    s.OnPort p (l.foldl f s) ∧ (s.ProbedAt p → (l.foldl f s).ProbedAt p) ∧ ((l.foldl f s).port p).state = (s.port p).state ∧
      ((l.foldl f s).port p).reach = (s.port p).reach ∧
      (∀ y, ((s.cell y p).state = .absent ↔ new y = false) ∨ y ∈ l → (((l.foldl f s).cell y p).state = .absent ↔ new y = false)) := by
  induction l generalizing s with
  | nil => exact ⟨.refl s, id, rfl, rfl, fun y hy => hy.elim id fun hy => (nomatch hy)⟩
  | cons y l ih =>
    have h1 := hf s y (hl y List.mem_cons_self) hlinked (hold y)
    obtain ⟨onPort, probed, state, reach, cells⟩ := ih (s := f s y) (fun z hz => hl z (List.mem_cons_of_mem y hz)) (by rw [h1.state]; exact hlinked)
      (fun z => by
        by_cases hz : z = y
        · subst hz
          exact .inr h1.this
        · rw [h1.others z hz]
          exact hold z)
    refine ⟨h1.onPort.trans onPort, fun hs => probed (h1.probed hs), state.trans h1.state, reach.trans h1.reach, fun z hz => ?_⟩
    by_cases hzy : z = y
    · subst hzy
      exact cells z (.inl h1.this)
    · refine cells z ?_
      rw [h1.others z hzy]
      exact hz.imp id fun hz => (List.mem_cons.1 hz).resolve_left hzy

theorem ListedBy.of_iff {reach : List Nat} {cells : Nat → Cell} (h : reach = allTargets.filter (fun y => reach.contains y))
    (hcells : ∀ y ∈ allTargets, (cells y).state = .absent ↔ reach.contains y = false) : ListedBy reach cells := by
  unfold ListedBy
  rw [h]
  refine List.filter_congr fun y hy => ?_
  rw [Bool.eq_iff_iff, bne_iff_ne, Ne, hcells y hy, Bool.not_eq_false]

theorem reachTargets_eq_filter (reachList : BitVec 64) :
    reachTargets reachList = allTargets.filter (fun y => (reachTargets reachList).contains y) := by
  conv_lhs => unfold reachTargets
  refine List.filter_congr fun y hy => ?_
  rw [Bool.eq_iff_iff, List.contains_iff_mem]
  exact ⟨fun h => List.mem_filter.2 ⟨hy, h⟩, fun h => (List.mem_filter.1 h).2⟩

theorem ListedBy.absent_iff {reach : List Nat} {cells : Nat → Cell} (h : ListedBy reach cells) {y : Nat} (hy : y ∈ allTargets) :
    (cells y).state = .absent ↔ reach.contains y = false := by
  rw [h, ← Bool.not_eq_true, List.contains_iff_mem, List.mem_filter, bne_iff_ne]
  exact ⟨fun hc hm => hm.2 hc, fun hm => by_contra fun hc => hm ⟨hy, hc⟩⟩

/-- No list holds a number that is no target. -/
theorem ListedBy.not_mem {reach : List Nat} {cells : Nat → Cell} (h : ListedBy reach cells) {y : Nat} (hy : y ∉ allTargets) :
    reach.contains y = false := by
  rw [h, ← Bool.not_eq_true, List.contains_iff_mem, List.mem_filter]
  exact fun hm => hy hm.1

theorem State.cell_of_not_mem (s : State) {y : Nat} (p : PortId) (hy : y ∉ allTargets) : s.cell y p = Cell.afterReset := by
  unfold State.cell
  rw [dif_neg]
  exact fun hc => hy (List.mem_range'_1.2 (by omega))

/-- The cells of a port at training are those of its new list (R63). -/
theorem State.trainCells_wired {l : List Nat} (hl : l = allTargets.filter (fun y => l.contains y)) (h : s.ProbedAt p)
    (hreach : (s.port p).reach = l) (hlinked : (s.port p).state.linked = true) : s.Rewired p (s.trainCells p l) := by
  obtain ⟨onPort, probed, -, reach, cells⟩ := State.foldl_listing (s := s) (p := p)
    (f := fun u y => if l.contains y then u.enterUntested y p else u.enterAbsent y p) (old := fun y => decide ((s.cell y p).state ≠ .absent))
    (new := l.contains)
    (fun u y hy hu _ => by
      split
      next hc => rw [hc]; exact u.listing_enterUntested hy hu
      next hc => rw [Bool.not_eq_true] at hc; rw [hc]; exact u.listing_enterAbsent hy) allTargets (fun _ hy => hy) hlinked
    (fun y => .inl (by simp))
  refine ⟨onPort, probed h, ?_⟩
  unfold State.trainCells
  rw [reach, hreach]
  exact ListedBy.of_iff hl fun y hy => cells y (.inr hy)

theorem State.listing_reachTarget {old new : List Nat} (u : State) {y : Nat} (hy : y ∈ allTargets) (hlinked : (u.port p).state.linked = true)
    (hold : ((u.cell y p).state = .absent ↔ old.contains y = false) ∨ ((u.cell y p).state = .absent ↔ new.contains y = false)) :
    State.Listing p y (new.contains y) u (State.reachTarget p old new u y) := by
  unfold State.reachTarget
  split
  next hc =>
    rw [(Bool.and_eq_true_iff.1 hc).1]
    exact u.listing_enterUntested hy hlinked
  next hadd =>
    split
    next hc =>
      have hnew : new.contains y = false := by simpa using (Bool.and_eq_true_iff.1 hc).2
      rw [hnew]
      dsimp only
      refine (u.listing_enterAbsent hy).aside ?_ ?_ ?_ <;> (repeat' split) <;> simp
    next hdrop =>
      have hsame : new.contains y = old.contains y := by
        revert hadd hdrop
        generalize new.contains y = a
        generalize old.contains y = b
        revert a b
        decide
      refine ⟨.refl u, id, rfl, rfl, ?_, fun z _ => rfl⟩
      rw [hsame] at hold ⊢
      exact hold.elim id id

theorem State.WiredAt.takeReach (h : s.WiredAt p) (hlinked : (s.port p).state.linked = true) {l : List Nat}
    (hl : l = allTargets.filter (fun y => l.contains y)) : s.Rewired p (s.takeReach p l) := by
  unfold State.takeReach
  dsimp only
  have hport := s.port_modPort_self p (fun x => { x with reach := l })
  have hcell : (s.modPort p (fun x => { x with reach := l })).cell = s.cell := State.cell_congr (by simp)
  have h1 : (s.modPort p (fun x => { x with reach := l })).ProbedAt p := by
    unfold State.ProbedAt
    rw [hport, hcell]
    refine h.wired.ofPort ?_ rfl rfl
    obtain ⟨⟩ := h.wired.port
    constructor <;> assumption
  obtain ⟨onPort, probed, -, reach, cells⟩ := State.foldl_listing (s := s.modPort p (fun x => { x with reach := l })) (p := p)
    (f := State.reachTarget p (s.port p).reach l) (old := (s.port p).reach.contains) (new := l.contains)
    (fun u y hy hu hold => u.listing_reachTarget hy hu hold) allTargets (fun _ hy => hy) (by rw [hport]; exact hlinked)
    (fun y => by
      rw [hcell]
      by_cases hy : y ∈ allTargets
      · exact .inl (h.listed.absent_iff hy)
      · rw [State.cell_of_not_mem s p hy, h.listed.not_mem hy]
        exact .inl (iff_of_true rfl rfl))
  refine State.Rewired.aside (t := allTargets.foldl (State.reachTarget p (s.port p).reach l) (s.modPort p (fun x => { x with reach := l })))
    ⟨(s.onPort_modPort p _).trans onPort, probed h1, ?_⟩ (by simp) (by simp) (by simp)
  rw [reach, hport]
  exact ListedBy.of_iff hl fun y hy => cells y (.inr hy)

/-! #### The loss of a link -/

theorem Cell.cut_cut (c : Cell) : c.cut.cut = c.cut := rfl

theorem State.cell_foldl_cut (l : List Nat) (hl : ∀ y ∈ l, y ∈ allTargets) (s : State) (p : PortId) (z : Nat) (q : PortId) :
    (l.foldl (fun u y => u.modCell y p Cell.cut) s).cell z q = if q = p ∧ z ∈ l then (s.cell z q).cut else s.cell z q := by
  induction l generalizing s with
  | nil => simp
  | cons y l ih =>
    rw [List.foldl_cons, ih (fun z hz => hl z (List.mem_cons_of_mem y hz)), State.cell_modCell s y z p q _ (hl y List.mem_cons_self)]
    by_cases hq : q = p
    · subst hq
      by_cases hz : y = z
      · subst hz
        simp [Cell.cut_cut]
      · simp [hz, Ne.symm hz]
    · simp [hq, Ne.symm hq]

theorem State.loseCells_eq (s : State) (p : PortId) : s.loseCells p = (s.port p).reach.foldl (fun u y => u.modCell y p Cell.cut) s := rfl

theorem State.cell_loseCells (s : State) (p q : PortId) (hreach : ∀ y ∈ (s.port p).reach, y ∈ allTargets) (z : Nat) :
    (s.loseCells p).cell z q = if q = p ∧ z ∈ (s.port p).reach then (s.cell z q).cut else s.cell z q := by
  rw [State.loseCells_eq, State.cell_foldl_cut _ hreach]

theorem ListedBy.subset {reach : List Nat} {cells : Nat → Cell} (h : ListedBy reach cells) : ∀ y ∈ reach, y ∈ allTargets := fun y hy => by
  rw [h] at hy
  exact (List.mem_filter.1 hy).1

/-- The port without its link. -/
def Port.cut (entered : PortState) (x : Port) : Port :=
  { x with state := entered, credits := 0, silenceEnds := none, pendingProbes := [], pendingTraces := [] }

theorem State.cutLink_eq (s : State) (p : PortId) (entered : PortState) : s.cutLink p entered = (s.modPort p (Port.cut entered)).loseCells p := rfl

theorem State.port_loseCells (s : State) (p : PortId) : (s.loseCells p).port = s.port := by
  funext q
  simp only [State.port, State.loseCells_frame]

/-- What the loss of a working link leaves: the other ports wired, port p cut off and its cells lost. -/
structure State.Cut (p : PortId) (entered : PortState) (s t : State) : Prop where
  config : t.config = s.config
  others : ∀ q, q ≠ p → t.WiredAt q
  port : t.port p = Port.cut entered (s.port p)
  cells : (fun y => t.cell y p) = cutCells (s.port p).reach (fun y => s.cell y p)

theorem State.cut_cutLink (h : s.Wired) (p : PortId) (entered : PortState) : s.Cut p entered (s.cutLink p entered) := by
  rw [State.cutLink_eq]
  have hport := s.port_modPort_self p (Port.cut entered)
  have hcell : (s.modPort p (Port.cut entered)).cell = s.cell := State.cell_congr (by simp)
  have hsub := (h.at_ p).listed.subset
  have hcells := fun z q => State.cell_loseCells (s.modPort p (Port.cut entered)) p q (by rw [hport]; exact hsub) z
  rw [hport, hcell] at hcells
  refine ⟨by simp, fun q hq => ?_, by rw [State.port_loseCells, hport], ?_⟩
  · refine (h.at_ q).congr ?_ (fun y => ?_) (by simp)
    · rw [State.port_loseCells, State.port_modPort, if_neg (Ne.symm hq)]
    · rw [hcells, if_neg fun hc => hq hc.1]
  · funext y
    rw [hcells]
    unfold cutCells
    simp [Port.cut]

theorem State.Cut.wires {entered : PortState} (h : s.Cut p entered t) (hentered : entered.linked = false) (hw : t.Wires u) :
    s.Cut p entered u where
  config := hw.config.trans h.config
  others q hq := (h.others q hq).wires hw
  port := by
    have hport := hw.port_eq p
    have htraced := hw.traced p (fun _ => by rw [h.port]; rfl)
    have hnone : (u.port p).pendingTraces = [] := htraced (by rw [hw.state, h.port]; exact hentered)
    rw [hport, hnone, h.port]
    rfl
  cells := by rw [State.cell_congr hw.routes]; exact h.cells

theorem State.cut_dropLink (h : s.Wired) (p : PortId) {entered : PortState} (hentered : entered.linked = false) :
    s.Cut p entered (s.dropLink p entered) := by
  unfold State.dropLink
  have hw : (s.cutLink p entered).Wires ((s.port p).pendingTraces.foldl (State.handBack p) (s.cutLink p entered)) :=
    State.Wires.foldl (I := fun _ => True) (fun u i _ => u.wires_handBack i p) (fun _ _ => trivial) _ _ trivial
  exact (State.cut_cutLink h p entered).wires hentered (hw.trans (.of_eq (by simp) (by simp) (by simp)))

/-- The port cut off, changed until it is sound. -/
theorem State.Cut.wired {entered : PortState} (h : s.Cut p entered t) (hs : s.Wired) (hconfig : u.config = t.config)
    (hport : ∀ q, q ≠ p → u.port q = t.port q) (hcell : ∀ y q, u.cell y q = t.cell y q) (hsound : (u.port p).Sound)
    (hprobes : (u.port p).pendingProbes = []) (hreach : (u.port p).reach = (s.port p).reach) : u.Wired where
  at_ q := by
    by_cases hq : q = p
    · subst hq
      have hcells : (fun y => u.cell y q) = cutCells (s.port q).reach (fun y => s.cell y q) := (funext fun y => hcell y q).trans h.cells
      refine ⟨?_, ?_⟩
      · rw [hconfig, h.config, hcells]
        exact (hs.at_ q).wired.cut (hs.at_ q).listed hsound hprobes
      · rw [hreach, hcells]
        exact (hs.at_ q).listed.cut
    · exact (h.others q hq).congr (hport q hq) (fun y => hcell y q) hconfig
  config := by rw [hconfig, h.config]; exact hs.config

end

end Sys2Proof.Machine

namespace Sys2Proof.Machine
open Sys2Proof

/-! #### The operations on the whole part -/

theorem PortState.beq_eq (a b : PortState) : (a == b) = decide (a = b) := rfl

section
variable {s t u : State} {p q : PortId}

theorem State.Wired.modPort (h : s.Wired) (p : PortId) (f : Port → Port) (hsound : (s.port p).Sound → (f (s.port p)).Sound)
    (hprobes : (f (s.port p)).pendingProbes = (s.port p).pendingProbes) (hlinked : (f (s.port p)).state.linked = (s.port p).state.linked)
    (hreach : (f (s.port p)).reach = (s.port p).reach) : (s.modPort p f).Wired :=
  h.onPort (s.onPort_modPort p f) ((h.at_ p).modPort f (hsound (h.at_ p).wired.port) hprobes hlinked hreach)

/-- A port whose record is written over field by field: each condition follows from the old ones and the new state. -/
theorem Port.Sound.detected {x : Port} (h : x.Sound) (hstate : x.state = .down) (hbar : x.retryBar = false) (ends : Time) :
    ({ x with state := .training, trainingEnds := some ends } : Port).Sound := by
  obtain ⟨credits, noCredit, identity, linkedIdentity, history, bar, training, silence, hold, noProbe, noTrace⟩ := h
  constructor <;> simp_all [PortState.linked, PortState.beq_eq]

theorem State.Wired.announce (h : s.Wired) (p : PortId) (left : PortState) (cause : PortCause) : (s.announce p left cause).Wired :=
  h.of_eq (by simp) (by simp) (by simp)

theorem State.Wired.detect (h : s.Wired) (p : PortId) : (s.detect p).Wired := by
  unfold State.detect
  split
  next hgo =>
    obtain ⟨hstate, -, hbar⟩ := hgo
    refine State.Wired.announce (h.modPort p _ (fun hx => hx.detected hstate (by simpa using hbar) _) rfl ?_ rfl) _ _ _
    rw [hstate]
    rfl
  · exact h

theorem State.Wired.foldl_detect (l : List PortId) (h : s.Wired) : (l.foldl State.detect s).Wired := by
  induction l generalizing s with
  | nil => exact h
  | cons p l ih => exact ih (h.detect p)

theorem Port.Sound.cut {x : Port} (h : x.Sound) (hlinked : x.state.linked = true) {entered : PortState}
    (hentered : entered = .down ∨ entered = .off) : (Port.cut entered x).Sound := by
  obtain ⟨credits, noCredit, identity, linkedIdentity, history, bar, training, silence, hold, noProbe, noTrace⟩ := h
  rcases hentered with rfl | rfl <;> constructor <;> cases hx : x.state <;> simp_all [PortState.linked, PortState.beq_eq, Port.cut]

theorem State.Wired.loseLink (h : s.Wired) (hlinked : (s.port p).state.linked = true) (cause : PortCause) : (s.loseLink p cause).Wired := by
  unfold State.loseLink
  refine State.Wired.detect (State.Wired.announce ?_ _ _ _) p
  have hcut := State.cut_dropLink h p (entered := .down) rfl
  refine hcut.wired h rfl (fun _ _ => rfl) (fun _ _ => rfl) ?_ ?_ ?_ <;> rw [hcut.port]
  · exact (h.at_ p).wired.port.cut hlinked (.inl rfl)
  · rfl
  · rfl

theorem Port.Sound.withHistory {x : Port} (h : x.Sound) {l : List Time} (hl : l.length ≤ 7) : ({ x with history := l } : Port).Sound := by
  obtain ⟨⟩ := h
  constructor <;> assumption

theorem State.Wired.takeDamaged (h : s.Wired) (p : PortId) : (s.takeDamaged p).Wired := by
  unfold State.takeDamaged
  split
  next hlinked =>
    dsimp only
    have h1 : ∀ f : Time → Bool, (s.modPort p (fun x => { x with history := (s.port p).history.filter f })).Wired := fun f =>
      h.modPort p _ (fun hx => hx.withHistory ((List.length_filter_le _ _).trans hx.history)) rfl rfl rfl
    split
    · exact State.Wired.loseLink (h1 _) (by rw [State.port_modPort_self]; exact hlinked) _
    next hshort =>
      refine State.Wired.modPort (h1 _) p _ (fun hx => hx.withHistory ?_) rfl rfl rfl
      rw [List.length_append, List.length_singleton]
      unfold Config.historyLimit at hshort
      omega
  · exact h

theorem Port.Sound.trained {x : Port} (h : x.Sound) (hstate : x.state = .training) {id credits : Nat} (hid : isSwitch id = true)
    (hcredits : credits ≤ 64) (l : List Nat) (ends : Time) (f : Option FabricFrame) :
    ({ x with
        state := .up, identity := some id, reach := l, credits := credits, history := [], trainingEnds := none
        silenceEnds := some ends, lastSent := f } : Port).Sound := by
  obtain ⟨-, noCredit, identity, linkedIdentity, history, bar, training, silence, hold, noProbe, noTrace⟩ := h
  constructor <;> simp_all [PortState.linked, PortState.beq_eq]

theorem isSwitch_of_offerValid {identity grant : Byte} (h : offerValid identity grant = true) :
    isSwitch identity.toNat = true ∧ grant.toNat - 1 ≤ 64 := by
  unfold offerValid at h
  simp only [Bool.and_eq_true, decide_eq_true_eq] at h
  obtain ⟨⟨⟨hlow, hhigh⟩, -⟩, hgrant⟩ := h
  refine ⟨?_, by omega⟩
  unfold isSwitch
  simp [hlow, hhigh]

theorem State.Wired.comeUp (h : s.Wired) (hstate : (s.port p).state = .training) {identity grant : Byte}
    (hvalid : offerValid identity grant = true) (reachList : BitVec 64) : (s.comeUp p identity grant reachList).Wired := by
  obtain ⟨hid, hgrant⟩ := isSwitch_of_offerValid hvalid
  unfold State.comeUp
  dsimp only
  refine State.Wired.announce ?_ _ _ _
  generalize hf : (fun x : Port => ({ x with
      state := .up, identity := some identity.toNat, reach := reachTargets reachList, credits := grant.toNat - 1, history := [],
      trainingEnds := none, silenceEnds := some (s.timeBase + ms (linkSilence s.config)),
      lastSent := some (.linkAccept (BitVec.ofNat 8 s.station.id.val)) } : Port)) = f
  have hport := s.port_modPort_self p f
  have hcell : (s.modPort p f).cell = s.cell := State.cell_congr (by simp)
  have hwired := (h.at_ p).wired
  have hnone : (s.port p).pendingProbes = [] := hwired.port.noProbe (by rw [hstate]; rfl)
  have hfields : (f (s.port p)).pendingProbes = [] ∧ (f (s.port p)).reach = reachTargets reachList ∧ (f (s.port p)).state = .up := by
    rw [← hf]
    exact ⟨hnone, rfl, rfl⟩
  have h1 : (s.modPort p f).ProbedAt p := by
    have hsound : (f (s.port p)).Sound := by
      rw [← hf]
      exact hwired.port.trained hstate hid hgrant _ _ _
    unfold State.ProbedAt
    rw [hport, hcell]
    obtain ⟨-, sound, pending, -, -, probed⟩ := hwired
    refine ⟨hsound, sound, fun y hy => ?_, ?_, ?_, fun y hy hc => ?_⟩
    · rw [hfields.1]
      rw [hnone] at pending
      exact pending y hy
    · rw [hfields.1]
      exact fun y hy => (nomatch hy)
    · rw [hfields.1]
      exact List.nodup_nil
    · have := (probed y hy hc).2
      rw [hstate] at this
      cases this
  have h2 := State.trainCells_wired (reachTargets_eq_filter reachList) h1 (by rw [hport]; exact hfields.2.1)
    (by rw [hport, hfields.2.2]; rfl)
  exact h.onPort ((s.onPort_modPort p f).trans h2.onPort) h2.wired

theorem State.Wired.heard (h : s.Wired) (p : PortId) : (s.heard p).Wired := by
  unfold State.heard
  split
  next hlinked =>
    refine h.modPort p _ (fun hx => ?_) rfl rfl rfl
    obtain ⟨credits, noCredit, identity, linkedIdentity, history, bar, training, silence, hold, noProbe, noTrace⟩ := hx
    constructor <;> first | assumption | exact hlinked.symm
  · exact h

theorem State.port_heard_state (s : State) (p q : PortId) : ((s.heard p).port q).state = (s.port q).state :=
  congrArg Prod.snd (congrFun (s.heard_facesOf p) q)

theorem State.Wired.transmit (h : s.Wired) (p : PortId) (f : FabricFrame) : (s.transmit p f).Wired := by
  refine h.modPort p _ (fun hx => ?_) rfl rfl rfl
  obtain ⟨credits, noCredit, identity, linkedIdentity, history, bar, training, silence, hold, noProbe, noTrace⟩ := hx
  constructor <;> first | assumption | skip
  · exact (Nat.sub_le _ _).trans credits
  · exact fun hl => by rw [show (s.port p).credits = 0 from noCredit hl]

theorem State.Wired.takeReach (h : s.Wired) (hlinked : (s.port p).state.linked = true) (reachList : BitVec 64) :
    (s.takeReach p (reachTargets reachList)).Wired :=
  h.rewired ((h.at_ p).takeReach hlinked (reachTargets_eq_filter reachList))

/-- The port cut off and changed in one go (R70, R73). -/
theorem State.Wired.dropThen (h : s.Wired) {entered : PortState} (hentered : entered.linked = false) (f : Port → Port)
    (hsound : (f (Port.cut entered (s.port p))).Sound) (hprobes : ∀ x, (f x).pendingProbes = x.pendingProbes)
    (hreach : ∀ x, (f x).reach = x.reach) : ((s.dropLink p entered).modPort p f).Wired := by
  have hcut := State.cut_dropLink h p hentered
  refine hcut.wired h rfl (fun q hq => ?_) (fun y q => ?_) ?_ ?_ ?_
  · rw [State.port_modPort, if_neg (Ne.symm hq)]
  · rw [State.cell_congr (State.modPort_routes _ _ _)]
  · rw [State.port_modPort_self, hcut.port]
    exact hsound
  · rw [State.port_modPort_self, hcut.port, hprobes]
    rfl
  · rw [State.port_modPort_self, hcut.port, hreach]
    rfl

theorem State.Wired.offerIfWork (h : s.Wired) (p : PortId) : (s.offerIfWork p).Wired := h.of_eq (by simp) (by simp) (by simp)

theorem State.Wired.resetPort (h : s.Wired) (p : PortId) : (s.resetPort p).Wired := by
  have hx := (h.at_ p).wired.port
  unfold State.resetPort
  obtain ⟨credits, noCredit, identity, linkedIdentity, history, bar, training, silence, hold, noProbe, noTrace⟩ := hx
  dsimp only
  split
  next hs =>
    refine State.Wired.announce ?_ _ _ _
    refine h.dropThen (entered := .reset) rfl _ ?_ (fun _ => rfl) (fun _ => rfl)
    constructor <;> simp_all [PortState.linked, PortState.beq_eq, Port.cut]
  next hs =>
    refine State.Wired.announce ?_ _ _ _
    refine h.dropThen (entered := .reset) rfl _ ?_ (fun _ => rfl) (fun _ => rfl)
    constructor <;> simp_all [PortState.linked, PortState.beq_eq, Port.cut]
  next hs =>
    refine State.Wired.announce (State.Wired.offerIfWork ?_ p) _ _ _
    refine h.modPort p _ (fun _ => ?_) rfl (by rw [hs] <;> rfl) rfl
    constructor <;> simp_all [PortState.linked, PortState.beq_eq]
  next hs =>
    refine State.Wired.announce (State.Wired.offerIfWork ?_ p) _ _ _
    refine h.modPort p _ (fun _ => ?_) rfl (by rw [hs] <;> rfl) rfl
    constructor <;> simp_all [PortState.linked, PortState.beq_eq]
  next hs =>
    refine State.Wired.announce (State.Wired.offerIfWork ?_ p) _ _ _
    refine h.modPort p _ (fun _ => ?_) rfl (by rw [hs] <;> rfl) rfl
    constructor <;> simp_all [PortState.linked, PortState.beq_eq]
  next hs =>
    refine h.modPort p _ (fun _ => ?_) rfl (by rw [hs] <;> rfl) rfl
    constructor <;> simp_all [PortState.linked, PortState.beq_eq]

theorem State.Wired.portOff (h : s.Wired) (p : PortId) : (s.portOff p).Wired := by
  have hx := (h.at_ p).wired.port
  unfold State.portOff
  obtain ⟨credits, noCredit, identity, linkedIdentity, history, bar, training, silence, hold, noProbe, noTrace⟩ := hx
  dsimp only
  split
  next hs =>
    refine State.Wired.announce ?_ _ _ _
    refine h.dropThen (entered := .off) rfl _ ?_ (fun _ => rfl) (fun _ => rfl)
    constructor <;> simp_all [PortState.linked, PortState.beq_eq, Port.cut]
  next hs =>
    refine State.Wired.announce ?_ _ _ _
    refine h.dropThen (entered := .off) rfl _ ?_ (fun _ => rfl) (fun _ => rfl)
    constructor <;> simp_all [PortState.linked, PortState.beq_eq, Port.cut]
  next hs =>
    refine State.Wired.announce (State.Wired.offerIfWork ?_ p) _ _ _
    refine h.modPort p _ (fun _ => ?_) rfl (by rw [hs] <;> rfl) rfl
    constructor <;> simp_all [PortState.linked, PortState.beq_eq]
  next hs =>
    refine State.Wired.announce (State.Wired.offerIfWork ?_ p) _ _ _
    refine h.modPort p _ (fun _ => ?_) rfl (by rw [hs] <;> rfl) rfl
    constructor <;> simp_all [PortState.linked, PortState.beq_eq]
  next hs =>
    refine State.Wired.announce (State.Wired.offerIfWork ?_ p) _ _ _
    refine h.modPort p _ (fun _ => ?_) rfl (by rw [hs] <;> rfl) rfl
    constructor <;> simp_all [PortState.linked, PortState.beq_eq]
  · exact h

theorem State.Wired.drain (h : s.Wired) (hstate : (s.port p).state = .quiescing) : (s.drain p).Wired := by
  have hx := (h.at_ p).wired.port
  unfold State.drain
  refine State.Wired.announce ?_ _ _ _
  refine h.dropThen (entered := .off) rfl _ ?_ (fun _ => rfl) (fun _ => rfl)
  obtain ⟨credits, noCredit, identity, linkedIdentity, history, bar, training, silence, hold, noProbe, noTrace⟩ := hx
  constructor <;> simp_all [PortState.linked, PortState.beq_eq, Port.cut]

/-- A port goes between UP and QUIESCING. -/
theorem Port.Sound.linkedTo {x : Port} (h : x.Sound) (hlinked : x.state.linked = true) {st : PortState} (hst : st.linked = true) :
    ({ x with state := st } : Port).Sound := by
  obtain ⟨credits, noCredit, identity, linkedIdentity, history, bar, training, silence, hold, noProbe, noTrace⟩ := h
  cases hx : x.state <;> cases st <;> constructor <;> simp_all [PortState.linked, PortState.beq_eq]

theorem State.Wired.quiesce (h : s.Wired) (hstate : (s.port p).state = .up) : (s.quiesce p).Wired := by
  have h1 : (((s.modPort p (fun x => { x with state := .quiescing })).setQuiesceMarks p).announce p .up .quiesceRequested).Wired :=
    State.Wired.announce (State.Wired.of_eq (h.modPort p (fun x => { x with state := .quiescing })
      (fun hx => hx.linkedTo (by rw [hstate]; rfl) rfl) rfl (by rw [hstate]; rfl) rfl) (by simp) (by simp) (by simp)) _ _ _
  unfold State.quiesce
  dsimp only
  split
  · refine h1.drain ?_
    rw [show (((s.modPort p (fun x => { x with state := .quiescing })).setQuiesceMarks p).announce p .up .quiesceRequested).port =
      (s.modPort p (fun x => { x with state := .quiescing })).port from by funext q; simp [State.port], State.port_modPort_self]
  · exact h1

theorem State.Wired.resume (h : s.Wired) (hstate : (s.port p).state = .quiescing) : (s.resume p).Wired := by
  unfold State.resume
  dsimp only
  have h1 : (((s.modPort p (fun x => { x with state := .up })).clearQuiesceMarks p).announce p .quiescing .onRequested).Wired :=
    State.Wired.announce (State.Wired.of_eq (h.modPort p (fun x => { x with state := .up })
      (fun hx => hx.linkedTo (by rw [hstate]; rfl) rfl) rfl (by rw [hstate]; rfl) rfl) (by simp) (by simp) (by simp)) _ _ _
  generalize (((s.modPort p (fun x => { x with state := .up })).clearQuiesceMarks p).announce p .quiescing .onRequested) = u at *
  have hkeeps : ∀ l : List Nat, (l.foldl State.offerPlacement u).ports = u.ports ∧ (l.foldl State.offerPlacement u).routes = u.routes ∧
      (l.foldl State.offerPlacement u).config = u.config := fun l =>
    ⟨foldl_keeps (·.ports) _ (by simp) _ _, foldl_keeps (·.routes) _ (by simp) _ _, foldl_keeps (·.config) _ (by simp) _ _⟩
  obtain ⟨hports, hroutes, hconfig⟩ := hkeeps (allTargets.filter (fun t => (u.cell t p).state == .good && u.someHeld t))
  exact h1.of_eq hports hroutes hconfig

theorem State.Wired.switchOn (h : s.Wired) (hstate : (s.port p).state = .off) : (s.switchOn p).Wired := by
  refine State.Wired.detect (State.Wired.announce (h.modPort p _ (fun hx => ?_) rfl (by rw [hstate]; rfl) rfl) _ _ _) p
  obtain ⟨credits, noCredit, identity, linkedIdentity, history, bar, training, silence, hold, noProbe, noTrace⟩ := hx
  constructor <;> simp_all [PortState.linked, PortState.beq_eq]

theorem State.Wired.drainEmptied (h : s.Wired) (before : State) : (before.drainEmptied s).Wired := by
  unfold State.drainEmptied
  generalize allPorts = l
  induction l generalizing s with
  | nil => exact h
  | cons p l ih =>
    refine ih ?_
    dsimp only
    split
    next he =>
      unfold State.emptiedSince at he
      simp only [Bool.and_eq_true, beq_iff_eq] at he
      exact h.drain he.1.1
    · exact h

theorem State.Wired.close (h : s.Wired) : s.close.Wired := h.of_eq (by simp) (by simp) (by simp)

theorem State.Wired.closeFrom (h : s.Wired) (before : State) : (before.closeFrom s).Wired := (h.drainEmptied before).close

/-! #### CONFIGURE and host reset -/

theorem missLimit_min (before after : Config.Settings) {n : Nat} (h : n ≤ missLimit before) :
    (if missLimit after < missLimit before then min n (missLimit after) else n) ≤ missLimit after := by
  split <;> omega

theorem State.Wired.applyItems (h : s.Wired) (v : Config.Settings) (hv : configInRange v) : (s.applyItems v).Wired := by
  have h2 : (({ s with config := v } : State).mapCells (Cell.underLimits s.config v)).Wired := by
    have hcell : ∀ y ∈ allTargets, ∀ p, (({ s with config := v } : State).mapCells (Cell.underLimits s.config v)).cell y p =
        Cell.underLimits s.config v (s.cell y p) := fun y hy p => by
      have hy := List.mem_range'_1.1 hy
      simp only [State.cell, State.mapCells, dif_pos (show 1 ≤ y ∧ y ≤ 63 by omega), Vector.getElem_map]
    refine ⟨fun p => ⟨?_, ?_⟩, hv⟩
    · obtain ⟨port, sound, pending, targets, once, probed⟩ := (h.at_ p).wired
      refine ⟨port, fun y hy => ?_, fun y hy => ?_, targets, once, fun y hy => ?_⟩
      · rw [hcell y hy]
        exact ⟨(sound y hy).step, (sound y hy).quiet, missLimit_min _ _ (sound y hy).misses, (sound y hy).once⟩
      · rw [hcell y hy]
        exact pending y hy
      · rw [hcell y hy]
        exact probed y hy
    · exact (h.at_ p).listed.congr fun y hy => by rw [hcell y hy]; rfl
  have h3 : ∀ {u : State} (b : Bool), u.Wired → (if b = true then u.fallDueAll else u).Wired := fun b hu => by
    split
    · exact hu.fallDueAll
    · exact hu
  unfold State.applyItems
  dsimp only
  have h3 := h3 (itemChanges s.config v 7) h2
  refine State.Wired.of_eq h3 ?_ ?_ ?_ <;> (repeat' split) <;> simp [State.dropExpired]

theorem Port.Sound.hostReset {x : Port} (h : x.Sound) : x.hostReset.Sound := by
  obtain ⟨credits, noCredit, identity, linkedIdentity, history, bar, training, silence, hold, noProbe, noTrace⟩ := h
  unfold Port.hostReset
  split <;> constructor <;> simp_all [PortState.linked, PortState.beq_eq]

theorem State.port_hostCleared (s : State) (p : PortId) : s.hostCleared.port p = (s.port p).hostReset := by
  simp [State.port, State.hostCleared]

theorem State.cell_foldl_loseCells (hlisted : ∀ p, ListedBy (s.port p).reach (fun y => s.cell y p)) (l : List PortId) (z : Nat) (q : PortId) :
    (l.foldl State.loseCells s).cell z q = if q ∈ l ∧ z ∈ (s.port q).reach then (s.cell z q).cut else s.cell z q := by
  have hsub := fun p => (hlisted p).subset
  clear hlisted
  induction l generalizing s with
  | nil => simp
  | cons p l ih =>
    have hport := s.port_loseCells p
    rw [List.foldl_cons, ih (by rw [hport]; exact hsub), hport, State.cell_loseCells s p q (hsub p) z]
    by_cases hq : q = p
    · subst hq
      by_cases hz : z ∈ (s.port q).reach <;> by_cases hl : q ∈ l <;> simp [hz, hl, Cell.cut_cut]
    · simp [hq]

theorem State.cell_hostCleared (h : s.Wired) (z : Nat) (q : PortId) : s.hostCleared.cell z q =
    if (s.port q).state = .quiescing ∧ z ∈ (s.port q).reach then (s.cell z q).cut else s.cell z q := by
  have hcell : s.hostCleared.cell = s.loseQuiescingCells.cell := State.cell_congr rfl
  rw [hcell, State.loseQuiescingCells, State.cell_foldl_loseCells fun p => (h.at_ p).listed]
  simp [List.mem_filter, mem_allPorts]

theorem Port.hostReset_reach (x : Port) : x.hostReset.reach = x.reach := by
  unfold Port.hostReset
  split <;> rfl

theorem State.Wired.hostCleared (h : s.Wired) : s.hostCleared.Wired where
  at_ p := by
    have hat := h.at_ p
    have hsound := hat.wired.port.hostReset
    have hcell : (fun y => s.hostCleared.cell y p) =
        if (s.port p).state = .quiescing then cutCells (s.port p).reach (fun y => s.cell y p) else fun y => s.cell y p := by
      funext y
      rw [State.cell_hostCleared h]
      by_cases hq : (s.port p).state = .quiescing <;> simp [hq, cutCells]
    refine ⟨?_, ?_⟩
    · rw [State.port_hostCleared, hcell, s.hostCleared_frame.2.1]
      split
      next hq => exact hat.wired.cut hat.listed hsound (by simp [Port.hostReset, hq])
      next hq =>
        refine hat.wired.ofPort hsound ?_ ?_ <;> unfold Port.hostReset <;> split <;> simp_all [PortState.linked, PortState.beq_eq]
    · rw [State.port_hostCleared, hcell, Port.hostReset_reach]
      split
      · exact hat.listed.cut
      · exact hat.listed
  config := by rw [s.hostCleared_frame.2.1]; exact h.config

theorem State.Wired.hostReset (h : s.Wired) : s.hostReset.Wired := by
  unfold State.hostReset
  dsimp only
  refine State.Wired.close (State.Wired.foldl_detect _ ?_)
  have h1 : s.hostCleared.queueRestart.Wired := h.hostCleared.of_eq (by simp) (by simp) (by simp)
  split
  · exact h1
  · exact h1.of_eq (by simp) (by simp) (by simp)

/-- The end of the load: no cell has missed, so that the cells are within any MISS LIMIT. -/
theorem State.Wired.enterStandby (h : s.Wired) (hmisses : ∀ y ∈ allTargets, ∀ p, (s.cell y p).misses = 0)
    (x : LoadOutcome × Config.Settings) (hx : configInRange x.2) (b : Bool) : (s.enterStandby x b).Wired := by
  unfold State.enterStandby
  dsimp only
  refine State.Wired.close (State.Wired.foldl_detect _ ⟨fun p => ⟨?_, (h.at_ p).listed⟩, hx⟩)
  obtain ⟨port, sound, pending, targets, once, probed⟩ := (h.at_ p).wired
  refine ⟨port, fun y hy => ?_, pending, targets, once, probed⟩
  exact ⟨(sound y hy).step, (sound y hy).quiet, (hmisses y hy p).trans_le (Nat.zero_le _), (sound y hy).once⟩

end

end Sys2Proof.Machine

namespace Sys2Proof.Machine
open Sys2Proof

/-! #### O55: the dispatch -/

/-- Ports, cells and configuration outside a command's blocks. -/
theorem exec_keeps {c : Instr} {s t : State} (h : s.raised = []) (ht : exec c s = .next t) :
    (Block.station ∉ blocksOf c → t.station = s.station) ∧ (Block.ports ∉ blocksOf c → t.ports = s.ports) ∧
    (Block.routes ∉ blocksOf c → t.routes = s.routes) ∧ (Block.config ∉ blocksOf c → t.config = s.config) :=
  ⟨fun hb => commandsKeepOtherBlocks c s t _ h ht hb, fun hb => commandsKeepOtherBlocks c s t _ h ht hb,
    fun hb => commandsKeepOtherBlocks c s t _ h ht hb, fun hb => commandsKeepOtherBlocks c s t _ h ht hb⟩

theorem State.Sound.wired {s : State} (h : s.Sound) : s.Wired where
  at_ p := ⟨⟨h.bounded.ports p, fun y hy => h.bounded.cells y hy p, h.routes.pending p, h.routes.targets p, h.routes.once p,
    fun y hy hc => (s.monitored_iff y p).1 (h.routes.probed p y hy hc)⟩, h.routes.listed p⟩
  config := h.bounded.config

theorem State.Wired.setCurrent {s : State} (h : s.Wired) (x : Option InProgress) : (s.setCurrent x).Wired := h.of_eq rfl rfl rfl

theorem State.Wired.finishLoss {s : State} (h : s.Wired) (scope : LossScope) : (s.finishLoss scope).Wired := h.of_eq (by simp) (by simp) (by simp)

theorem State.Wired.beginEntries {s : State} (h : s.Wired) (scope : LossScope) (horizon : Time) : (s.beginEntries scope horizon).Wired :=
  h.of_eq (by simp) (by simp) (by simp)

theorem State.Wired.beginHeld {s : State} (h : s.Wired) (y : Nat) : (s.beginHeld y).Wired := h.of_eq (by simp) (by simp) (by simp)

theorem wired_linkFree : LinkFree State.Wired := fun _ _ h => h.of_eq rfl rfl rfl

/-- Resets and the end of the load. -/
theorem exec_wired_reset {c : Instr} {s : State} (h : s.Sound) (hc : c matches .powerOn .. | .resetPinAsserted | .resetPinReleased ..
    | .eepromLoadComplete .. | .eepromReadTimeout .. | .hostLinkResetSequence) : Leads State.Wired (exec c s) := by
  have ht := h.wired
  cases c <;> cases hc
  case powerOn straps pin =>
    simp only [exec, execPowerOn, State.fullResetHeld, State.fullResetBegun]
    split <;> exact .next (State.afterFullReset_sound _ _ _ rfl rfl).wired
  case resetPinAsserted =>
    simp only [exec, execResetPinAsserted, State.fullResetHeld]
    split
    · exact .next ht
    · exact .next (State.afterFullReset_sound _ _ _ rfl rfl).wired
  case resetPinReleased straps =>
    simp only [exec, execResetPinReleased, State.fullResetBegun]
    split
    · exact .next (State.afterFullReset_sound _ _ _ rfl rfl).wired
    · exact .next ht
  case eepromLoadComplete image sequence =>
    simp only [exec, execEepromLoadComplete]
    split
    next hload _ => exact .next (ht.enterStandby (h.bounded.loadingCells hload) _ (configInRange_loadImage _) _)
    · exact .next ht
  case eepromReadTimeout sequence =>
    simp only [exec, execEepromReadTimeout]
    split
    next hload _ =>
      split
      · exact .next (ht.enterStandby (h.bounded.loadingCells hload) _ (configInRange_loadImage _) _)
      · exact .next ht
    · exact .next ht
  case hostLinkResetSequence =>
    simp only [exec, execHostLinkResetSequence]
    split
    · exact .next ht
    · exact .next ht.hostReset

/-- The commands on exchanges and traces, and those of the Failover Engine. -/
theorem exec_wired_exchanges {c : Instr} {s : State} (h : s.Wired) (hc : c matches .sendExchange .. | .answerArrival ..
    | .answerWaitExpiry .. | .holdExpiry .. | .traceTransmission .. | .traceReplyArrival .. | .traceWaitExpiry .. | .walkStep
    | .entriesStep | .pairPhaseStep | .heldPhaseStep) : Leads State.Wired (exec c s) := by
  cases c <;> cases hc
  case sendExchange p =>
    simp only [exec, execSendExchange]
    split
    · split
      · exact .next h
      next i _ =>
        split
        · exact .next h
        next e _ =>
          have h1 := h.wires ((s.wires_modLive i (fun _ => e.afterSend)).trans (State.wires_becomeSent _ i p))
          exact .next (h1.transmit p _).close
    · exact .next h
  case answerArrival p tag attempt payload =>
    simp only [exec, execAnswerArrival]
    (repeat' split) <;> apply Leads.next <;> first
      | with_reducible exact h
      | with_reducible exact h.heard p
      | with_reducible exact (h.takeDamaged p).close
      | exact (((h.heard p).wires (State.wires_decideResult _ (tagSlot tag) .completed payload)).alive _ p).closeFrom _
  case answerWaitExpiry i =>
    simp only [exec, execAnswerWaitExpiry]
    split
    · exact .next h
    next e hlive =>
      split
      next p d at_ hp =>
        split
        · have h2 := (h.wires (s.wires_detach i)).exchangeMiss e.target p at_
          refine .next (State.Wired.closeFrom ?_ _)
          split
          · exact h2.wires (State.wires_dueResend _ i e)
          · exact h2.wires (State.wires_seekFate _ i _)
        · exact .next h
      · exact .next h
  case holdExpiry i =>
    simp only [exec, execHoldExpiry]
    (repeat' split) <;> apply Leads.next <;> first
      | with_reducible exact h
      | exact (h.wires (State.wires_decideResult _ _ _ _)).close
  case traceTransmission p =>
    simp only [exec, execTraceTransmission]
    have hmod : ∀ i rest, (s.port p).pendingTraces = i :: rest → (s.modPort p (fun x => { x with pendingTraces := rest })).Wired :=
      fun i rest htraces => h.modPort p _ (fun hx => by
        obtain ⟨credits, noCredit, identity, linkedIdentity, history, bar, training, silence, hold, noProbe, noTrace⟩ := hx
        constructor <;> first | assumption | exact fun hl => nomatch htraces.symm.trans (noTrace hl)) rfl rfl rfl
    split
    · split
      · exact .next h
      next i rest htraces =>
        split
        · exact .next (hmod i rest htraces)
        · exact .next ((hmod i rest htraces).transmit p _)
    · exact .next h
  case traceReplyArrival p tag attempt finding payload =>
    simp only [exec, execTraceReplyArrival]
    (repeat' split) <;> apply Leads.next <;> first
      | with_reducible exact h
      | with_reducible exact h.heard p
      | with_reducible exact (h.takeDamaged p).close
      | exact ((((h.heard p).wires (State.wires_detach _ (tagSlot tag))).alive _ p).wires (State.wires_takeFinding _ (tagSlot tag) p _ _ _)).closeFrom _
  case traceWaitExpiry i =>
    simp only [exec, execTraceWaitExpiry]
    (repeat' split) <;> apply Leads.next <;> first
      | with_reducible exact h
      | exact (h.wires (State.wires_unanswered _ i _)).closeFrom _
  case walkStep =>
    simp only [exec, execWalkStep]
    (repeat' split) <;> apply Leads.next <;> with_reducible first
      | exact h
      | exact (h.wires (State.wires_walkOne _ _ _ _)).closeFrom _
      | exact h.beginEntries _ _
  case entriesStep =>
    simp only [exec, execEntriesStep]
    (repeat' split) <;> apply Leads.next <;> with_reducible first
      | exact h
      | exact ((h.wires (State.wires_handleEntry _ _ _)).finishLoss _).close
      | exact ((h.wires (State.wires_handleEntry _ _ _)).setCurrent _).close
      | exact h.finishLoss _
  case pairPhaseStep =>
    simp only [exec, execPairPhaseStep]
    (repeat' split) <;> apply Leads.next <;> with_reducible first
      | exact h
      | exact ((h.wires (State.wires_handlePair _ _)).beginHeld _).close
      | exact ((h.wires (State.wires_handlePair _ _)).setCurrent _).close
      | exact h.beginHeld _
  case heldPhaseStep =>
    simp only [exec, execHeldPhaseStep]
    (repeat' split) <;> apply Leads.next <;> with_reducible first
      | exact h
      | exact ((h.wires (State.wires_handleHeld _ _)).setCurrent _).close
      | exact h.setCurrent _

/-- A probe sent takes the head of the pending probes (R82). -/
theorem State.Wired.sendProbe {s : State} (h : s.Wired) {p : PortId} {y : Nat} {rest : List Nat} (hprobes : (s.port p).pendingProbes = y :: rest) :
    ((s.modPort p (fun x => { x with pendingProbes := rest })).modCell y p (Cell.probed s.timeBase s.config)).Wired := by
  have hat := h.at_ p
  have hy := hat.wired.targets y (by rw [hprobes]; exact List.mem_cons_self)
  have hport := s.port_modPort_self p (fun x => { x with pendingProbes := rest })
  have hcell : (s.modPort p (fun x => { x with pendingProbes := rest })).cell = s.cell := State.cell_congr (by simp)
  have hsound := hat.wired.sound y hy
  refine h.onPort ((s.onPort_modPort p _).trans (State.onPort_modCell _ y p _)) ⟨?_, ?_⟩
  · rw [State.port_modCell, State.cells_modCell _ p _ hy, hport, hcell, State.modCell_config, State.modPort_config]
    exact hat.wired.sent hprobes ⟨hsound.step, hsound.quiet, hsound.misses, fun _ => rfl⟩ rfl rfl
  · rw [State.port_modCell, State.cells_modCell _ p _ hy, hport, hcell]
    refine hat.listed.congr fun z _ => ?_
    by_cases hyz : y = z
    · subst hyz
      rw [setCellOf_self]
      exact Iff.rfl
    · rw [setCellOf_other _ _ hyz]

/-- The commands of the fabric lines and of routes. -/
theorem exec_wired_lines {c : Instr} {s : State} (h : s.Wired) (hc : c matches .signalArriving .. | .signalLost ..
    | .trainingWaitExpiry .. | .linkOffer .. | .fabricCreditArrival .. | .reach .. | .idleTick .. | .damagedFrame ..
    | .linkSilenceExpiry .. | .portResetHoldExpiry .. | .probeDue .. | .probeSend .. | .echo .. | .probeWaitExpiry ..) :
    Leads State.Wired (exec c s) := by
  have hlinked : ∀ p st, (s.port p).state = st → st.linked = true → (s.port p).state.linked = true := fun p st hs hst => by rw [hs]; exact hst
  cases c <;> cases hc
  case signalArriving p =>
    simp only [exec, execSignalArriving]
    have h1 := h.modPort p (fun x => { x with signal := true }) (fun hx => by obtain ⟨⟩ := hx; constructor <;> assumption) rfl rfl rfl
    split
    · exact .next h1
    · exact .next (h1.detect p).close
  case signalLost p =>
    simp only [exec, execSignalLost]
    have h1 := h.modPort p (fun x => { x with signal := false, retryBar := false })
      (fun hx => by obtain ⟨⟩ := hx; constructor <;> first | assumption | exact fun hc => (nomatch hc)) rfl rfl rfl
    have hstate : ((s.modPort p (fun x => { x with signal := false, retryBar := false })).port p).state = (s.port p).state := by
      rw [State.port_modPort_self]
    split
    next hs =>
      refine .next (State.Wired.close (State.Wired.announce (h1.modPort p _ (fun hx => ?_) rfl ?_ rfl) _ _ _))
      · rw [hs] at hstate
        obtain ⟨credits, noCredit, identity, linkedIdentity, history, bar, training, silence, hold, noProbe, noTrace⟩ := hx
        constructor <;> simp_all [PortState.linked, PortState.beq_eq]
      · rw [hstate, hs]
        rfl
    next hs => exact .next (h1.loseLink (by rw [hstate, hs]; rfl) _).close
    next hs => exact .next (h1.loseLink (by rw [hstate, hs]; rfl) _).close
    all_goals exact .next h1
  case trainingWaitExpiry p =>
    simp only [exec, execTrainingWaitExpiry]
    split
    next hgo =>
      refine .next (State.Wired.close (State.Wired.announce (h.modPort p _ (fun hx => ?_) rfl (by rw [hgo.1]; rfl) rfl) _ _ _))
      have hs := hgo.1
      obtain ⟨credits, noCredit, identity, linkedIdentity, history, bar, training, silence, hold, noProbe, noTrace⟩ := hx
      constructor <;> simp_all [PortState.linked, PortState.beq_eq]
    · exact .next h
  case linkOffer p identity grant reachList =>
    simp only [exec, execLinkOffer]
    have hrestart : (s.port p).state.linked = true → offerValid identity grant = true →
        (if (((s.loseLink p .switchRestart).settleReady).port p).state = .training
          then (s.loseLink p .switchRestart).settleReady.comeUp p identity grant reachList
          else (s.loseLink p .switchRestart).settleReady).close.Wired := fun hl hvalid => by
      have h1 : (s.loseLink p .switchRestart).settleReady.Wired := (h.loseLink hl .switchRestart).of_eq (by simp) (by simp) (by simp)
      split
      next ht => exact (h1.comeUp ht hvalid reachList).close
      · exact h1.close
    split
    next hs =>
      split
      next hvalid => exact .next (h.comeUp hs hvalid reachList).close
      · exact .next h
    next hs =>
      split
      next hvalid => exact .next (hrestart (by rw [hs]; rfl) hvalid)
      · exact .next (h.heard p)
    next hs =>
      split
      next hvalid => exact .next (hrestart (by rw [hs]; rfl) hvalid)
      · exact .next (h.heard p)
    all_goals exact .next h
  case fabricCreditArrival p count =>
    simp only [exec, execFabricCreditArrival]
    split
    next hl =>
      refine .next ((h.heard p).modPort p _ (fun hx => ?_) rfl rfl rfl)
      have hl : ((s.heard p).port p).state.linked = true := by rw [State.port_heard_state]; exact hl
      obtain ⟨credits, noCredit, identity, linkedIdentity, history, bar, training, silence, hold, noProbe, noTrace⟩ := hx
      constructor <;> first | assumption | exact Nat.min_le_right _ _ | exact fun hc => nomatch hl.symm.trans hc
    · exact .next h
  case reach p reachList =>
    simp only [exec, execReach]
    split
    next hl => exact .next (State.Wired.close ((h.heard p).takeReach (by rw [State.port_heard_state]; exact hl) reachList))
    · exact .next h
  case idleTick p => exact .next (h.heard p)
  case damagedFrame p => exact .next (h.takeDamaged p).close
  case linkSilenceExpiry p =>
    simp only [exec, execLinkSilenceExpiry]
    split
    next hgo => exact .next (h.loseLink (Bool.and_eq_true_iff.1 hgo).1 _).close
    · exact .next h
  case portResetHoldExpiry p =>
    simp only [exec, execPortResetHoldExpiry]
    split
    next hgo =>
      refine .next (State.Wired.close (State.Wired.detect (State.Wired.announce (h.modPort p _ (fun hx => ?_) rfl (by rw [hgo.1]; rfl) rfl) _ _ _) p))
      have hs := hgo.1
      obtain ⟨credits, noCredit, identity, linkedIdentity, history, bar, training, silence, hold, noProbe, noTrace⟩ := hx
      constructor <;> simp_all [PortState.linked, PortState.beq_eq]
    · exact .next h
  case probeDue y p => exact .next (h.fallDue y p)
  case probeSend p =>
    simp only [exec, execProbeSend]
    split
    · split
      · exact .next h
      next y rest hprobes => exact .next ((h.sendProbe hprobes).transmit p _)
    · exact .next h
  case echo p target number =>
    simp only [exec, execEcho]
    (repeat' split) <;> apply Leads.next <;> first
      | with_reducible exact h
      | with_reducible exact h.heard p
      | with_reducible exact (h.takeDamaged p).close
      | exact ((h.heard p).resolveEcho _ _ _).close
  case probeWaitExpiry y p =>
    simp only [exec, execProbeWaitExpiry]
    split
    · split
      · have h1 : (s.modCell y p (fun x => { x with inFlight := none })).Wired := h.onPort (s.onPort_modCell y p _)
          ((h.at_ p).modCell _ (fun hc => ⟨hc.step, hc.quiet, hc.misses, fun hc => (nomatch hc)⟩) rfl (fun hc => (nomatch hc)) Iff.rfl)
        exact .next (h1.miss y p).close
      · exact .next h
    · exact .next h

section
variable {u : State}

theorem ownConfigure_wired (h : u.Wired) (items : List (Nat × Nat)) : (ownConfigure items u).state.Wired := by
  unfold ownConfigure
  (repeat' split) <;> first | with_reducible exact h | exact (h.applyItems _ (configInRange_clampAll _)).close

theorem ownPort_wired (h : u.Wired) : (∀ a, (ownPortOffGraceful a u).state.Wired) ∧ (∀ a, (ownPortOffImmediate a u).state.Wired) ∧
    (∀ p, (ownPortOn p u).state.Wired) := by
  refine ⟨fun a => ?_, fun a => ?_, fun p => ?_⟩
  · simp only [ownPortOffGraceful, doneWith, refusedWith]
    split
    next hs => exact (h.quiesce hs).close
    · exact (h.portOff _).close
    · exact (h.portOff _).close
    · exact (h.portOff _).close
    · exact h
    · exact h
  · simp only [ownPortOffImmediate, doneWith, refusedWith]
    split
    · exact h
    · exact (h.portOff _).close
  · simp only [ownPortOn, doneWith, refusedWith]
    split
    next hs => exact (h.switchOn hs).close
    next hs => exact (h.resume hs).close
    all_goals exact h

theorem endWith_wired {act : Slot → Exchange → State → State} (h : u.Wired) (hact : ∀ i e, (act i e u).Wired) (x : Word32) :
    (endWith act x u).state.Wired := by
  simp only [endWith, doneWith, refusedWith]
  (repeat' split) <;> first | with_reducible exact h | with_reducible exact (hact _ _).closeFrom _

end

/-- Every command keeps ports, cells and configuration sound and in agreement. -/
theorem exec_wired (c : Instr) (s : State) (hsound : s.Sound) : Leads State.Wired (exec c s) := by
  have h := hsound.wired
  have hP := wired_linkFree
  have hkeeps : Block.ports ∉ blocksOf c ∧ Block.routes ∉ blocksOf c ∧ Block.config ∉ blocksOf c → Leads State.Wired (exec c s) :=
    fun hb t ht => by
      obtain ⟨-, hports, hroutes, hconfig⟩ := exec_keeps hsound.link.raised ht
      exact h.of_eq (hports hb.1) (hroutes hb.2.1) (hconfig hb.2.2)
  cases c with
  | powerOn | resetPinAsserted | resetPinReleased | eepromLoadComplete | eepromReadTimeout | hostLinkResetSequence =>
    exact exec_wired_reset hsound rfl
  | configure => exact (hP.request h).1 fun x hu => ownConfigure_wired hu x
  | portOffGraceful => exact (hP.request h).2.1 fun a hu => (ownPort_wired hu).1 a
  | portOffImmediate => exact (hP.request h).2.2.1 fun a hu => (ownPort_wired hu).2.1 a
  | portOn => exact hP.onRequest h fun p hu => (ownPort_wired hu).2.2 p
  | resetPort => exact hP.onRequest h fun p hu => (hu.resetPort p).close
  | endExchange => exact hP.onRequest h fun x hu => endWith_wired hu (fun i _ => hu.wires (State.wires_decideResult _ i _ _)) x
  | cancel =>
    exact hP.onRequest h fun x hu => endWith_wired hu (fun i e => hu.wires ((State.wires_detach _ i).trans (.of_eq (by simp) (by simp) (by simp)))) x
  | hostReset => exact hP.onRequest h fun _ hu => hu.hostReset
  | sendExchange | answerArrival | answerWaitExpiry | holdExpiry | traceTransmission | traceReplyArrival | traceWaitExpiry
  | walkStep | entriesStep | pairPhaseStep | heldPhaseStep => exact exec_wired_exchanges h rfl
  | signalArriving | signalLost | trainingWaitExpiry | linkOffer | fabricCreditArrival | reach | idleTick | damagedFrame
  | linkSilenceExpiry | portResetHoldExpiry | probeDue | probeSend | echo | probeWaitExpiry => exact exec_wired_lines h rfl
  | _ => exact hkeeps (by simp [blocksOf])

/-! #### LOADING: every port DOWN, and no cell has missed (R59, R77) -/

/-- Ports keep their states and cells their miss counts. -/
structure State.Dormant (s t : State) : Prop where
  states : ∀ p, (t.port p).state = (s.port p).state
  misses : ∀ y p, (t.cell y p).misses = (s.cell y p).misses

section
variable {s t u : State}

theorem State.Dormant.refl (s : State) : s.Dormant s := ⟨fun _ => rfl, fun _ _ => rfl⟩

theorem State.Dormant.trans (h : s.Dormant t) (g : t.Dormant u) : s.Dormant u :=
  ⟨fun p => (g.states p).trans (h.states p), fun y p => (g.misses y p).trans (h.misses y p)⟩

theorem State.Dormant.of_eq (hports : t.ports = s.ports) (hroutes : t.routes = s.routes) : s.Dormant t :=
  ⟨fun p => by simp only [State.port, hports], fun y p => by rw [State.cell_congr hroutes]⟩

theorem State.Wires.dormant (h : s.Wires t) : s.Dormant t := ⟨h.state, fun y p => by rw [State.cell_congr h.routes]⟩

theorem State.dormant_modPort (s : State) (p : PortId) (f : Port → Port) (hf : (f (s.port p)).state = (s.port p).state) :
    s.Dormant (s.modPort p f) where
  states q := by
    rw [State.port_modPort]
    split
    next h => rw [← h, hf]
    · rfl
  misses y q := by rw [State.cell_congr (State.modPort_routes _ _ _)]

theorem State.miss_eq_of_unlinked (y : Nat) {p : PortId} (h : (s.port p).state = .down) : s.miss y p = s := by
  unfold State.miss
  rw [if_pos]
  unfold State.monitored
  rw [h]
  simp [PortState.linked, PortState.beq_eq]

theorem State.exchangeMiss_eq_of_unlinked (y : Nat) {p : PortId} (h : (s.port p).state = .down) (since : Time) :
    s.exchangeMiss y p since = s := by
  unfold State.exchangeMiss
  rw [State.miss_eq_of_unlinked y h]
  split <;> rfl

theorem State.drainEmptied_eq_of_none {before : State} (h : ∀ p, before.emptiedSince s p = false) : before.drainEmptied s = s := by
  unfold State.drainEmptied
  have hl : ∀ l : List PortId, l.foldl (fun u p => if before.emptiedSince u p then u.drain p else u) s = s := fun l => by
    induction l with
    | nil => rfl
    | cons p l ih => rw [List.foldl_cons, h p, if_neg (by simp), ih]
  exact hl _

theorem State.dormant_closeFrom {before : State} (h : ∀ p, (s.port p).state = .down) : s.Dormant (before.closeFrom s) := by
  unfold State.closeFrom
  rw [State.drainEmptied_eq_of_none fun p => by unfold State.emptiedSince; rw [h p]; rfl]
  exact .of_eq (by simp) (by simp)

theorem State.onRequest_eq_of_loading (h : s.station.state = .loading) {α : Type} (code : Byte) (read : List Byte → Option α)
    (owner : α → State → Answered) : s.onRequest code read owner = .next s := by
  unfold State.onRequest State.controlHead State.headFree State.linkUp
  rw [h]
  rfl

theorem State.takeDamaged_eq_of_unlinked {p : PortId} (h : (s.port p).state = .down) : s.takeDamaged p = s := by
  unfold State.takeDamaged
  rw [h]
  rfl

theorem State.heard_eq_of_unlinked {p : PortId} (h : (s.port p).state = .down) : s.heard p = s := by
  unfold State.heard
  rw [h]
  rfl

/-- While the station is LOADING with every port DOWN, a command that does not change the station wakes nothing. -/
theorem exec_dormant {c : Instr} (h : s.Sound) (hload : s.station.state = .loading) (hc : Block.station ∉ blocksOf c) :
    Leads s.Dormant (exec c s) := by
  have hdown := h.bounded.loadingPorts hload
  have hunlinked : ∀ p, (s.port p).state.linked = false := fun p => by rw [hdown p]; rfl
  have hsend : ∀ p, (s.port p).maySend = false := fun p => by unfold Port.maySend; rw [hunlinked p]; rfl
  have hdamaged : ∀ p, s.Dormant (s.takeDamaged p).close := fun p => by
    rw [State.takeDamaged_eq_of_unlinked (hdown p)]
    exact .of_eq (by simp) (by simp)
  have hrequest : ∀ {α : Type} (code : Byte) (read : List Byte → Option α) owner, Leads s.Dormant (s.onRequest code read owner) :=
    fun code read owner => by
      rw [State.onRequest_eq_of_loading hload]
      exact .next (.refl s)
  have hhead : s.controlHead = none := by
    unfold State.controlHead State.headFree State.linkUp
    rw [hload]
    rfl
  have hkeeps : Block.ports ∉ blocksOf c ∧ Block.routes ∉ blocksOf c → Leads s.Dormant (exec c s) := fun hb t ht => by
    obtain ⟨-, hports, hroutes, -⟩ := exec_keeps h.link.raised ht
    exact .of_eq (hports hb.1) (hroutes hb.2)
  have hcloseFrom : ∀ {u : State}, s.Dormant u → s.Dormant (s.closeFrom u) := fun hu =>
    hu.trans (State.dormant_closeFrom fun p => (hu.states p).trans (hdown p))
  have hdrop : ∀ {u : State}, s.Dormant u → s.Dormant u.close := fun hu => hu.trans (.of_eq (by simp) (by simp))
  cases c with
  | powerOn | resetPinAsserted | resetPinReleased | eepromLoadComplete | eepromReadTimeout | hostLinkResetSequence | hostReset | enable
  | withdraw => simp [blocksOf] at hc
  | portOn | resetPort | endExchange | cancel => exact hrequest _ _ _
  | configure | portOffGraceful | portOffImmediate =>
    simp only [exec, execConfigure, execPortOffGraceful, execPortOffImmediate, hhead]
    exact .next (.refl s)
  | sendExchange p | traceTransmission p | probeSend p =>
    simp only [exec, execSendExchange, execTraceTransmission, execProbeSend, hsend p]
    exact .next (.refl s)
  | answerArrival p | traceReplyArrival p =>
    simp only [exec, execAnswerArrival, execTraceReplyArrival]
    split
    · exact .next (hdamaged p)
    · rw [if_pos (by rw [hunlinked p]; rfl)]
      exact .next (.refl s)
  | answerWaitExpiry i =>
    simp only [exec, execAnswerWaitExpiry]
    split
    · exact .next (.refl s)
    next e _ =>
      split
      next p d since _ =>
        split
        · have h1 := (s.wires_detach i).dormant
          rw [State.exchangeMiss_eq_of_unlinked e.target ((h1.states p).trans (hdown p))]
          refine .next (hcloseFrom (h1.trans ?_))
          split
          · exact (State.wires_dueResend _ i e).dormant
          · exact (State.wires_seekFate _ i _).dormant
        · exact .next (.refl s)
      · exact .next (.refl s)
  | holdExpiry i =>
    simp only [exec, execHoldExpiry]
    (repeat' split) <;> apply Leads.next <;> with_reducible first
      | exact .refl s
      | exact hdrop (State.wires_decideResult _ _ _ _).dormant
  | traceWaitExpiry i =>
    simp only [exec, execTraceWaitExpiry]
    (repeat' split) <;> apply Leads.next <;> with_reducible first
      | exact .refl s
      | exact hcloseFrom (State.wires_unanswered _ _ _).dormant
  | signalArriving p =>
    simp only [exec, execSignalArriving]
    rw [if_pos (.inl hload)]
    exact .next (s.dormant_modPort p _ rfl)
  | signalLost p =>
    simp only [exec, execSignalLost, hdown p]
    exact .next (s.dormant_modPort p _ rfl)
  | trainingWaitExpiry p | portResetHoldExpiry p =>
    simp only [exec, execTrainingWaitExpiry, execPortResetHoldExpiry]
    rw [if_neg (by rw [hdown p]; exact fun hc => nomatch hc.1)]
    exact .next (.refl s)
  | linkOffer p =>
    simp only [exec, execLinkOffer, hdown p]
    exact .next (.refl s)
  | fabricCreditArrival p | reach p | linkSilenceExpiry p =>
    simp only [exec, execFabricCreditArrival, execReach, execLinkSilenceExpiry, hunlinked p]
    exact .next (.refl s)
  | idleTick p =>
    simp only [exec, execIdleTick]
    rw [State.heard_eq_of_unlinked (hdown p)]
    exact .next (.refl s)
  | damagedFrame p => exact .next (hdamaged p)
  | probeDue y p =>
    simp only [exec, execProbeDue, State.fallDue, State.monitored, hunlinked p, Bool.and_false, Bool.false_and]
    exact .next (.refl s)
  | echo p =>
    simp only [exec, execEcho]
    split
    · exact .next (hdamaged p)
    · rw [if_pos (by rw [hunlinked p]; rfl)]
      exact .next (.refl s)
  | probeWaitExpiry y p =>
    simp only [exec, execProbeWaitExpiry]
    split
    next flight hf =>
      by_cases hy : y ∈ allTargets
      · have hm := h.routes.probed p y hy (.inl (by rw [hf]; rfl))
        rw [State.monitored_iff, hunlinked p] at hm
        exact nomatch hm.2
      · rw [State.cell_of_not_mem s p hy] at hf
        cases hf
    · exact .next (.refl s)
  | walkStep | entriesStep | pairPhaseStep | heldPhaseStep =>
    simp only [exec, execWalkStep, execEntriesStep, execPairPhaseStep, execHeldPhaseStep]
    rw [if_pos hload]
    exact .next (.refl s)
  | _ => exact hkeeps (by simp [blocksOf])

theorem State.hostReset_station (s : State) :
    s.hostReset.station = { s.station with state := .standby, resetKind := ⟨false, false, true⟩ } := by
  have h1 : s.hostCleared.station = { s.station with state := .standby, resetKind := ⟨false, false, true⟩ } := rfl
  unfold State.hostReset
  dsimp only
  split <;> simp [h1]

/-- While the station is LOADING its ports are DOWN and no cell has missed. -/
def State.Asleep (s : State) : Prop :=
  s.station.state = .loading → (∀ p, (s.port p).state = .down) ∧ ∀ y ∈ allTargets, ∀ p, (s.cell y p).misses = 0

theorem State.Sound.asleep (h : s.Sound) : s.Asleep := fun hload => ⟨h.bounded.loadingPorts hload, h.bounded.loadingCells hload⟩

theorem State.Asleep.of_up (h : s.station.state ≠ .loading) : s.Asleep := fun hc => absurd hc h

theorem exec_asleep (c : Instr) (s : State) (h : s.Sound) : Leads State.Asleep (exec c s) := by
  by_cases hc : Block.station ∈ blocksOf c
  · cases c with
    | powerOn straps pin =>
      simp only [exec, execPowerOn, State.fullResetHeld, State.fullResetBegun]
      split <;> exact .next (State.afterFullReset_sound _ _ _ rfl rfl).asleep
    | resetPinAsserted =>
      simp only [exec, execResetPinAsserted, State.fullResetHeld]
      split
      · exact .next h.asleep
      · exact .next (State.afterFullReset_sound _ _ _ rfl rfl).asleep
    | resetPinReleased straps =>
      simp only [exec, execResetPinReleased, State.fullResetBegun]
      split
      · exact .next (State.afterFullReset_sound _ _ _ rfl rfl).asleep
      · exact .next h.asleep
    | eepromLoadComplete image sequence =>
      simp only [exec, execEepromLoadComplete]
      split
      · exact .next (.of_up (by simp [State.enterStandby]))
      · exact .next h.asleep
    | eepromReadTimeout sequence =>
      simp only [exec, execEepromReadTimeout]
      (repeat' split) <;> apply Leads.next <;> first
        | with_reducible exact h.asleep
        | exact .of_up (by simp [State.enterStandby])
    | hostLinkResetSequence =>
      simp only [exec, execHostLinkResetSequence]
      split
      · exact .next h.asleep
      · exact .next (.of_up (by rw [State.hostReset_station]; exact fun hc => nomatch hc))
    | hostReset =>
      refine Leads.onRequest h.asleep fun hup _ _ => ⟨fun _ => .of_up hup, fun _ _ => .of_up ?_⟩
      change s.popIngress.hostReset.station.state ≠ .loading
      rw [State.hostReset_station]
      exact fun hc => nomatch hc
    | enable =>
      refine Leads.onRequest h.asleep fun hup _ _ => ⟨fun _ => .of_up hup, fun _ _ => .of_up ?_⟩
      unfold ownEnable
      split
      · exact fun hc => nomatch hc
      · exact hup
    | withdraw =>
      refine Leads.onRequest h.asleep fun hup _ _ => ⟨fun _ => .of_up hup, fun _ _ => .of_up ?_⟩
      unfold ownWithdraw
      split
      · exact fun hc => nomatch hc
      · exact hup
    | _ => simp [blocksOf, lossBlocks, portBlocks] at hc
  · intro t ht hload
    obtain ⟨hstation, -, -, -⟩ := exec_keeps h.link.raised ht
    rw [hstation hc] at hload
    obtain ⟨states, misses⟩ := exec_dormant h hload hc t ht
    exact ⟨fun p => (states p).trans (h.bounded.loadingPorts hload p), fun y hy p => (misses y p).trans (h.bounded.loadingCells hload y hy p)⟩

end

/-- Settles O55. -/
theorem portsAndRoutesStaySound : Obligations.PortsAndRoutesStaySound := fun s t h ht => by
  obtain ⟨hat, hconfig⟩ := Leads.step (fun _ h => h.wired) exec_wired s t h ht
  have hasleep := Leads.step (fun _ h => h.asleep) exec_asleep s t h ht
  refine ⟨⟨fun hl => (hasleep hl).1, fun hl => (hasleep hl).2, hconfig, fun p => (hat p).wired.port, fun y hy p => (hat p).wired.sound y hy⟩,
    ⟨fun p => (hat p).listed, fun p => (hat p).wired.pending, fun p => (hat p).wired.targets, fun p => (hat p).wired.once,
      fun p y hy hc => (t.monitored_iff y p).2 ((hat p).wired.probed y hy hc)⟩⟩

end Sys2Proof.Machine

namespace Sys2Proof.Machine
open Sys2Proof

/-! ### Notices (R156) -/

theorem flatMap_range_eq_cons {α : Type} {g : Nat → List α} {r m : Nat} (hr : r < m) {n : α} {more : List α} (hbefore : ∀ k < r, g k = [])
    (hat : g r = n :: more) : ∃ more, (List.range m).flatMap g = n :: more := by
  induction m with
  | zero => omega
  | succ m ih =>
    rw [List.range_succ, List.flatMap_append]
    rcases Nat.lt_succ_iff_lt_or_eq.1 hr with hlt | rfl
    · obtain ⟨more, hmore⟩ := ih hlt
      exact ⟨_, by rw [hmore, List.cons_append]⟩
    · have hnil : (List.range r).flatMap g = [] := List.flatMap_eq_nil_iff.2 fun k hk => hbefore k (List.mem_range.1 hk)
      exact ⟨more ++ [], by rw [hnil, List.nil_append, List.flatMap_cons, hat, List.flatMap_nil, List.cons_append]⟩

theorem NoticeBody.rank_lt (b : NoticeBody) : b.rank < 6 := by cases b <;> simp [NoticeBody.rank]

/-- The first notice of the lowest rank comes first. -/
theorem orderNotices_eq_cons {pre post : List Notice} {n : Notice} (hpre : ∀ m ∈ pre, n.body.rank < m.body.rank)
    (hpost : ∀ m ∈ post, n.body.rank ≤ m.body.rank) : ∃ more, orderNotices (pre ++ n :: post) = n :: more := by
  refine flatMap_range_eq_cons n.body.rank_lt (more := post.filter (fun m => m.body.rank == n.body.rank)) (fun k hk => ?_) ?_
  · refine List.filter_eq_nil_iff.2 fun m hm => ?_
    rw [beq_iff_eq]
    rcases List.mem_append.1 hm with hm | hm
    · have := hpre m hm
      omega
    · rcases List.mem_cons.1 hm with rfl | hm
      · omega
      · have := hpost m hm
        omega
  · rw [List.filter_append, List.filter_eq_nil_iff.2 fun m hm => by have := hpre m hm; rw [beq_iff_eq]; omega, List.nil_append,
      List.filter_cons_of_pos (by simp)]

theorem foldl_queueNotice_notices (l : List Notice) (x : HostLink) :
    (∃ more, (l.foldl queueNotice x).notices = x.notices ++ more) ∧
    (16 ≤ x.notices.length → (l.foldl queueNotice x).notices = x.notices ∧ (l ≠ [] ∨ x.dropped = true → (l.foldl queueNotice x).dropped = true)) := by
  induction l generalizing x with
  | nil => exact ⟨⟨[], (List.append_nil _).symm⟩, fun _ => ⟨rfl, fun h => h.resolve_left fun h => h rfl⟩⟩
  | cons n l ih =>
    obtain ⟨⟨more, hmore⟩, hfull⟩ := ih (queueNotice x n)
    rw [List.foldl_cons]
    by_cases hroom : x.notices.length < 16
    · have hq : (queueNotice x n).notices = x.notices ++ [n] := by unfold queueNotice; rw [if_pos (by exact hroom)]
      exact ⟨⟨[n] ++ more, by rw [hmore, hq, List.append_assoc]⟩, fun h => absurd hroom (by omega)⟩
    · have hq : (queueNotice x n).notices = x.notices ∧ (queueNotice x n).dropped = true := by
        unfold queueNotice
        rw [if_neg (by exact hroom)]
        exact ⟨rfl, rfl⟩
      refine ⟨⟨more, by rw [hmore, hq.1]⟩, fun h => ?_⟩
      obtain ⟨hsame, hdropped⟩ := hfull (by rw [hq.1]; exact h)
      exact ⟨hsame.trans hq.1, fun _ => hdropped (.inr hq.2)⟩

/-- The notice that comes first of those raised is queued first. -/
theorem State.notifies_flush {s u : State} {b : NoticeBody} {more : List Notice} (hnotices : u.link.notices = s.link.notices)
    (horder : orderNotices u.raised = ⟨s.timeBase, b⟩ :: more) : s.notifies u.flush b := by
  unfold State.notifies State.flush
  rw [horder]
  dsimp only
  rw [List.foldl_cons]
  split
  next hroom =>
    obtain ⟨⟨rest, hrest⟩, -⟩ := foldl_queueNotice_notices more (queueNotice u.link ⟨s.timeBase, b⟩)
    have hq : (queueNotice u.link ⟨s.timeBase, b⟩).notices = u.link.notices ++ [⟨s.timeBase, b⟩] := by
      unfold queueNotice
      rw [if_pos (by rw [hnotices]; exact hroom)]
    exact ⟨rest, by rw [hrest, hq, hnotices, List.append_assoc, List.singleton_append]⟩
  next hfull =>
    obtain ⟨-, hfull'⟩ := foldl_queueNotice_notices (⟨s.timeBase, b⟩ :: more) u.link
    rw [List.foldl_cons, hnotices] at hfull'
    obtain ⟨hsame, hdropped⟩ := hfull' (by omega)
    exact ⟨hsame, hdropped (.inl (List.cons_ne_nil _ _))⟩

/-- Of the notices raised, the first is of the lowest rank. -/
theorem State.notifies_flush_head {s u : State} {b : NoticeBody} {pre post : List Notice} (hnotices : u.link.notices = s.link.notices)
    (hraised : u.raised = pre ++ ⟨s.timeBase, b⟩ :: post) (hpre : ∀ m ∈ pre, b.rank < m.body.rank)
    (hpost : ∀ m ∈ post, b.rank ≤ m.body.rank) : s.notifies u.flush b := by
  obtain ⟨more, hmore⟩ := orderNotices_eq_cons (n := ⟨s.timeBase, b⟩) hpre hpost
  exact State.notifies_flush hnotices (by rw [hraised]; exact hmore)

/-- One notice raised. -/
theorem State.notifies_raise {s u : State} (b : NoticeBody) (hnotices : u.link.notices = s.link.notices) (htime : u.timeBase = s.timeBase)
    (hraised : u.raised = []) : s.notifies (u.raise b).flush b := by
  refine State.notifies_flush_head (pre := []) (post := []) hnotices ?_ (fun m hm => (nomatch hm)) (fun m hm => (nomatch hm))
  change u.raised ++ [⟨u.timeBase, b⟩] = _
  rw [hraised, htime]

/-- A command changes no block but those of a list that holds its own. -/
theorem State.onlyIn_of_exec {c : Instr} {s t : State} {l : List Block} (hr : s.raised = []) (ht : exec c s = .next t)
    (hl : ∀ b ∈ blocksOf c, b ∈ l) : s.onlyIn t l :=
  fun b hb => commandsKeepOtherBlocks c s t b hr ht fun hc => hb (hl b hc)

/-! ### The row bus: frames sent, line faults and sightings due (O45, O47) -/

section
variable {s : State} {r : RowBus} {f : RowFrame}

theorem State.rowRead_of_up (h : s.station.state ≠ .loading) : s.rowRead = true := by simpa [State.rowRead] using h

theorem RowBus.isSending_iff (r : RowBus) : r.isSending = true ↔ ∃ f, r.phase = .sending f := by
  refine ⟨RowBus.sending_of_isSending, fun ⟨f, hf⟩ => ?_⟩
  unfold RowBus.isSending
  rw [hf]

theorem RowBus.isSending_of_phase (h : r.phase = .sending f) : r.isSending = true := r.isSending_iff.2 ⟨f, h⟩

theorem RowBus.not_isSending_of_phase (h : ∀ f, r.phase ≠ .sending f) : r.isSending = false := by
  rw [← Bool.not_eq_true, RowBus.isSending_iff]
  exact fun ⟨f, hf⟩ => h f hf

/-- The frame aborted where no host reset found it on the line. -/
theorem RowBus.abort_of_not_due (h : r.dueAtEnd = false) : r.abort =
    { r with phase := .waiting, receiving := true, changeWanted := (r.changeWanted || r.wantedNext), wantedNext := false } := by
  unfold RowBus.abort RowBus.endOfOldFrame
  rw [if_neg]
  simp [h]

/-- The end of a frame that a host reset found on the line leaves a sighting pending (R137). -/
theorem RowBus.endOfOldFrame_of_due (hdue : r.dueAtEnd = true) (hw : r.withdrawn = false) (hphase : r.phase = .waiting) :
    r.endOfOldFrame = { r with dueAtEnd := false, pending := .sighting } := by
  unfold RowBus.endOfOldFrame RowBus.pendSighting
  rw [if_pos hdue, if_pos]
  exact ⟨rfl, by simp [hw], by change r.phase ≠ _; rw [hphase]; exact fun hc => nomatch hc⟩

theorem RowBus.endOfOldFrame_of_not_due (h : r.dueAtEnd = false) : r.endOfOldFrame = r := by
  unfold RowBus.endOfOldFrame
  rw [if_neg (by rw [h]; exact fun hc => nomatch hc)]

theorem RowBus.pendSighting_eq_ite (r : RowBus) : r.pendSighting = { r with pending :=
    if r.pending = .none ∧ r.withdrawn = false ∧ r.phase ≠ .silent then .sighting else r.pending } := by
  unfold RowBus.pendSighting
  by_cases h : r.pending = .none ∧ r.withdrawn = false ∧ r.phase ≠ .silent
  · rw [if_pos h, if_pos ⟨h.1, by simp [h.2.1], h.2.2⟩]
  · rw [if_neg h, if_neg fun hc => h ⟨hc.1, by simpa using hc.2.1, hc.2.2⟩]

theorem State.onlyIn_setRow (s : State) (r : RowBus) : s.onlyIn (s.setRow r) [.row] := fun b hb => by
  cases b <;> first | rfl | exact absurd List.mem_cons_self hb

end

theorem rowFrameStart_completes (s : State) (f : RowFrame) (hr : s.raised = []) (hup : s.station.state ≠ .loading)
    (hphase : s.row.phase = .waiting) (hfault : s.row.lineFault = .normal) (hrec : s.row.receiving = false)
    (hf : (s.row.pending = .sighting ∧ f = .sighting s.station.id s.station.state s.sightingEntries) ∨
      (s.row.pending = .withdraw ∧ f = .withdraw s.station.id)) :
    exec (.rowFrameStart true) s = .next (s.setRow { s.row with phase := .sending f, driveFaultReported := false }) ∧
    exec (.rowFrameStart false) s = .next s.failDrive := by
  have hstart : (s.rowRead && s.row.mayStart) = true := by simp [State.rowRead_of_up hup, RowBus.mayStart, hphase, hfault, hrec]
  have hframe : s.composeFrame = some f := by
    unfold State.composeFrame
    rcases hf with ⟨hp, rfl⟩ | ⟨hp, rfl⟩ <;> rw [hp]
  constructor <;> simp only [exec, execRowFrameStart, hstart, if_true, hframe] <;> rfl

theorem State.failDrive_spec (s : State) (hr : s.raised = []) :
    s.failDrive.row = { s.row with
      phase := .driveRetry, retryAt := some (s.timeBase + ms (sightingPeriod s.config)), driveFaultReported := true } ∧
    (s.row.driveFaultReported = true → s.failDrive.link = s.link) ∧
    (s.row.driveFaultReported = false → s.notifies s.failDrive (.rowFault .cannotDrive none)) := by
  unfold State.failDrive
  dsimp only
  refine ⟨?_, fun h => ?_, fun h => ?_⟩
  · split <;> rfl
  · rw [if_pos h]
    rfl
  · rw [if_neg (by rw [h]; exact fun hc => nomatch hc)]
    exact State.notifies_raise _ rfl rfl hr

/-- Settles O45, clause by clause: the start of a frame, the conditions that keep it from starting, and the ends of a frame. -/
theorem rowFramesAreSent : Obligations.RowFramesAreSent := by
  refine ⟨fun s f hr hup hphase hfault hrec hf => ?_, fun s b h => ?_, fun s f hf => ?_⟩
  · obtain ⟨h1, h2⟩ := rowFrameStart_completes s f hr hup hphase hfault hrec hf
    obtain ⟨hrow, hlink, hnotice⟩ := s.failDrive_spec hr
    exact ⟨h1, s.failDrive, h2, State.onlyIn_of_exec hr h2 (by simp [blocksOf]), hrow, hlink, hnotice⟩
  · simp only [exec, execRowFrameStart]
    split
    next hgo =>
      have hpend : s.row.pending = .none := by
        simp only [RowBus.mayStart, Bool.and_eq_true, beq_iff_eq, Bool.not_eq_true'] at hgo
        obtain ⟨-, ⟨hphase, hfault⟩, hrec⟩ := hgo
        rcases h with h | h | h | h
        · exact absurd hphase h
        · exact h
        · cases hfault.symm.trans h
        · cases hrec.symm.trans h
      rw [State.composeFrame, hpend]
    · rfl
  · have hs := RowBus.isSending_of_phase hf
    refine ⟨fun hdue c hc => ?_, fun hdue hw c hc => ?_, fun id state entries hframe hdue => ?_, fun id hframe hdue => ?_⟩
    · simp only [List.mem_cons, List.not_mem_nil, or_false] at hc
      rcases hc with rfl | rfl <;> simp only [exec, execLostArbitration, execBitError, if_pos hs, RowBus.abort_of_not_due hdue]
    · have habort : s.row.abort.phase = .waiting ∧ s.row.abort.pending = .sighting ∧ s.row.abort.dueAtEnd = false := by
        unfold RowBus.abort
        rw [RowBus.endOfOldFrame_of_due (by exact hdue) (by exact hw) rfl]
        exact ⟨rfl, rfl, rfl⟩
      simp only [List.mem_cons, List.not_mem_nil, or_false] at hc
      rcases hc with rfl | rfl | rfl
      · exact ⟨_, (if_pos hs : execLostArbitration s = _), habort.1, habort.2.1, habort.2.2, s.onlyIn_setRow _⟩
      · exact ⟨_, (if_pos hs : execBitError s = _), habort.1, habort.2.1, habort.2.2, s.onlyIn_setRow _⟩
      · simp only [exec, execRowFrameSentWhole, hf]
        cases f with
        | sighting id state entries =>
          have hend := RowBus.endOfOldFrame_of_due (r := s.row.sightingSent s.timeBase s.config entries) hdue hw rfl
          exact ⟨_, rfl, congrArg RowBus.phase hend, congrArg RowBus.pending hend, congrArg RowBus.dueAtEnd hend, s.onlyIn_setRow _⟩
        | withdraw id =>
          have hend := RowBus.endOfOldFrame_of_due (r := { s.row with phase := .waiting, pending := .none }) hdue hw rfl
          exact ⟨_, rfl, congrArg RowBus.phase hend, congrArg RowBus.pending hend, congrArg RowBus.dueAtEnd hend, s.onlyIn_setRow _⟩
    · simp only [exec, execRowFrameSentWhole, hf, hframe]
      rw [RowBus.endOfOldFrame_of_not_due (r := s.row.sightingSent s.timeBase s.config entries) hdue]
      rfl
    · simp only [exec, execRowFrameSentWhole, hf, hframe]
      rw [RowBus.endOfOldFrame_of_not_due (r := { s.row with phase := .waiting, pending := .none }) hdue]

/-- Settles O47, clause by clause. -/
theorem rowTimersAndFaults : Obligations.RowTimersAndFaults := by
  intro s hr becomes pended
  have hpended : s.setRow s.row.pendSighting = s.setRow pended := by rw [RowBus.pendSighting_eq_ite]
  have hlow : ∀ (hup : s.station.state ≠ .loading) (hnormal : s.row.lineFault = .normal), (s.rowRead && s.row.lineFault == .normal) = true :=
    fun hup hnormal => by rw [State.rowRead_of_up hup, hnormal]; rfl
  have hbecomes : ∀ (c : Instr) (r : RowBus) (kind : RowFaultKind), (∀ b ∈ blocksOf c, b ∈ [Block.row, Block.link]) →
      exec c s = .next ((s.setRow r).raise (.rowFault kind none)).flush → becomes c r kind := fun c r kind hc ht =>
    ⟨_, ht, rfl, State.onlyIn_of_exec hr ht hc, State.notifies_raise _ rfl rfl hr⟩
  refine ⟨fun hup hnormal hsend => ?_, fun hup hnormal hdue f hf => ?_, fun hheld => ?_, fun hup hheld => ?_, fun hnormal => ?_,
    fun hphase hexp => ?_, fun h => ?_, fun hexp => ?_, fun hexp => ?_, fun hwant hdue => ?_, fun h => ?_⟩
  · refine hbecomes _ _ _ (by simp [blocksOf]) ?_
    simp only [exec, execLineHeldLow, if_pos (hlow hup hnormal), RowBus.not_isSending_of_phase hsend]
    rfl
  · refine hbecomes _ _ _ (by simp [blocksOf]) ?_
    simp only [exec, execLineHeldLow, if_pos (hlow hup hnormal), if_pos (RowBus.isSending_of_phase hf), RowBus.abort_of_not_due hdue]
  · simp only [exec, execLineHeldLow]
    rw [if_neg (by rw [hheld]; simp)]
  · refine hbecomes _ _ _ (by simp [blocksOf]) ?_
    simp only [exec, execCleared]
    rw [if_pos (by rw [State.rowRead_of_up hup, hheld]; rfl)]
  · simp only [exec, execCleared]
    rw [if_neg (by rw [hnormal]; simp)]
  · simp only [exec, execDriveRetryExpiry]
    rw [if_pos (by rw [hphase, hexp]; rfl)]
  · simp only [exec, execDriveRetryExpiry]
    rw [if_neg]
    rintro hc
    obtain ⟨hc1, hc2⟩ := Bool.and_eq_true_iff.1 hc
    rcases h with h | h
    · exact h (beq_iff_eq.1 hc1)
    · cases h.symm.trans hc2
  · simp only [exec, execPeriodicSightingDue]
    rw [if_pos hexp, hpended]
  · simp only [exec, execPeriodicSightingDue]
    rw [if_neg (by rw [hexp]; exact fun hc => nomatch hc)]
  · simp only [exec, execChangeSightingDue]
    rw [if_pos, hpended]
    unfold RowBus.changeDue
    rw [hwant, Bool.true_and]
    rcases hdue with hdue | hdue
    · rw [hdue]
    · cases he : s.row.changeEarliest with
      | none => rfl
      | some due =>
        rw [he] at hdue
        exact hdue
  · simp only [exec, execChangeSightingDue]
    rw [if_neg]
    unfold RowBus.changeDue
    rcases h with h | ⟨due, h, hreach⟩
    · rw [h]
      exact fun hc => nomatch hc
    · rw [h]
      dsimp only
      rw [hreach, Bool.and_false]
      exact fun hc => nomatch hc

end Sys2Proof.Machine

namespace Sys2Proof.Machine
open Sys2Proof

/-! ### What a recomputation leaves (R144 to R147) -/

theorem switch_bounds {sw : Nat} (h : sw ∈ allSwitches) : 1 ≤ sw ∧ sw ≤ 15 := by
  have := List.mem_range'_1.1 h
  omega

theorem State.entryAt_mapEntries (s : State) (f : Entry → Entry) (pl : Place) : (s.mapEntries f).entryAt pl = (s.entryAt pl).map f := by
  simp [State.entryAt, State.mapEntries, State.cacheSet]

/-- The record of a switch after a recomputation, from the one that carries the new counts. -/
def State.newVerdict (s : State) (v : VerdictRecord) : VerdictRecord :=
  if v.verdict = .failing then
    { v with clearEnds := if 1 ≤ v.d then none else some (v.clearEnds.getD (s.timeBase + ms (clearHold s.config))) }
  else if judge s.config v.c v.d = .failing then
    { v with
      verdict := .failing, clearEnds := none
      staggerEnds := if s.station.id.val * staggerUnit s.config = 0 then none
        else some (s.timeBase + ms (s.station.id.val * staggerUnit s.config))
      staggerExpired := decide (s.station.id.val * staggerUnit s.config = 0) }
  else { v with verdict := judge s.config v.c v.d }

section
variable {s t : State} {sw x : Nat}

theorem State.verdict_expireStagger (hsw : sw ∈ allSwitches) : (s.expireStagger sw).verdict x =
    if sw = x then { s.verdict sw with staggerEnds := none, staggerExpired := true } else s.verdict x := by
  have h : (s.expireStagger sw).verdict x = (s.setVerdict sw { s.verdict sw with staggerEnds := none, staggerExpired := true }).verdict x := rfl
  rw [h, State.verdict_setVerdict _ _ _ _ (switch_bounds hsw)]

theorem State.verdict_setVerdict_raise (hsw : sw ∈ allSwitches) (s : State) (b : NoticeBody) (w : VerdictRecord) :
    ((s.setVerdict sw w).raise b).verdict x = if sw = x then w else s.verdict x :=
  State.verdict_setVerdict s sw x w (switch_bounds hsw)

theorem State.verdict_becomeFailing (hsw : sw ∈ allSwitches) (before : Verdict) (v : VerdictRecord) :
    (s.becomeFailing sw before v).verdict x = if sw = x then
      { v with
        verdict := .failing, clearEnds := none
        staggerEnds := if s.station.id.val * staggerUnit s.config = 0 then none
          else some (s.timeBase + ms (s.station.id.val * staggerUnit s.config))
        staggerExpired := decide (s.station.id.val * staggerUnit s.config = 0) }
    else s.verdict x := by
  unfold State.becomeFailing
  dsimp only
  by_cases hz : s.station.id.val * staggerUnit s.config = 0
  · rw [if_pos hz, State.verdict_expireStagger hsw, State.verdict_setVerdict_raise hsw, State.verdict_setVerdict_raise hsw, if_pos rfl,
      if_pos hz, decide_eq_true hz]
    split <;> rfl
  · rw [if_neg hz, State.verdict_setVerdict_raise hsw, if_neg hz, decide_eq_false hz]

theorem State.verdict_recompute (hsw : sw ∈ allSwitches) : (s.recompute sw).verdict x =
    if sw = x then s.newVerdict (s.withCounts sw (s.verdict sw)) else s.verdict x := by
  have hset : ∀ w, (s.setVerdict sw w).verdict x = if sw = x then w else s.verdict x :=
    fun w => State.verdict_setVerdict s sw x w (switch_bounds hsw)
  unfold State.recompute State.newVerdict
  dsimp only
  generalize s.withCounts sw (s.verdict sw) = v
  split
  next hv =>
    rw [if_pos hv]
    split
    next hd => rw [hset]
    next hd =>
      split
      next hsome =>
        obtain ⟨ends, hends⟩ := Option.isSome_iff_exists.1 hsome
        rw [hset, hends]
        congr 1
        rw [← hends]
        cases v
        simp only at hends
        simp [hends]
      next hnone =>
        rw [hset, Option.not_isSome_iff_eq_none.1 hnone]
        rfl
  next hv =>
    rw [if_neg hv]
    split
    next hj => rw [State.verdict_becomeFailing hsw, if_pos hj]
    next hj =>
      rw [if_neg hj]
      split
      next heq => rw [hset, heq]
      · rw [State.verdict_setVerdict_raise hsw]

/-- A recomputation reads the fresh view, the configuration, the Time Base and the record of its own switch. -/
theorem State.verdict_recompute_congr (hsw : sw ∈ allSwitches) (hpeers : t.view.peers = s.view.peers) (hown : t.ownCount sw = s.ownCount sw)
    (hconfig : t.config = s.config) (htime : t.timeBase = s.timeBase) (hid : t.station.id = s.station.id)
    (hverdict : t.verdict sw = s.verdict sw) : (t.recompute sw).verdict sw = (s.recompute sw).verdict sw := by
  have hfresh : t.freshEntries sw = s.freshEntries sw := by
    simp only [State.freshEntries, State.fresh, State.age, hpeers, hconfig, htime]
    rfl
  have hcounts : t.withCounts sw (t.verdict sw) = s.withCounts sw (s.verdict sw) := by
    simp only [State.withCounts, hown, hfresh, hverdict]
  rw [State.verdict_recompute hsw, State.verdict_recompute hsw, if_pos rfl, if_pos rfl, hcounts]
  simp only [State.newVerdict, hconfig, htime, hid]

theorem State.foldl_recompute_view (l : List Nat) (s : State) : (l.foldl State.recompute s).view.peers = s.view.peers ∧
    (l.foldl State.recompute s).view.own = s.view.own ∧ (l.foldl State.recompute s).config = s.config ∧
    (l.foldl State.recompute s).timeBase = s.timeBase ∧ (l.foldl State.recompute s).station = s.station :=
  ⟨foldl_keeps (·.view.peers) _ (by simp) _ _, foldl_keeps (·.view.own) _ (by simp) _ _, foldl_keeps (·.config) _ (by simp) _ _,
    foldl_keeps (·.timeBase) _ (by simp) _ _, foldl_keeps (·.station) _ (by simp) _ _⟩

theorem State.verdict_foldl_recompute (l : List Nat) (hl : ∀ y ∈ l, y ∈ allSwitches) (hnodup : l.Nodup) (s : State) (x : Nat) :
    (l.foldl State.recompute s).verdict x = if x ∈ l then (s.recompute x).verdict x else s.verdict x := by
  induction l generalizing s with
  | nil => simp
  | cons y l ih =>
    obtain ⟨hy, hnodup⟩ := List.nodup_cons.1 hnodup
    have hyall := hl y List.mem_cons_self
    rw [List.foldl_cons, ih (fun z hz => hl z (List.mem_cons_of_mem y hz)) hnodup]
    by_cases hx : x = y
    · subst hx
      rw [if_neg hy, if_pos List.mem_cons_self]
    · have hkeep : (s.recompute y).verdict x = s.verdict x := by rw [State.verdict_recompute hyall, if_neg (Ne.symm hx)]
      by_cases hxl : x ∈ l
      · rw [if_pos hxl, if_pos (List.mem_cons_of_mem y hxl)]
        exact State.verdict_recompute_congr (hl x (List.mem_cons_of_mem y hxl)) (by simp) (State.ownCount_congr (by simp) x) (by simp) (by simp)
          (by simp) hkeep
      · rw [if_neg hxl, if_neg fun hc => (List.mem_cons.1 hc).elim hx hxl, hkeep]

theorem nodup_allSwitches : allSwitches.Nodup := List.nodup_range'

theorem State.verdict_recomputeThose (s : State) (which : Nat → Bool) (hx : x ∈ allSwitches) :
    (s.recomputeThose which).verdict x = if which x = true then (s.recompute x).verdict x else s.verdict x := by
  unfold State.recomputeThose
  rw [State.verdict_foldl_recompute _ (fun y hy => (List.mem_filter.1 hy).1) (nodup_allSwitches.filter _)]
  simp only [List.mem_filter, hx, true_and]

theorem State.withCounts_congr (hpeers : t.view.peers = s.view.peers) (hown : t.view.own = s.view.own)
    (hconfig : t.config = s.config) (htime : t.timeBase = s.timeBase) (v : VerdictRecord) : t.withCounts sw v = s.withCounts sw v := by
  have hfresh : t.freshEntries sw = s.freshEntries sw := by
    simp only [State.freshEntries, State.fresh, State.age, hpeers, hconfig, htime]
    rfl
  simp only [State.withCounts, State.ownCount_congr hown, hfresh]

theorem State.newVerdict_counts (s : State) (v : VerdictRecord) :
    (s.newVerdict v).c = v.c ∧ (s.newVerdict v).d = v.d ∧ (s.newVerdict v).l = v.l ∧ (s.newVerdict v).n = v.n := by
  unfold State.newVerdict
  (repeat' split) <;> exact ⟨rfl, rfl, rfl, rfl⟩

/-! ### O46: frames received -/

theorem State.verdict_replacePeer (s : State) (i : StationId) (e : Option PeerEntry) (hx : x ∈ allSwitches) :
    (s.replacePeer i e).verdict x = if x ∈ s.listedBy i ∨ x ∈ (s.setPeer i e).listedBy i
      then ((s.setPeer i e).recompute x).verdict x else s.verdict x := by
  have h : (s.replacePeer i e).verdict x = ((s.setPeer i e).recomputeThose
      (fun sw => (s.listedBy i).contains sw || ((s.setPeer i e).listedBy i).contains sw)).verdict x := rfl
  rw [h, State.verdict_recomputeThose _ _ hx]
  simp only [Bool.or_eq_true, List.contains_iff_mem]
  rfl

theorem State.mem_listedBy (s : State) (i : StationId) (sw : Nat) :
    sw ∈ s.listedBy i ↔ (s.peer i).any (fun y => y.switches.any (fun e => e.switch == sw)) = true := by
  unfold State.listedBy
  split
  next e he =>
    rw [he, Option.any_some, List.any_eq_true, List.mem_map]
    simp only [beq_iff_eq]
  next he =>
    rw [he]
    simp

theorem State.peer_replacePeer (s : State) (i j : StationId) (e : Option PeerEntry) :
    (s.replacePeer i e).peer j = if i = j then e else s.peer j := by
  have h : (s.replacePeer i e).peer j = (s.setPeer i e).peer j := by simp [State.peer, State.replacePeer]
  rw [h, State.peer_setPeer]

/-- Whether a conflict was reported within the last SIGHTING PERIOD (R140). -/
def State.recentConflict (s : State) : Bool :=
  s.row.lastConflict.any (fun last => (elapsed s.timeBase last).toNat ≤ sightingPeriod s.config * 1000)

theorem State.conflict_of_recent (h : s.recentConflict = true) : s.conflict = s := by
  unfold State.recentConflict at h
  unfold State.conflict
  cases hlast : s.row.lastConflict with
  | none => simp [hlast] at h
  | some last =>
    rw [hlast, Option.any_some, decide_eq_true_eq] at h
    exact if_neg (by simpa using h)

theorem State.conflict_of_not_recent (hr : s.raised = []) (h : ¬ s.recentConflict = true) :
    s.conflict.row = { s.row with lastConflict := some s.timeBase } ∧
      s.notifies s.conflict (.rowFault .idConflict (some s.station.id)) := by
  unfold State.recentConflict at h
  unfold State.conflict
  cases hlast : s.row.lastConflict with
  | none => exact ⟨rfl, State.notifies_raise _ rfl rfl hr⟩
  | some last =>
    rw [hlast, Option.any_some, decide_eq_true_eq] at h
    dsimp only
    rw [if_pos (by simpa using h)]
    exact ⟨rfl, State.notifies_raise _ rfl rfl hr⟩

end

/-- Settles O46: the checks of a frame in order, then the conflict or the entry it becomes. -/
theorem rowFramesAreReceived : Obligations.RowFramesAreReceived := by
  intro s sender state entries hr hup hsend ended conflict lists takes
  have hrec : s.rowReceives = true := by
    unfold State.rowReceives
    rw [State.rowRead_of_up hup, RowBus.not_isSending_of_phase hsend]
    rfl
  have hconflict : ∀ c, sender = s.station.id → (∀ b ∈ blocksOf c, b ∈ [Block.link, .cache, .row, .view]) →
      exec c s = .next s.endReceive.conflict → conflict c := fun c hid hc ht => by
    refine ⟨_, ht, fun b hb => ?_, ?_⟩
    · cases b <;> first | (simp only [State.sameIn, State.conflict_frame]; rfl) | exact absurd (by simp) hb
    · split
      next hlate =>
        rw [State.conflict_of_recent (s := s.endReceive) hlate]
        exact ⟨rfl, rfl⟩
      next hlate =>
        rw [hid]
        exact State.conflict_of_not_recent (s := s.endReceive) hr hlate
  have htakes : ∀ entry, takes entry (s.endReceive.replacePeer sender entry) := fun entry => by
    refine ⟨?_, fun i hi => ?_, ?_, ?_, fun sw hsw => ?_⟩
    · rw [State.peer_replacePeer, if_pos rfl]
    · rw [State.peer_replacePeer, if_neg (Ne.symm hi)]
      rfl
    · simp [State.replacePeer, State.setPeer, State.endReceive, State.setRow]
    · simp [State.endReceive, State.setRow, ended]
    · have hentry : sw ∈ (s.endReceive.setPeer sender entry).listedBy sender ↔ lists entry sw = true := by
        rw [State.mem_listedBy, State.peer_setPeer, if_pos rfl]
      rw [State.verdict_replacePeer _ _ _ hsw]
      exact if_congr (or_congr (s.mem_listedBy sender sw) hentry) (State.verdict_recompute_congr hsw rfl rfl rfl rfl rfl rfl) rfl
  refine ⟨fun hwf => ?_, fun hwf hid => ?_, fun hid => ?_, fun hid hwf => ?_, fun hid => ?_, rfl⟩
  · simp only [exec, execSightingReceived, hrec, hwf]
    rfl
  · refine hconflict _ hid (by simp [blocksOf]) ?_
    simp only [exec, execSightingReceived, hrec, hwf, if_pos hid]
    rfl
  · refine hconflict _ hid (by simp [blocksOf]) ?_
    simp only [exec, execWithdrawReceived, hrec, if_pos hid]
    rfl
  · refine ⟨_, ?_, htakes _⟩
    simp only [exec, execSightingReceived, hrec, hwf, if_neg hid]
    rfl
  · refine ⟨_, ?_, htakes _⟩
    simp only [exec, execWithdrawReceived, hrec, if_neg hid]
    rfl

end Sys2Proof.Machine

namespace Sys2Proof.Machine
open Sys2Proof

/-! ### O48: peer entries age out, the clear timer and the stagger act -/

section
variable {s : State} {sw x : Nat} {i : StationId}

theorem State.withCounts_replacePeer (e : Option PeerEntry) (v : VerdictRecord) :
    (s.replacePeer i e).withCounts sw v = (s.setPeer i e).withCounts sw v :=
  State.withCounts_congr (by simp [State.replacePeer]) (by simp [State.replacePeer]) (by simp [State.replacePeer, State.setPeer])
    (by simp [State.replacePeer, State.setPeer]) v

theorem State.mem_listedBy_iff (e : PeerEntry) (h : s.peer i = some e) : sw ∈ s.listedBy i ↔ ∃ x ∈ e.switches, x.switch = sw := by
  rw [State.mem_listedBy, h, Option.any_some, List.any_eq_true]
  simp only [beq_iff_eq]

/-- What becomes of the view where the entry of a station gives way to itself or to none. -/
theorem State.replacePeer_aged (e : PeerEntry) (h : s.peer i = some e) {entry : Option PeerEntry} (hentry : entry = none ∨ entry = some e) :
    (s.replacePeer i entry).peer i = entry ∧ (∀ j, j ≠ i → (s.replacePeer i entry).peer j = s.peer j) ∧
    (∀ sw ∈ allSwitches, (∀ x ∈ e.switches, x.switch ≠ sw) → (s.replacePeer i entry).verdict sw = s.verdict sw) ∧
    (∀ sw ∈ allSwitches, (∃ x ∈ e.switches, x.switch = sw) →
      (s.replacePeer i entry).verdict sw = ((s.setPeer i entry).recompute sw).verdict sw ∧
      ((s.replacePeer i entry).verdict sw).c = ((s.replacePeer i entry).withCounts sw (s.verdict sw)).c ∧
      ((s.replacePeer i entry).verdict sw).d = ((s.replacePeer i entry).withCounts sw (s.verdict sw)).d) := by
  refine ⟨by rw [State.peer_replacePeer, if_pos rfl], fun j hj => by rw [State.peer_replacePeer, if_neg (Ne.symm hj)],
    fun sw hsw hout => ?_, fun sw hsw hin => ?_⟩
  · have hbefore : sw ∉ s.listedBy i := fun hc => by
      obtain ⟨x, hx, heq⟩ := (State.mem_listedBy_iff e h).1 hc
      exact hout x hx heq
    have hafter : sw ∉ (s.setPeer i entry).listedBy i := by
      rw [State.mem_listedBy, State.peer_setPeer, if_pos rfl]
      rcases hentry with rfl | rfl
      · simp
      · rwa [State.mem_listedBy, h] at hbefore
    rw [State.verdict_replacePeer _ _ _ hsw, if_neg (not_or.2 ⟨hbefore, hafter⟩)]
  · have hverdict : (s.replacePeer i entry).verdict sw = ((s.setPeer i entry).recompute sw).verdict sw := by
      rw [State.verdict_replacePeer _ _ _ hsw, if_pos (.inl ((State.mem_listedBy_iff e h).2 hin))]
    obtain ⟨hc, hd, -, -⟩ := (s.setPeer i entry).newVerdict_counts ((s.setPeer i entry).withCounts sw (s.verdict sw))
    rw [State.withCounts_replacePeer]
    refine ⟨hverdict, ?_⟩
    rw [hverdict, State.verdict_recompute hsw, if_pos rfl]
    exact ⟨hc, hd⟩

/-- A change of one verdict record and of the drain marks, reported by one notice. -/
theorem State.verdictNoticed (hr : s.raised = []) (hsw : sw ∈ allSwitches) (v : VerdictRecord) (f : Entry → Entry) (b : NoticeBody) :
    let t := ((((s.setVerdict sw v).mapEntries f).raise b).flush)
    t.verdict sw = v ∧ (∀ x ∈ allSwitches, x ≠ sw → t.verdict x = s.verdict x) ∧ (∀ pl, t.entryAt pl = (s.entryAt pl).map f) ∧
    s.notifies t b := by
  have hset : ∀ x, ((((s.setVerdict sw v).mapEntries f).raise b).flush).verdict x = if sw = x then v else s.verdict x :=
    fun x => State.verdict_setVerdict s sw x v (switch_bounds hsw)
  exact ⟨by rw [hset, if_pos rfl], fun x _ hx => by rw [hset, if_neg (Ne.symm hx)], fun pl => State.entryAt_mapEntries (s.setVerdict sw v) f pl,
    State.notifies_raise b rfl rfl hr⟩

end

/-- Settles O48: the two ages of an entry, then the two timers of a verdict. -/
theorem peerEntriesAgeAndVerdictTimersAct : Obligations.PeerEntriesAgeAndVerdictTimersAct := by
  refine ⟨fun s i hr => ⟨fun e he => ?_, fun hnone => ?_⟩, fun s sw hr hsw => ?_⟩
  · intro age past stale leaves
    have hexpired : exec (.peerEntryExpired i) s = if s.pastExpiry e then .next (s.replacePeer i none) else .next s := by
      simp only [exec, execPeerEntryExpired, he]
    have hstale : exec (.peerEntryStale i) s = if s.fresh e then .next s else .next (s.replacePeer i (if s.pastExpiry e then none else some e)) := by
      simp only [exec, execPeerEntryStale, he]
    have hpast : s.pastExpiry e = true ↔ past := decide_eq_true_iff
    have hfresh : s.fresh e = true ↔ ¬ stale := decide_eq_true_iff.trans not_lt.symm
    refine ⟨fun hp => ⟨_, by rw [hexpired, if_pos (hpast.2 hp)], State.replacePeer_aged e he (.inl rfl)⟩,
      fun hp => by rw [hexpired, if_neg (mt hpast.1 hp)],
      fun hs hp => ⟨_, by rw [hstale, if_neg (fun hc => hfresh.1 hc hs), if_pos (hpast.2 hp)], State.replacePeer_aged e he (.inl rfl)⟩,
      fun hs hp => ⟨_, by rw [hstale, if_neg (fun hc => hfresh.1 hc hs), if_neg (mt hpast.1 hp)], State.replacePeer_aged e he (.inr rfl)⟩,
      fun hs => by rw [hstale, if_pos (hfresh.2 hs)]⟩
  · simp only [exec, execPeerEntryStale, execPeerEntryExpired, hnone, and_self]
  · intro v counted
    refine ⟨fun hdue => ?_, fun hdue => ?_, fun hf hdue => ?_, fun hno => ?_⟩
    · have ht : exec (.clearHoldExpiry sw) s = .next (s.clearVerdict sw).flush := if_pos hdue
      exact ⟨_, ht, State.onlyIn_of_exec hr ht (by simp [blocksOf]), State.verdictNoticed hr hsw _ _ _⟩
    · exact if_neg (by simpa using hdue)
    · have ht : exec (.staggerExpiry sw) s = .next (s.expireStagger sw).flush := if_pos (by
        rw [Bool.and_eq_true, beq_iff_eq]
        exact ⟨hf, hdue⟩)
      obtain ⟨hverdict, hothers, hentries, hnotice⟩ := State.verdictNoticed hr hsw { v with staggerEnds := none, staggerExpired := true }
        (fun e => if s.entryCabledTo sw e then { e with verdictMark := some sw } else e)
        (.verdictChange sw .failing .failing .failing v.c v.d (s.placesWith (s.entryCabledTo sw)).length)
      refine ⟨_, ht, State.onlyIn_of_exec hr ht (by simp [blocksOf]), hverdict, ?_, hothers, hentries, hnotice⟩
      rw [show ((s.expireStagger sw).flush).verdict sw = _ from hverdict]
      simp only [VerdictRecord.applied, hf, if_true]
    · refine if_neg fun hc => ?_
      rw [Bool.and_eq_true, beq_iff_eq] at hc
      exact hno.elim (fun h => h hc.1) fun h => by
        rw [hc.2] at h
        cases h

end Sys2Proof.Machine

namespace Sys2Proof.Machine
open Sys2Proof

/-! ### O49: the verdict at a recomputation -/

section
variable {s t u : State} {sw x : Nat}

theorem State.samePlacements.refl (s : State) : s.samePlacements s := fun _ => rfl

theorem State.samePlacements.trans (h : s.samePlacements t) (h' : t.samePlacements u) : s.samePlacements u := fun pl => (h' pl).trans (h pl)

theorem State.samePlacements.of_cache (h : t.cache = s.cache) : s.samePlacements t := fun pl => by
  rw [show t.entryAt pl = s.entryAt pl by simp only [State.entryAt, State.cacheSet, h]]

theorem State.samePlacements_setVerdictMarks (s : State) (sw : Nat) : s.samePlacements (s.setVerdictMarks sw) := fun pl => by
  rw [State.setVerdictMarks, State.entryAt_mapEntries, Option.map_map]
  congr 1
  funext e
  simp only [Function.comp]
  split <;> rfl

theorem State.samePlacements_expireStagger (s : State) (sw : Nat) : s.samePlacements (s.expireStagger sw) :=
  (State.samePlacements.of_cache rfl).trans (State.samePlacements_setVerdictMarks (s.setVerdict sw _) sw)

theorem State.samePlacements_recompute (s : State) (sw : Nat) : s.samePlacements (s.recompute sw) := by
  unfold State.recompute State.becomeFailing
  dsimp only
  (repeat' split) <;>
    with_reducible first
    | exact State.samePlacements.of_cache rfl
    | exact (State.samePlacements.of_cache rfl).trans (State.samePlacements_expireStagger _ sw)

theorem State.samePlacements_recomputeThose (s : State) (which : Nat → Bool) : s.samePlacements (s.recomputeThose which) :=
  List.foldlRecOn (motive := s.samePlacements) _ State.recompute (.refl s) fun t ht sw _ => ht.trans (State.samePlacements_recompute t sw)

/-- Where the report of the cables stands before the row bus takes note of it. -/
def State.recounted (s : State) : State := ({ s with view := { s.view with own := s.countAllCables } } : State)

theorem State.reportCables_eq (s : State) : s.reportCables =
    (s.recounted.recomputeThose (fun sw => s.ownCount sw != bySwitch s.countAllCables ⟨0, 0⟩ sw)).setRow
      (s.row.noteReport s.timeBase s.countAllCables) := by
  have hrow : (s.recounted.recomputeThose (fun sw => s.ownCount sw != bySwitch s.countAllCables ⟨0, 0⟩ sw)).row = s.row := by
    simp [State.recounted]
  have htime : (s.recounted.recomputeThose (fun sw => s.ownCount sw != bySwitch s.countAllCables ⟨0, 0⟩ sw)).timeBase = s.timeBase := by
    simp [State.recounted]
  change ((s.recounted.recomputeThose _).setRow ((s.recounted.recomputeThose _).row.noteReport (s.recounted.recomputeThose _).timeBase _)) = _
  rw [hrow, htime]

theorem countAllCables_at (s : State) (hsw : sw ∈ allSwitches) : bySwitch s.countAllCables ⟨0, 0⟩ sw = s.countCables sw := by
  obtain ⟨hlow, hhigh⟩ := switch_bounds hsw
  rw [bySwitch, dif_pos ⟨hlow, hhigh⟩, State.countAllCables, Vector.getElem_ofFn, Nat.sub_add_cancel hlow]

theorem State.verdict_setRow (s : State) (r : RowBus) (x : Nat) : (s.setRow r).verdict x = s.verdict x := rfl

theorem State.verdict_reportCables (hsw : sw ∈ allSwitches) : s.reportCables.verdict sw =
    if s.ownCount sw = s.countCables sw then s.verdict sw else (s.recounted.recompute sw).verdict sw := by
  have h : s.reportCables.verdict sw =
      (s.recounted.recomputeThose (fun sw => s.ownCount sw != bySwitch s.countAllCables ⟨0, 0⟩ sw)).verdict sw := by
    rw [State.reportCables_eq, State.verdict_setRow]
  rw [h, State.verdict_recomputeThose _ _ hsw, countAllCables_at s hsw]
  by_cases heq : s.ownCount sw = s.countCables sw
  · rw [if_pos heq, if_neg (by simp [heq])]
    rfl
  · rw [if_neg heq, if_pos (by simpa using heq)]

theorem RowBus.noteReport_of_withdrawn {r : RowBus} (now : Time) (own : Vector CableCount 15) (h : r.withdrawn = true) :
    r.noteReport now own = r := if_pos h

theorem RowBus.noteReport_of_sighting {r : RowBus} (now : Time) (own : Vector CableCount 15) (hw : r.withdrawn = false)
    {id : StationId} {state : StationState} {entries : List SwitchEntry} (h : r.phase = .sending (.sighting id state entries)) :
    r.noteReport now own = if own = sightingCounts entries then r else { r with wantedNext := true } := by
  have href : r.reference = sightingCounts entries := by simp only [RowBus.reference, h]
  have hsending : r.sendingSighting = true := by simp only [RowBus.sendingSighting, h]
  unfold RowBus.noteReport
  rw [hw, href, hsending]
  rfl

theorem RowBus.reference_of_not_sighting {r : RowBus} (h : ∀ id state entries, r.phase ≠ .sending (.sighting id state entries)) :
    r.reference = r.lastCounts ∧ r.sendingSighting = false := by
  unfold RowBus.reference RowBus.sendingSighting
  constructor <;> split <;> first | rfl | exact absurd ‹_› (h _ _ _)

theorem RowBus.changeDue_iff {r : RowBus} (now : Time) (h : r.changeWanted = true) :
    r.changeDue now = true ↔ r.changeEarliest = none ∨ expired now r.changeEarliest = true := by
  unfold RowBus.changeDue expired
  rw [h]
  cases r.changeEarliest <;> simp

theorem RowBus.noteReport_of_not_sighting {r : RowBus} (now : Time) (own : Vector CableCount 15) (hw : r.withdrawn = false)
    (h : ∀ id state entries, r.phase ≠ .sending (.sighting id state entries)) :
    r.noteReport now own = if own = r.lastCounts then r else { r with
      changeWanted := true
      pending := if (r.changeEarliest = none ∨ expired now r.changeEarliest = true) ∧ r.pending = .none ∧ r.phase ≠ .silent
        then .sighting else r.pending } := by
  obtain ⟨href, hsending⟩ := RowBus.reference_of_not_sighting h
  have hdue := RowBus.changeDue_iff (r := { r with changeWanted := true }) now rfl
  unfold RowBus.noteReport
  dsimp only
  rw [if_neg (show ¬ r.withdrawn = true by simp [hw]), href, hsending, if_neg (show ¬ false = true by simp)]
  by_cases hearly : r.changeEarliest = none ∨ expired now r.changeEarliest = true
  · rw [if_pos (hdue.2 hearly), RowBus.pendSighting_eq_ite]
    simp [hearly, hw]
  · rw [if_neg (mt hdue.1 hearly)]
    simp [hearly]

theorem peers_toList (s : State) : s.view.peers.toList = (List.finRange 32).map s.peer := by
  refine List.ext_getElem (by simp) fun i h h' => ?_
  simp [State.peer]

theorem State.freshEntries_eq (s : State) (sw : Nat) : s.freshEntries sw =
    (List.finRange 32).filterMap (fun i => (s.peer i).bind (fun e =>
      if (elapsed s.timeBase e.time).toNat ≤ staleLimit s.config * sightingPeriod s.config * 1000
      then e.switches.find? (fun x => x.switch == sw) else none)) := by
  unfold State.freshEntries
  rw [peers_toList, List.filterMap_map]
  refine congrArg (List.filterMap · (List.finRange 32)) (funext fun i => ?_)
  simp only [Function.comp, State.fresh, decide_eq_true_eq]
  rfl

theorem State.entryAt_expireStagger (s : State) (sw : Nat) (pl : Place) : (s.expireStagger sw).entryAt pl =
    (s.entryAt pl).map (fun e => if s.entryCabledTo sw e then { e with verdictMark := some sw } else e) := by
  unfold State.expireStagger
  dsimp only
  generalize hset : s.setVerdict sw { s.verdict sw with staggerEnds := none, staggerExpired := true } = u
  have hcabled : u.entryCabledTo sw = s.entryCabledTo sw := by
    subst hset
    rfl
  have hcache : u.cache = s.cache := by
    subst hset
    rfl
  rw [State.entryAt_congr (s := u.setVerdictMarks sw) (t := (u.setVerdictMarks sw).raise _) rfl, State.setVerdictMarks, State.entryAt_mapEntries, hcabled, State.entryAt_congr hcache]

theorem State.reportCables_row (s : State) : s.reportCables.row = s.row.noteReport s.timeBase s.countAllCables := by
  rw [State.reportCables_eq]
  generalize s.recounted.recomputeThose _ = u
  rfl

theorem State.recomputeThose_view (s : State) (which : Nat → Bool) : (s.recomputeThose which).view.own = s.view.own ∧
    (s.recomputeThose which).view.peers = s.view.peers :=
  ⟨foldl_keeps (·.view.own) State.recompute (by simp) _ s, foldl_keeps (·.view.peers) State.recompute (by simp) _ s⟩

theorem State.reportCables_view (s : State) : s.reportCables.view.own = s.countAllCables ∧ s.reportCables.view.peers = s.view.peers ∧
    s.samePlacements s.reportCables := by
  obtain ⟨hown, hpeers⟩ := s.recounted.recomputeThose_view (fun sw => s.ownCount sw != bySwitch s.countAllCables ⟨0, 0⟩ sw)
  have hplaced := s.recounted.samePlacements_recomputeThose (fun sw => s.ownCount sw != bySwitch s.countAllCables ⟨0, 0⟩ sw)
  rw [State.reportCables_eq]
  generalize s.recounted.recomputeThose _ = u at *
  exact ⟨hown, hpeers, ((State.samePlacements.of_cache rfl).trans hplaced).trans (.of_cache rfl)⟩

theorem State.withCounts_verdict (s : State) (sw : Nat) (v : VerdictRecord) : (s.withCounts sw v).verdict = v.verdict := rfl

theorem State.recompute_of_failing (h : (s.verdict sw).verdict = .failing) : (s.recompute sw).raised = s.raised ∧
    (s.recompute sw).cache = s.cache := by
  unfold State.recompute
  dsimp only
  rw [State.withCounts_verdict, h]
  dsimp only
  (repeat' split) <;> exact ⟨rfl, rfl⟩

/-- A switch that is not FAILING: a verdict that stands is not reported, and only an applied one marks entries. -/
theorem State.recompute_of_not_failing (h : (s.verdict sw).verdict ≠ .failing) :
    let v := s.withCounts sw (s.verdict sw)
    let verdict := judge s.config v.c v.d
    let stagger := s.station.id.val * staggerUnit s.config
    (verdict = (s.verdict sw).verdict → (s.recompute sw).raised = s.raised) ∧
    (stagger ≠ 0 ∨ verdict ≠ .failing → (s.recompute sw).cache = s.cache) ∧
    (stagger = 0 → verdict = .failing → ∀ pl, (s.recompute sw).entryAt pl =
      (s.entryAt pl).map (fun e => if s.entryCabledTo sw e then { e with verdictMark := some sw } else e)) := by
  intro v verdict stagger
  unfold State.recompute
  dsimp only
  split
  next hv => exact absurd hv h
  · by_cases hf : verdict = .failing
    · rw [show judge s.config v.c v.d = .failing from hf]
      unfold State.becomeFailing
      dsimp only
      by_cases hz : stagger = 0
      · rw [if_pos hz]
        exact ⟨fun hc => absurd (hc.symm.trans hf) h, fun hc => (hc.elim (· hz) (· hf)).elim,
          fun _ _ pl => State.entryAt_expireStagger _ sw pl⟩
      · rw [if_neg hz]
        exact ⟨fun hc => absurd (hc.symm.trans hf) h, fun _ => rfl, fun hc => absurd hc hz⟩
    · split
      next hj => exact absurd hj hf
      · refine ⟨fun hc => ?_, fun _ => ?_, fun _ hc => absurd hc hf⟩
        · rw [if_pos (show judge s.config v.c v.d = v.verdict from hc)]
          rfl
        · split <;> rfl

end

/-- Settles O49: the report of the cables, and a recomputation by the verdict it finds. -/
theorem verdictsFollowTheFreshView : Obligations.VerdictsFollowTheFreshView := by
  refine ⟨fun s => ?_, fun s sw hsw => ?_⟩
  · intro t sighting
    have hrow : t.row = s.row.noteReport s.timeBase s.countAllCables := s.reportCables_row
    obtain ⟨hown, hpeers, hplaced⟩ : t.view.own = s.countAllCables ∧ t.view.peers = s.view.peers ∧ s.samePlacements t := s.reportCables_view
    refine ⟨fun b hb => ?_, hplaced, hpeers, fun sw hsw => ⟨?_, ?_⟩, fun hw => ?_, fun hw hno => ?_, fun hw id state entries hphase => ?_⟩
    · cases b <;> first | exact absurd (by decide) hb | simp only [State.sameIn, t, State.reportCables_frame]
    · rw [State.ownCount, hown, countAllCables_at s hsw]
    · rw [hown]
      exact State.verdict_reportCables hsw
    · rw [hrow, RowBus.noteReport_of_withdrawn _ _ hw]
    · have hnote := RowBus.noteReport_of_not_sighting s.timeBase s.countAllCables hw fun id state entries hc => hno ⟨id, state, entries, hc⟩
      rw [hrow, hown, hnote]
      split <;> rfl
    · rw [hrow, hown, RowBus.noteReport_of_sighting s.timeBase s.countAllCables hw hphase]
      split <;> rfl
  · intro v t w listing own stagger
    have hw : w = s.newVerdict (s.withCounts sw v) := by rw [show w = _ from State.verdict_recompute hsw, if_pos rfl]
    obtain ⟨hc, hd, hl, hn⟩ := s.newVerdict_counts (s.withCounts sw v)
    have hlisting : s.freshEntries sw = listing := s.freshEntries_eq sw
    refine ⟨?_, ?_, ?_, ?_, fun x hx hne => ?_, fun hv => ?_, fun hv => ?_⟩
    · rw [hw, hn, ← hlisting]
      rfl
    · rw [hw, hl, ← hlisting]
      rfl
    · rw [hw, hc, ← hlisting, Nat.add_comm]
      rfl
    · rw [hw, hd, ← hlisting, Nat.add_comm]
      rfl
    · rw [show t.verdict x = _ from State.verdict_recompute hsw, if_neg (Ne.symm hne)]
    · obtain ⟨hraised, hcache, hmarks⟩ := State.recompute_of_not_failing hv
      have hverdict : w.verdict = judge s.config (s.withCounts sw v).c (s.withCounts sw v).d := by
        rw [hw, State.newVerdict, State.withCounts_verdict, if_neg hv]
        split
        next hj => exact hj.symm
        · rfl
      refine ⟨by rw [hverdict, hw, hc, hd]; rfl, fun hf => ?_, fun heq => hraised (hverdict.symm.trans heq),
        fun hno => hcache (hno.imp_right (hverdict ▸ ·))⟩
      have hfail := hverdict.symm.trans hf
      have hnew : w = _ := hw.trans ((if_neg hv).trans (if_pos hfail))
      refine ⟨by rw [hnew], fun hz => ⟨by rw [hnew]; exact if_pos hz, by rw [hnew]; exact decide_eq_true hz, fun pl e he => ?_⟩,
        fun hz => ⟨by rw [hnew]; exact if_neg hz, by rw [hnew]; exact decide_eq_false hz⟩⟩
      rw [show t.entryAt pl = _ from hmarks hz hfail pl, he]
      rfl
    · obtain ⟨hraised, hcache⟩ := State.recompute_of_failing hv
      have hfail : w = _ := hw.trans (if_pos hv)
      rw [hfail]
      refine ⟨hv, rfl, rfl, fun hd => if_pos hd, fun hzero => if_neg ?_, hraised, hcache⟩
      rw [show (s.withCounts sw v).d = 0 from hzero]
      decide

end Sys2Proof.Machine

namespace Sys2Proof.Machine
open Sys2Proof

/-! ### The report of a changed cable: what it reads, and that a second one adds nothing (R75, R90) -/

section
variable {s t u : State} {sw : Nat} {own : Vector CableCount 15} {r : RowBus} {now : Time}

theorem State.view_setVerdict_twice (s : State) (hsw : sw ∈ allSwitches) (v w : VerdictRecord) :
    ((s.setVerdict sw v).setVerdict sw w).view = (s.setVerdict sw w).view := by
  simp only [State.setVerdict, setBySwitch, dif_pos (switch_bounds hsw), Vector.set_set]

/-- All that a recomputation does to the view is its switch's new record. -/
theorem State.view_recompute (hsw : sw ∈ allSwitches) : (s.recompute sw).view =
    (s.setVerdict sw (s.newVerdict (s.withCounts sw (s.verdict sw)))).view := by
  unfold State.recompute State.newVerdict
  dsimp only
  generalize s.withCounts sw (s.verdict sw) = v
  split
  next hv =>
    rw [if_pos hv]
    split
    next hd => rfl
    next hd =>
      split
      next hsome =>
        obtain ⟨ends, hends⟩ := Option.isSome_iff_exists.1 hsome
        cases v
        cases hends
        rfl
      next hnone =>
        rw [Option.not_isSome_iff_eq_none.1 hnone]
        rfl
  next hv =>
    rw [if_neg hv]
    split
    next hj =>
      rw [if_pos hj]
      unfold State.becomeFailing
      dsimp only
      split
      next hz =>
        rw [decide_eq_true hz]
        have hread : ∀ w b, ((s.setVerdict sw w).raise b).verdict sw = w := fun w b => by rw [State.verdict_setVerdict_raise hsw, if_pos rfl]
        have hview : ∀ u : State, (u.expireStagger sw).view =
            (u.setVerdict sw { u.verdict sw with staggerEnds := none, staggerExpired := true }).view := fun _ => rfl
        rw [hview, hread]
        exact State.view_setVerdict_twice s hsw _ _
      next hz =>
        rw [decide_eq_false hz]
        rfl
    next hj =>
      rw [if_neg hj]
      split
      next heq => rw [heq]
      · rfl

theorem State.view_recompute_congr (hsw : sw ∈ allSwitches) (hview : t.view = s.view) (hconfig : t.config = s.config)
    (htime : t.timeBase = s.timeBase) (hid : t.station.id = s.station.id) : (t.recompute sw).view = (s.recompute sw).view := by
  have hverdict : t.verdict sw = s.verdict sw := by simp only [State.verdict, hview]
  rw [State.view_recompute hsw, State.view_recompute hsw,
    State.withCounts_congr (congrArg RowView.peers hview) (congrArg RowView.own hview) hconfig htime, hverdict]
  simp only [State.setVerdict, State.newVerdict, hview, hconfig, htime, hid]

theorem State.view_foldl_recompute_congr (l : List Nat) (hl : ∀ x ∈ l, x ∈ allSwitches) (hview : t.view = s.view)
    (hconfig : t.config = s.config) (htime : t.timeBase = s.timeBase) (hid : t.station.id = s.station.id) :
    (l.foldl State.recompute t).view = (l.foldl State.recompute s).view := by
  induction l generalizing s t with
  | nil => exact hview
  | cons x l ih =>
    exact ih (fun y hy => hl y (List.mem_cons_of_mem x hy))
      (State.view_recompute_congr (hl x List.mem_cons_self) hview hconfig htime hid) (by simp [hconfig]) (by simp [htime]) (by simp [hid])

/-- The row view that a report leaves where the cables count `own`. -/
def State.viewWith (s : State) (own : Vector CableCount 15) : RowView :=
  (({ s with view := { s.view with own := own } } : State).recomputeThose (fun sw => s.ownCount sw != bySwitch own ⟨0, 0⟩ sw)).view

theorem State.reportCables_view_eq (s : State) : s.reportCables.view = s.viewWith s.countAllCables := by
  rw [State.reportCables_eq, State.setRow_view]
  rfl

theorem State.viewWith_congr (hview : t.view = s.view) (hconfig : t.config = s.config) (htime : t.timeBase = s.timeBase)
    (hid : t.station.id = s.station.id) (own : Vector CableCount 15) : t.viewWith own = s.viewWith own := by
  have hown : t.ownCount = s.ownCount := funext (State.ownCount_congr (congrArg RowView.own hview))
  unfold State.viewWith State.recomputeThose
  rw [hown]
  exact State.view_foldl_recompute_congr _ (fun x hx => (List.mem_filter.1 hx).1) (by simp [hview]) hconfig htime hid

theorem State.viewWith_of_own (h : s.view.own = own) : s.viewWith own = s.view := by
  have hnone : allSwitches.filter (fun sw => s.ownCount sw != bySwitch own ⟨0, 0⟩ sw) = [] :=
    List.filter_eq_nil_iff.2 fun sw _ => by
      rw [show s.ownCount sw = bySwitch own ⟨0, 0⟩ sw by rw [State.ownCount, h]]
      simp
  unfold State.viewWith State.recomputeThose
  rw [hnone, ← h]
  rfl

theorem State.viewWith_own (s : State) (own : Vector CableCount 15) : (s.viewWith own).own = own :=
  (State.recomputeThose_view ({ s with view := { s.view with own := own } } : State) _).1

theorem State.countAllCables_congr (hports : t.ports = s.ports) (hroutes : t.routes = s.routes) : t.countAllCables = s.countAllCables := by
  have hport : t.port = s.port := funext fun p => by simp only [State.port, hports]
  have hcell : t.cell = s.cell := funext fun y => funext fun p => by simp only [State.cell, hroutes]
  have hcable : t.isCable = s.isCable := funext fun sw => funext fun p => by simp only [State.isCable, hport]
  have hlost : t.cableLost = s.cableLost := funext fun p => by simp only [State.cableLost, State.allCellsLost, hport, hcell]
  simp only [State.countAllCables, State.countCables, hcable, hlost]

/-- In words of the counts alone: the view and the row bus after a report. -/
theorem State.reportedBy_iff : s.reportedBy t ↔
    t.view = s.viewWith t.countAllCables ∧ t.row = s.row.noteReport s.timeBase t.countAllCables := by
  have hcount : ({ s with ports := t.ports, routes := t.routes } : State).countAllCables = t.countAllCables := State.countAllCables_congr rfl rfl
  unfold State.reportedBy
  dsimp only
  rw [State.reportCables_view_eq, State.reportCables_row, hcount]
  exact and_congr (by rw [State.viewWith_congr (s := s) (t := { s with ports := t.ports, routes := t.routes }) rfl rfl rfl rfl]) Iff.rfl

theorem RowBus.pendSighting_of_phase (r : RowBus) : r.pendSighting.pendSighting = r.pendSighting := by
  unfold RowBus.pendSighting
  by_cases h : r.pending = .none ∧ !r.withdrawn ∧ r.phase ≠ .silent
  · rw [if_pos h, if_neg (by simp)]
  · rw [if_neg h, if_neg h]

/-- A second report of the same counts is no news to the row bus. -/
theorem RowBus.noteReport_twice (now : Time) (own : Vector CableCount 15) (r : RowBus) :
    (r.noteReport now own).noteReport now own = r.noteReport now own := by
  by_cases hw : r.withdrawn = true
  · rw [RowBus.noteReport_of_withdrawn now own hw, RowBus.noteReport_of_withdrawn now own hw]
  · have hw : r.withdrawn = false := by simpa using hw
    by_cases hsending : ∃ id state entries, r.phase = .sending (.sighting id state entries)
    · obtain ⟨id, state, entries, hphase⟩ := hsending
      rw [RowBus.noteReport_of_sighting now own hw hphase]
      by_cases hown : own = sightingCounts entries
      · rw [if_pos hown, RowBus.noteReport_of_sighting now own hw hphase, if_pos hown]
      · rw [if_neg hown, RowBus.noteReport_of_sighting (r := { r with wantedNext := true }) now own hw hphase, if_neg hown]
    · have hno : ∀ id state entries, r.phase ≠ .sending (.sighting id state entries) := fun id state entries hc => hsending ⟨id, state, entries, hc⟩
      rw [RowBus.noteReport_of_not_sighting now own hw hno]
      by_cases hown : own = r.lastCounts
      · rw [if_pos hown, RowBus.noteReport_of_not_sighting now own hw hno, if_pos hown]
      · rw [if_neg hown, RowBus.noteReport_of_not_sighting now own (by exact hw) (by exact hno)]
        dsimp only
        rw [if_neg hown]
        by_cases hdue : r.changeEarliest = none ∨ expired now r.changeEarliest = true
        · by_cases hpend : r.pending = .none ∧ r.phase ≠ .silent
          · simp [hdue, hpend]
          · simp [hdue, hpend]
        · simp [hdue]

/-- Nothing between two states that a report reads but the ports and the cells. -/
structure State.Unreported (s t : State) : Prop where
  view : t.view = s.view
  row : t.row = s.row
  config : t.config = s.config
  time : t.timeBase = s.timeBase
  station : t.station = s.station

theorem State.Unreported.refl (s : State) : s.Unreported s := ⟨rfl, rfl, rfl, rfl, rfl⟩

theorem State.Unreported.trans (h : s.Unreported t) (g : t.Unreported u) : s.Unreported u :=
  ⟨g.view.trans h.view, g.row.trans h.row, g.config.trans h.config, g.time.trans h.time, g.station.trans h.station⟩

theorem State.Unreported.report (h : s.Unreported t) : s.reportedBy t.reportCables := by
  have hcount : t.reportCables.countAllCables = t.countAllCables := State.countAllCables_congr (by simp) (by simp)
  rw [State.reportedBy_iff, hcount, State.reportCables_view_eq, State.reportCables_row, h.row, h.time]
  exact ⟨State.viewWith_congr h.view h.config h.time (congrArg Station.id h.station) _, rfl⟩

theorem State.reportedBy.keep (h : s.reportedBy t) (hview : u.view = t.view) (hrow : u.row = t.row)
    (hcount : u.countAllCables = t.countAllCables) : s.reportedBy u := by
  rw [State.reportedBy_iff] at h ⊢
  rw [hview, hrow, hcount]
  exact h

theorem State.reportedBy.again (h : s.reportedBy t) (hview : u.view = t.view) (hrow : u.row = t.row)
    (hcount : u.countAllCables = t.countAllCables) (htime : u.timeBase = s.timeBase) : s.reportedBy u.reportCables := by
  rw [State.reportedBy_iff] at h
  obtain ⟨hv, hr⟩ := h
  have hview' : u.reportCables.view = u.view := by
    rw [State.reportCables_view_eq]
    exact State.viewWith_of_own (by rw [hview, hv, hcount, State.viewWith_own])
  have hrow' : u.reportCables.row = u.row := by
    rw [State.reportCables_row, hrow, hr, hcount, htime, RowBus.noteReport_twice]
  refine State.reportedBy.keep (t := t) (State.reportedBy_iff.2 ⟨hv, hr⟩) (hview'.trans hview) (hrow'.trans hrow) ?_
  rw [State.countAllCables_congr (s := u) (by simp) (by simp), hcount]

/-! ### The notices of an event -/

/-- Between two states of one event no notice but those of rank `k` or more has been raised. -/
def State.Raises (s t : State) (k : Nat) : Prop := ∃ l, t.raised = s.raised ++ l ∧ ∀ n ∈ l, k ≤ n.body.rank

theorem State.Raises.of_eq (h : t.raised = s.raised) (k : Nat) : s.Raises t k := ⟨[], by rw [h, List.append_nil], fun _ hn => nomatch hn⟩

theorem State.Raises.refl (s : State) (k : Nat) : s.Raises s k := .of_eq rfl k

theorem State.Raises.trans {k : Nat} (h : s.Raises t k) (g : t.Raises u k) : s.Raises u k := by
  obtain ⟨l, hl, hlr⟩ := h
  obtain ⟨m, hm, hmr⟩ := g
  exact ⟨l ++ m, by rw [hm, hl, List.append_assoc], fun n hn => (List.mem_append.1 hn).elim (hlr n) (hmr n)⟩

theorem State.Raises.mono {j k : Nat} (h : s.Raises t k) (hj : j ≤ k) : s.Raises t j := by
  obtain ⟨l, hl, hlr⟩ := h
  exact ⟨l, hl, fun n hn => hj.trans (hlr n hn)⟩

theorem State.raises_raise (s : State) (b : NoticeBody) : s.Raises (s.raise b) b.rank :=
  ⟨[⟨s.timeBase, b⟩], rfl, fun n hn => by rw [List.mem_singleton.1 hn]⟩

theorem State.raises_verdictChange (s : State) (sw : Nat) (v w x : Verdict) (c d n : Nat) :
    s.Raises (s.raise (.verdictChange sw v w x c d n)) 2 := State.raises_raise s _

theorem State.raises_setVerdict (s : State) (sw : Nat) (v : VerdictRecord) (k : Nat) : s.Raises (s.setVerdict sw v) k := .of_eq rfl k

theorem State.raises_expireStagger (s : State) (sw : Nat) : s.Raises (s.expireStagger sw) 2 :=
  (State.Raises.of_eq (t := (s.setVerdict sw _).setVerdictMarks sw) (by simp) 2).trans (State.raises_verdictChange ..)

theorem State.raises_becomeFailing (s : State) (sw : Nat) (before : Verdict) (v : VerdictRecord) :
    s.Raises (s.becomeFailing sw before v) 2 := by
  unfold State.becomeFailing
  dsimp only
  generalize hset : s.setVerdict sw _ = u
  have hu : s.Raises u 2 := by
    subst hset
    exact .of_eq rfl 2
  have hraise := hu.trans (u.raises_verdictChange sw before .failing .suspect v.c v.d 0)
  split
  · exact hraise.trans (State.raises_expireStagger _ sw)
  · exact hraise

theorem State.raises_recompute (s : State) (sw : Nat) : s.Raises (s.recompute sw) 2 := by
  unfold State.recompute
  dsimp only
  generalize s.withCounts sw (s.verdict sw) = v
  split
  · (repeat' split) <;> exact .of_eq rfl 2
  · split
    · exact s.raises_becomeFailing sw _ v
    · split
      · exact .of_eq rfl 2
      · exact (s.raises_setVerdict sw _ 2).trans (State.raises_verdictChange ..)

theorem State.raises_recomputeThose (s : State) (which : Nat → Bool) : s.Raises (s.recomputeThose which) 2 :=
  List.foldlRecOn (motive := fun t => s.Raises t 2) _ State.recompute (.refl s 2) fun t ht sw _ => ht.trans (State.raises_recompute t sw)

theorem State.raises_reportCables (s : State) : s.Raises s.reportCables 2 := by
  rw [State.reportCables_eq]
  exact ((State.Raises.of_eq (t := s.recounted) rfl 2).trans (State.raises_recomputeThose _ _)).trans (.of_eq (State.setRow_raised _ _) 2)

/-- A notice raised where none of its rank or a lower one stands comes first. -/
theorem State.notifies_of_raises {x : State} {b : NoticeBody} (hr : s.raised = []) (hbefore : s.Raises x (b.rank + 1))
    (htime : x.timeBase = s.timeBase) (hafter : (x.raise b).Raises u b.rank) (hnotices : u.link.notices = s.link.notices) :
    s.notifies u.flush b := by
  obtain ⟨pre, hpre, hprer⟩ := hbefore
  obtain ⟨post, hpost, hpostr⟩ := hafter
  refine State.notifies_flush_head (pre := pre) (post := post) hnotices ?_ (fun n hn => hprer n hn) hpostr
  rw [hpost, show (x.raise b).raised = x.raised ++ [⟨x.timeBase, b⟩] from rfl, hpre, hr, htime, List.append_assoc]
  rfl

end

end Sys2Proof.Machine

namespace Sys2Proof.Machine
open Sys2Proof

/-! ### A port without a link changes its record (O33, O35) -/

section
variable {s t u : State} {p : PortId} {x y : Port}

theorem State.sameTable.refl (s : State) : s.sameTable s := ⟨rfl, rfl, rfl, rfl, rfl⟩

theorem State.sameTable.of_ex (h : t.ex = s.ex) : s.sameTable t := by constructor <;> rw [h]

theorem State.sameTable.trans (h : s.sameTable t) (g : t.sameTable u) : s.sameTable u :=
  ⟨g.slots.trans h.slots, g.free.trans h.free, g.order.trans h.order, g.results.trans h.results, g.outstanding.trans h.outstanding⟩

theorem State.sameTable_close (s : State) : s.sameTable s.close := ⟨rfl, rfl, rfl, rfl, rfl⟩

theorem State.port_congr (h : t.ports = s.ports) : t.port = s.port := funext fun q => by simp only [State.port, h]

theorem State.PortSet.trans (h : s.PortSet t p x) (g : t.PortSet u p y) : s.PortSet u p y where
  port := g.port
  others q hq := (g.others q hq).trans (h.others q hq)
  routes := g.routes.trans h.routes
  table := h.table.trans g.table
  entries := h.entries.trans g.entries

theorem State.PortSet.of_same (hports : t.ports = s.ports) (hroutes : t.routes = s.routes) (htable : s.sameTable t)
    (hentries : s.samePlacements t) : s.PortSet t p (s.port p) :=
  ⟨by rw [State.port_congr hports], fun q _ => by rw [State.port_congr hports], hroutes, htable, hentries⟩

theorem State.portSet_modPort (s : State) (p : PortId) (f : Port → Port) : s.PortSet (s.modPort p f) p (f (s.port p)) where
  port := by rw [State.port_modPort, if_pos rfl]
  others q hq := by rw [State.port_modPort, if_neg (Ne.symm hq)]
  routes := rfl
  table := .of_ex rfl
  entries := .of_cache rfl

theorem State.portSet_announce (s : State) (p : PortId) (left : PortState) (cause : PortCause) :
    s.PortSet (s.announce p left cause) p (s.port p) :=
  .of_same (by simp) (by simp) (.of_ex (by simp))
    ((State.samePlacements.of_cache (t := s.raise _) rfl).trans (State.reportCables_view _).2.2)

theorem State.portSet_close (s : State) (p : PortId) : s.PortSet s.close p (s.port p) :=
  .of_same (by simp) (by simp) s.sameTable_close (.of_cache (by simp))

theorem State.onlyIn_close (h : s.raised = []) : s.onlyIn s.close [.ex] := fun b hb => by
  have hlink := State.close_link_of_raised_nil h
  cases b <;> first | exact absurd (by decide) hb | simp only [State.sameIn, State.close_frame, hlink]

theorem State.onlyIn.mono {l m : List Block} (h : s.onlyIn t l) (hl : ∀ b ∈ l, b ∈ m) : s.onlyIn t m := fun b hb => h b fun hc => hb (hl b hc)

theorem State.onlyIn.trans {l : List Block} (h : s.onlyIn t l) (g : t.onlyIn u l) : s.onlyIn u l := fun b hb => by
  have h' := h b hb
  have g' := g b hb
  cases b <;> exact Eq.trans g' h'

theorem State.unreported_modPort (s : State) (p : PortId) (f : Port → Port) : s.Unreported (s.modPort p f) := ⟨rfl, rfl, rfl, rfl, rfl⟩

theorem State.reportedBy.close (h : s.reportedBy t) : s.reportedBy t.close :=
  h.keep (by simp) (by simp) (State.countAllCables_congr (by simp) (by simp))

/-- Training is for the row view what DOWN is: a lost cable (R134). -/
theorem State.countAllCables_modPort (f : Port → Port) (hidentity : (f (s.port p)).identity = (s.port p).identity)
    (hstate : (s.port p).state = .down ∧ (f (s.port p)).state = .training) : (s.modPort p f).countAllCables = s.countAllCables := by
  have hport : ∀ q, (s.modPort p f).port q = if p = q then f (s.port p) else s.port q := fun q => State.port_modPort s p q f
  obtain ⟨hdown, htraining⟩ := hstate
  have hcable : (s.modPort p f).isCable = s.isCable := funext fun sw => funext fun q => by
    simp only [State.isCable, hport]
    split
    next heq => subst heq; rw [hidentity, hdown, htraining]; rfl
    · rfl
  have hlost : (s.modPort p f).cableLost = s.cableLost := funext fun q => by
    simp only [State.cableLost, hport]
    split
    next heq => subst heq; rw [hdown, htraining]; rfl
    · rfl
  simp only [State.countAllCables, State.countCables, hcable, hlost]

theorem State.raises_after_announce (x : State) (p : PortId) (left : PortState) (cause : PortCause) :
    (x.raise (.portChange p left (x.port p).state (x.port p).identity cause)).Raises (x.announce p left cause) 0 :=
  (State.raises_reportCables _).mono (Nat.zero_le 2)

theorem State.raises_announce (x : State) (p : PortId) (left : PortState) (cause : PortCause) : x.Raises (x.announce p left cause) 0 :=
  (State.raises_raise x (.portChange p left (x.port p).state (x.port p).identity cause)).trans (x.raises_after_announce p left cause)

/-- An announced change of a port's state is the first of its event's notices, whatever follows in the step. -/
theorem State.notifies_announced {x : State} {left : PortState} {cause : PortCause} (hr : s.raised = []) (hx : s.Raises x 1)
    (htime : x.timeBase = s.timeBase) (hu : (x.announce p left cause).Raises u 0) (hlink : u.link.notices = s.link.notices) :
    s.notifies u.close (.portChange p left (x.port p).state (x.port p).identity cause) :=
  State.notifies_of_raises (x := x) (u := u.settleReady) hr hx htime ((x.raises_after_announce p left cause).trans hu) hlink

/-- A port changed and the change announced. -/
theorem State.portSet_announced (s : State) (p : PortId) (f : Port → Port) (left : PortState) (cause : PortCause) :
    s.PortSet ((s.modPort p f).announce p left cause) p (f (s.port p)) := by
  have hset := (s.modPort p f).portSet_announce p left cause
  rw [State.port_modPort, if_pos rfl] at hset
  exact (s.portSet_modPort p f).trans hset

theorem State.Unreported.announce (h : s.Unreported t) (p : PortId) (left : PortState) (cause : PortCause) :
    s.reportedBy (t.announce p left cause) :=
  (h.trans (u := t.raise _) ⟨rfl, rfl, rfl, rfl, rfl⟩).report

/-- All that is stated of a port's change outside UP and QUIESCING, where nothing follows it. -/
theorem State.announced (hr : s.raised = []) (p : PortId) (f : Port → Port) (left : PortState) (cause : PortCause) :
    let t := ((s.modPort p f).announce p left cause).close
    t.failover = s.failover ∧ s.PortSet t p (f (s.port p)) ∧ s.reportedBy t ∧
    s.notifies t (.portChange p left (f (s.port p)).state (f (s.port p)).identity cause) := by
  have hnotice := State.notifies_announced (s := s) (x := s.modPort p f) (p := p) (left := left) (cause := cause) hr (.of_eq rfl 1) rfl
    (.refl _ 0) (by simp)
  rw [State.port_modPort, if_pos rfl] at hnotice
  have hset := s.portSet_announced p f left cause
  have hclose := ((s.modPort p f).announce p left cause).portSet_close p
  rw [hset.port] at hclose
  exact ⟨by simp, hset.trans hclose, ((s.unreported_modPort p f).announce p left cause).close, hnotice⟩

theorem State.modPort_modPort (s : State) (p : PortId) (f g : Port → Port) : (s.modPort p f).modPort p g = s.modPort p (fun x => g (f x)) := by
  have hport : (s.modPort p f).port p = f (s.port p) := by rw [State.port_modPort, if_pos rfl]
  unfold State.modPort at hport ⊢
  rw [hport]
  simp only [State.setPort, Vector.set_set]

/-- The detection that ends a step's event, seen from its state before. -/
theorem State.detect_spec (u : State) (p : PortId) (hdown : (u.port p).state = .down) :
    u.PortSet (u.detect p) p (if (u.port p).signal = true ∧ (u.port p).retryBar = false
      then { u.port p with state := .training, trainingEnds := some (u.timeBase + ms (trainingWait u.config)) } else u.port p) ∧
    u.Raises (u.detect p) 0 ∧ ∀ s : State, u.timeBase = s.timeBase → s.reportedBy u → s.reportedBy (u.detect p) := by
  unfold State.detect
  by_cases h : (u.port p).signal = true ∧ (u.port p).retryBar = false
  · rw [if_pos h, if_pos (by rw [hdown, h.1, h.2]; exact ⟨rfl, rfl, rfl⟩)]
    refine ⟨u.portSet_announced p _ _ _, ?_, fun s htime hs => ?_⟩
    · exact (State.Raises.of_eq (t := u.modPort p _) rfl 0).trans (State.raises_announce _ _ _ _)
    · have hcount := State.countAllCables_modPort (s := u) (p := p)
        (fun x => { x with state := .training, trainingEnds := some (u.timeBase + ms (trainingWait u.config)) }) rfl ⟨hdown, rfl⟩
      exact State.reportedBy.again (u := (u.modPort p _).raise _) hs rfl rfl hcount htime
  · rw [if_neg h, if_neg (by rw [hdown]; simpa using h)]
    exact ⟨.of_same rfl rfl (.refl u) (.refl u), .refl u 0, fun s _ hs => hs⟩

theorem State.PortSet.close (h : s.PortSet t p x) : s.PortSet t.close p x := by
  have hclose := t.portSet_close p
  rw [h.port] at hclose
  exact h.trans hclose

/-- What follows an entry into DOWN: a detection where signal is present and the bar clear (R60). -/
theorem State.PortSet.detected (hset : s.PortSet u p x) (hdown : x.state = .down) (hreport : s.reportedBy u) (hframe : u.timeBase = s.timeBase)
    (hconfig : u.config = s.config) (hfailover : u.failover = s.failover) :
    (u.detect p).close.failover = s.failover ∧ s.PortSet (u.detect p).close p (if x.signal = true ∧ x.retryBar = false
      then { x with state := .training, trainingEnds := some (s.timeBase + ms (trainingWait s.config)) } else x) ∧
    s.reportedBy (u.detect p).close := by
  obtain ⟨hdetected, -, hagain⟩ := u.detect_spec p (by rw [hset.port]; exact hdown)
  rw [hset.port, hframe, hconfig] at hdetected
  exact ⟨by simp [hfailover], (hset.trans hdetected).close, (hagain s hframe hreport).close⟩

theorem State.announced_detected (hr : s.raised = []) (p : PortId) (f : Port → Port) (left : PortState) (cause : PortCause)
    (hdown : (f (s.port p)).state = .down) :
    let t := (((s.modPort p f).announce p left cause).detect p).close
    t.failover = s.failover ∧ s.PortSet t p (if (f (s.port p)).signal = true ∧ (f (s.port p)).retryBar = false
      then { f (s.port p) with state := .training, trainingEnds := some (s.timeBase + ms (trainingWait s.config)) } else f (s.port p)) ∧
    s.reportedBy t ∧ s.notifies t (.portChange p left .down (f (s.port p)).identity cause) := by
  have hset := s.portSet_announced p f left cause
  obtain ⟨hfailover, hport, hreport⟩ := hset.detected hdown ((s.unreported_modPort p f).announce p left cause) (by simp) (by simp) (by simp)
  have hraises := (State.detect_spec _ p (by rw [hset.port]; exact hdown)).2.1
  have hnotice := State.notifies_announced (s := s) (x := s.modPort p f) (p := p) hr (.of_eq rfl 1) rfl hraises (by simp)
  rw [State.port_modPort, if_pos rfl, hdown] at hnotice
  exact ⟨hfailover, hport, hreport, hnotice⟩

/-- Settles O33: a detection, the end of a hold, the end of training and the loss of signal. -/
theorem signalAndTraining : Obligations.SignalAndTraining := by
  refine ⟨fun s p hr => ?_, fun s p hr => ?_⟩
  · intro x ends
    have hport : (s.modPort p (fun x => { x with signal := true })).port p = { x with signal := true } := by
      rw [State.port_modPort, if_pos rfl]
    have harrive : exec (.signalArriving p) s = if s.station.state = .loading ∨ x.signal = true
        then .next (s.modPort p (fun x => { x with signal := true }))
        else .next ((s.modPort p (fun x => { x with signal := true })).detect p).close := rfl
    refine ⟨fun hdown hbar hsignal hup => ?_, fun hno => ?_, fun hstate hdue => ?_, fun hno => ?_⟩
    · rw [harrive, if_neg (by simp [hup, hsignal])]
      have hdetect : (s.modPort p (fun x => { x with signal := true })).detect p =
          (s.modPort p (fun _ => { x with state := .training, signal := true, trainingEnds := ends })).announce p .down .detected := by
        unfold State.detect
        rw [hport, if_pos ⟨hdown, rfl, by simp [hbar]⟩, State.modPort_modPort]
        rfl
      rw [hdetect]
      exact ⟨_, rfl, State.announced hr p _ .down .detected⟩
    · have hnone : ¬ (s.station.state = .loading ∨ x.signal = true) → (s.modPort p (fun x => { x with signal := true })).detect p =
          s.modPort p (fun x => { x with signal := true }) := fun hcond => by
        unfold State.detect
        rw [hport]
        refine if_neg fun hc => ?_
        obtain ⟨hdown, -, hbar⟩ := hc
        rcases hno with h | h | h | h
        · exact h hdown
        · simp [h] at hbar
        · exact hcond (.inr h)
        · exact hcond (.inl h)
      have honly : s.onlyIn (s.modPort p (fun x => { x with signal := true })) [.ports, .ex] := fun b hb => by
        cases b <;> first | rfl | exact absurd (by decide) hb
      have hset := s.portSet_modPort p (fun x => { x with signal := true })
      rw [harrive]
      split
      next => exact ⟨_, rfl, hset, honly⟩
      next hcond =>
        rw [hnone hcond]
        have hlast : (s.modPort p (fun x => { x with signal := true })).onlyIn (s.modPort p (fun x => { x with signal := true })).close
            [.ports, .ex] := (State.onlyIn_close (s := s.modPort p _) hr).mono (by simp)
        have hclose := (s.modPort p (fun x => { x with signal := true })).portSet_close p
        rw [hport] at hclose
        exact ⟨_, rfl, hset.trans hclose, honly.trans hlast⟩
    · have ht : exec (.portResetHoldExpiry p) s = .next (((s.modPort p (fun x => { x with state := .down, holdEnds := none })).announce p
          .reset .holdExpired).detect p).close := if_pos ⟨hstate, hdue⟩
      obtain ⟨hfailover, hset, hreport, hnotice⟩ := State.announced_detected hr p (fun x => { x with state := .down, holdEnds := none })
        .reset .holdExpired rfl
      exact ⟨_, ht, hfailover, hset, hreport, hnotice⟩
    · exact if_neg fun hc => hno.elim (fun h => h hc.1) fun h => by rw [hc.2] at h; cases h
  · intro x
    refine ⟨fun hstate hdue => ?_, fun hno => ?_, fun hstate => ?_, fun hstate => ?_⟩
    · exact ⟨_, if_pos ⟨hstate, hdue⟩, State.announced hr p _ .training .trainingExpired⟩
    · exact if_neg fun hc => hno.elim (fun h => h hc.1) fun h => by rw [hc.2] at h; cases h
    · have hlost : exec (.signalLost p) s = .next (((s.modPort p (fun x => { x with signal := false, retryBar := false })).modPort p
          (fun x => { x with state := .down, trainingEnds := none })).announce p .training .signalLost).close := by
        simp only [exec, execSignalLost, show (s.port p).state = .training from hstate]
      rw [hlost, State.modPort_modPort]
      exact ⟨_, rfl, State.announced hr p _ .training .signalLost⟩
    · have hmod : s.setPort p { x with signal := false, retryBar := false } = s.modPort p (fun x => { x with signal := false, retryBar := false }) := rfl
      rw [hmod]
      rcases hstate with h | h | h <;> simp only [exec, execSignalLost, show (s.port p).state = _ from h]

theorem State.takeDamaged_of_unlinked (h : (s.port p).state.linked = false) : s.takeDamaged p = s :=
  if_neg (by simp [h])

theorem State.takeDamaged_of_room (h : (s.port p).state.linked = true)
    (hroom : ((s.port p).history.filter (fun at_ => (elapsed s.timeBase at_).toNat ≤ 10000)).length < 7) :
    s.takeDamaged p = s.modPort p (fun x => { x with
      history := (s.port p).history.filter (fun at_ => (elapsed s.timeBase at_).toNat ≤ 10000) ++ [s.timeBase] }) := by
  unfold State.takeDamaged
  rw [if_pos h]
  dsimp only
  rw [if_neg (Nat.not_le.2 hroom : ¬ Config.historyLimit ≤ ((s.port p).history.filter
    (fun at_ => (elapsed s.timeBase at_).toNat ≤ Config.historyWindowUs)).length), State.modPort_modPort]
  rfl

theorem State.heard_of_linked (h : (s.port p).state.linked = true) :
    s.heard p = s.setPort p { s.port p with silenceEnds := some (s.timeBase + ms (linkSilence s.config)) } := if_pos h

theorem State.heard_of_unlinked (h : (s.port p).state.linked = false) : s.heard p = s := if_neg (by simp [h])

/-- A change of one port that a step ends on. -/
theorem State.closed_modPort (hr : s.raised = []) (p : PortId) (f : Port → Port) :
    s.PortSet (s.modPort p f).close p (f (s.port p)) ∧ s.onlyIn (s.modPort p f).close [.ports, .ex] := by
  have honly : s.onlyIn (s.modPort p f) [.ports, .ex] := fun b hb => by
    cases b <;> first | rfl | exact absurd (by decide) hb
  exact ⟨(s.portSet_modPort p f).close, honly.trans ((State.onlyIn_close (s := s.modPort p f) hr).mono (by simp))⟩

/-- Settles O35, by the state of the port. -/
theorem framesFromTheSwitch : Obligations.FramesFromTheSwitch := by
  refine ⟨fun s p hr => ?_, fun s p count => ?_⟩
  · intro kept
    refine ⟨fun hlinked hroom => ?_, fun hlinked => ?_, fun tag attempt payload hlong => ?_, fun tag attempt finding payload hwf => ?_,
      fun target number hrange => ?_⟩
    · have ht : exec (.damagedFrame p) s = .next (s.takeDamaged p).close := rfl
      rw [ht, State.takeDamaged_of_room hlinked hroom]
      exact ⟨_, rfl, State.closed_modPort hr p _⟩
    · have ht : exec (.damagedFrame p) s = .next (s.takeDamaged p).close := rfl
      rw [ht, State.takeDamaged_of_unlinked hlinked]
      exact ⟨_, rfl, s.sameTable_close, State.onlyIn_close hr⟩
    · exact if_pos hlong
    · refine if_pos ?_
      unfold tracePayloadWf at hwf
      rw [Bool.and_eq_false_iff, decide_eq_false_iff_not, Nat.not_le, Bool.or_eq_false_iff] at hwf
      rw [Bool.or_eq_true, decide_eq_true_eq, Bool.and_eq_true]
      refine hwf.imp_right fun h => ⟨?_, ?_⟩
      · rw [bne, h.1]
        rfl
      · rw [h.2]
        rfl
    · exact if_pos (by rw [Bool.or_eq_true, decide_eq_true_eq, decide_eq_true_eq]; omega)
  · intro ends
    refine ⟨fun hlinked => ⟨?_, ?_⟩, fun hlinked => ⟨?_, ?_, fun reachList => ?_, fun target number hlow hhigh => ?_⟩⟩
    · have ht : exec (.fabricCreditArrival p count) s =
          .next ((s.heard p).modPort p (fun x => { x with credits := min (x.credits + count.toNat) Config.creditLimit })) := if_pos hlinked
      have hheard : s.heard p = s.modPort p (fun x => { x with silenceEnds := ends }) := if_pos hlinked
      rw [ht, hheard, State.modPort_modPort]
      rfl
    · exact congrArg _ (State.heard_of_linked hlinked)
    · exact if_neg (by simp [hlinked])
    · exact congrArg _ (State.heard_of_unlinked hlinked)
    · exact if_neg (by simp [hlinked])
    · have hrange : (decide (target.toNat < 1) || decide (63 < target.toNat)) = false := by
        rw [Bool.or_eq_false_iff, decide_eq_false_iff_not, decide_eq_false_iff_not]
        omega
      simp only [exec, execEcho, hrange, hlinked, Bool.not_false, if_true, Bool.false_eq_true, if_false]

end

end Sys2Proof.Machine

namespace Sys2Proof.Machine
open Sys2Proof

/-! ### A miss counted on a cell (R84, R86, R87, R90) -/

section
variable {s t u v : State} {y z : Nat} {p q : PortId} {k : Nat}

theorem State.mem_of_not_absent (h : (s.cell y p).state ≠ .absent) : y ∈ allTargets := by
  by_contra hy
  rw [State.cell, dif_neg fun hc => hy (List.mem_range'_1.2 (by omega))] at h
  exact h rfl

theorem State.mem_of_monitored (h : s.monitored y p = true) : y ∈ allTargets := State.mem_of_not_absent ((s.monitored_iff y p).1 h).1

theorem State.modCell_modCell (s : State) (y : Nat) (p : PortId) (f g : Cell → Cell) :
    (s.modCell y p f).modCell y p g = s.modCell y p (fun x => g (f x)) := by
  by_cases hy : y ∈ allTargets
  · have hrange : 1 ≤ y ∧ y ≤ 63 := by have := List.mem_range'_1.1 hy; omega
    have hread : (s.modCell y p f).cell y p = f (s.cell y p) := by rw [State.cell_modCell _ _ _ _ _ _ hy, if_pos ⟨rfl, rfl⟩]
    unfold State.modCell at hread ⊢
    rw [hread]
    simp only [State.setCell, dif_pos hrange, Vector.set_set]
  · rw [State.modCell_of_not_mem _ p g hy, State.modCell_of_not_mem s p _ hy, State.modCell_of_not_mem s p _ hy]

theorem State.countAllCables_of_states (hfaces : facesOf t.ports = facesOf s.ports) (hcells : cellStatesOf t.routes = cellStatesOf s.routes) :
    t.countAllCables = s.countAllCables := by
  have hlost : ∀ p, t.allCellsLost p = s.allCellsLost p := fun p => State.allCellsLost_congr fun y => by
    rw [← cellStatesOf_eq, hcells, cellStatesOf_eq]
  unfold State.countAllCables
  exact congrArg Vector.ofFn (funext fun i => State.countCables_congr hfaces (fun p _ => hlost p) _)

theorem State.allCellsLost_of_states (hcells : cellStatesOf t.routes = cellStatesOf s.routes) (p : PortId) :
    t.allCellsLost p = s.allCellsLost p := State.allCellsLost_congr fun y => by rw [← cellStatesOf_eq, hcells, cellStatesOf_eq]

theorem State.portState_of_faces (h : facesOf t.ports = facesOf s.ports) (p : PortId) : (t.port p).state = (s.port p).state :=
  congrArg Prod.snd (congrFun h p)

/-- A report that a change of cells makes where it alters a cable's loss (R90). -/
theorem State.Unreported.lostness (h : s.Unreported u) (hstate : (u.port p).state = (s.port p).state) :
    s.lostnessReported (State.reportIfLostness (s.allCellsLost p) p u) p := by
  unfold State.reportIfLostness State.lostnessReported
  rw [hstate]
  by_cases hup : (s.port p).state = .up ∧ u.allCellsLost p ≠ s.allCellsLost p
  · have hsame : u.reportCables.allCellsLost p = u.allCellsLost p := State.allCellsLost_of_states (by simp) p
    rw [if_pos hup, hsame, if_pos hup]
    exact h.report
  · rw [if_neg hup, if_neg hup]
    exact ⟨h.view, h.row⟩

theorem State.lostnessReported.keep (h : s.lostnessReported t p) (hview : u.view = t.view) (hrow : u.row = t.row)
    (hfaces : facesOf u.ports = facesOf t.ports) (hcells : cellStatesOf u.routes = cellStatesOf t.routes) : s.lostnessReported u p := by
  unfold State.lostnessReported at h ⊢
  rw [State.allCellsLost_of_states hcells]
  split at h
  next hup =>
    rw [if_pos hup]
    exact h.keep hview hrow (State.countAllCables_of_states hfaces hcells)
  next hup =>
    rw [if_neg hup, hview, hrow]
    exact h

theorem State.Unreported.symm (h : s.Unreported t) : t.Unreported s :=
  ⟨h.view.symm, h.row.symm, h.config.symm, h.time.symm, h.station.symm⟩

theorem State.reportedBy.before (h : s.reportedBy t) (hv : v.Unreported s) : v.reportedBy t := by
  rw [State.reportedBy_iff] at h ⊢
  rw [h.1, h.2, hv.row, hv.time]
  exact ⟨State.viewWith_congr hv.view hv.config hv.time (congrArg Station.id hv.station) _, rfl⟩

theorem State.lostnessReported.before (h : s.lostnessReported t p) (hv : v.Unreported s)
    (hfaces : facesOf s.ports = facesOf v.ports) (hcells : cellStatesOf s.routes = cellStatesOf v.routes) : v.lostnessReported t p := by
  unfold State.lostnessReported at h ⊢
  rw [State.portState_of_faces hfaces, State.allCellsLost_of_states hcells] at h
  split at h
  next hup =>
    rw [if_pos hup]
    exact h.before hv
  next hup =>
    rw [if_neg hup, ← hv.view, ← hv.row]
    exact h

/-- A probe that falls due marks its cell and joins its port's list; nothing else moves. -/
theorem State.cell_fallDue (s : State) {y : Nat} (p : PortId) (hy : y ∈ allTargets) :
    (∃ b, (s.fallDue y p).cell y p = { s.cell y p with pending := b }) ∧
    ∀ z q, ¬(z = y ∧ q = p) → (s.fallDue y p).cell z q = s.cell z q := by
  unfold State.fallDue
  split
  · have hjoin : ∀ z q, (s.joinProbe y p).cell z q = (s.modCell y p (fun x => { x with pending := true })).cell z q :=
      fun z q => congrFun (congrFun (State.cell_congr (State.modPort_routes _ _ _)) z) q
    refine ⟨⟨true, ?_⟩, fun z q h => ?_⟩
    · rw [hjoin, State.cell_modCell _ _ _ _ _ _ hy, if_pos ⟨rfl, rfl⟩]
    · rw [hjoin, State.cell_modCell _ _ _ _ _ _ hy, if_neg fun hc => h ⟨hc.1.symm, hc.2.symm⟩]
  · exact ⟨⟨_, rfl⟩, fun _ _ _ => rfl⟩

theorem State.port_fallDue (s : State) (y : Nat) (p q : PortId) : ∃ l, (s.fallDue y p).port q = { s.port q with pendingProbes := l } := by
  unfold State.fallDue
  split
  · by_cases hq : q = p
    · subst hq
      rw [State.port_joinProbe]
      unfold Port.probing
      split <;> exact ⟨_, rfl⟩
    · exact ⟨_, (s.onPort_joinProbe y p).port q hq⟩
  · exact ⟨_, rfl⟩

theorem State.raises_reportIfLostness (s : State) (b : Bool) (p : PortId) : s.Raises (State.reportIfLostness b p s) 2 := by
  unfold State.reportIfLostness
  split
  · exact s.raises_reportCables
  · exact .refl s 2

/-- What a miss counted in one state of an event leaves in the next (R84 to R87, R90). -/
structure State.MissCounted (s t : State) (y : Nat) (p : PortId) : Prop where
  cell : ∃ b, t.cell y p = { Cell.missed (missLimit s.config) (s.cell y p) with
    state := if missLimit s.config ≤ (s.cell y p).misses + 1 then .lost else (s.cell y p).state, pending := b }
  others : ∀ z q, ¬(z = y ∧ q = p) → t.cell z q = s.cell z q
  port : ∀ q, ∃ l, t.port q = { s.port q with pendingProbes := l }
  item : missLimit s.config ≤ (s.cell y p).misses + 1 → (s.cell y p).state = .good →
    .cellLoss y p ∈ t.failover.work ∨ t.portLossStands p = true
  notice : missLimit s.config ≤ (s.cell y p).misses + 1 → (s.cell y p).state ≠ .lost → ∃ x : State, x.raised = s.raised ∧
    x.timeBase = s.timeBase ∧
    (x.raise (.cellChange y p (s.cell y p).state .lost .misses (t.cell y p).step (t.cell y p).misses)).Raises t 1
  raises : s.Raises t 1
  report : s.lostnessReported t p
  entries : s.samePlacements t

theorem State.samePlacements_reportIfLostness (s : State) (b : Bool) (p : PortId) : s.samePlacements (State.reportIfLostness b p s) := by
  unfold State.reportIfLostness
  split
  · exact s.reportCables_view.2.2
  · exact .refl s

theorem missLimit_le_min {n limit : Nat} : limit ≤ min (n + 1) limit ↔ limit ≤ n + 1 := by omega

/-- A counted miss that leaves the cell's state as it was. -/
theorem State.missCounted_short (hmon : s.monitored y p = true)
    (hshort : ¬ (missLimit s.config ≤ (s.cell y p).misses + 1 ∧ (s.cell y p).state ≠ .lost)) :
    s.MissCounted ((s.modCell y p (Cell.missed (missLimit s.config))).fallDue y p) y p := by
  have hy := State.mem_of_monitored hmon
  generalize hu : s.modCell y p (Cell.missed (missLimit s.config)) = u
  have hcell : ∀ z q, u.cell z q = if y = z ∧ p = q then Cell.missed (missLimit s.config) (s.cell y p) else s.cell z q := fun z q => by
    rw [← hu, State.cell_modCell _ _ _ _ _ _ hy]
  have hstates : cellStatesOf u.routes = cellStatesOf s.routes := by
    rw [← hu]
    exact s.cellStatesOf_modCell y p _ rfl
  have hport : u.port = s.port := by rw [← hu, State.port_modCell]
  have hframe : s.Unreported u := by
    rw [← hu]
    exact ⟨by simp, by simp, by simp, by simp, by simp⟩
  have hraised : u.raised = s.raised := by rw [← hu]; simp
  have hcache : u.cache = s.cache := by rw [← hu]; simp
  obtain ⟨⟨b, hb⟩, hothers⟩ := u.cell_fallDue p hy
  refine ⟨⟨b, ?_⟩, fun z q hzq => ?_, fun q => ?_, fun hlimit hgood => ?_, fun hlimit hleft => absurd ⟨hlimit, hleft⟩ hshort,
    .of_eq (by simp [hraised]) 1, ?_, .of_cache (by simp [hcache])⟩
  · rw [hb, hcell, if_pos ⟨rfl, rfl⟩]
    split
    next hlimit =>
      have hlost : (s.cell y p).state = .lost := by
        by_contra h
        exact hshort ⟨hlimit, h⟩
      rw [← hlost]
      rfl
    · rfl
  · rw [hothers z q hzq, hcell, if_neg fun hc => hzq ⟨hc.1.symm, hc.2.symm⟩]
  · obtain ⟨l, hl⟩ := u.port_fallDue y p q
    exact ⟨l, by rw [hl, hport]⟩
  · exact absurd ⟨hlimit, by rw [hgood]; decide⟩ hshort
  · unfold State.lostnessReported
    rw [if_neg fun hc => hc.2 (State.allCellsLost_of_states (by simp [hstates]) p)]
    exact ⟨by simp [hframe.view], by simp [hframe.row]⟩

/-- The state of a miss that loses its cell, before the report of the cable: cell LOST, the notice raised, the item offered. -/
def State.cellMissedOut (s : State) (y : Nat) (p : PortId) : State :=
  let s3 := ((s.modCell y p (Cell.missed (missLimit s.config))).modCell y p (fun x => { x with state := .lost })).raiseCell y p
    (s.cell y p).state .misses
  if (s.cell y p).state = .good ∨ s3.carries y p then s3.offerCellLoss y p else s3

theorem State.cellMissedOut_spec (hy : y ∈ allTargets) : let u := s.cellMissedOut y p
    (∀ z q, u.cell z q = if y = z ∧ p = q then { Cell.missed (missLimit s.config) (s.cell y p) with state := .lost } else s.cell z q) ∧
    u.ports = s.ports ∧ s.Unreported u ∧ u.cache = s.cache ∧
    u.raised = s.raised ++ [⟨s.timeBase, .cellChange y p (s.cell y p).state .lost .misses
      (min ((s.cell y p).step + 1) Config.stepLimit) (min ((s.cell y p).misses + 1) (missLimit s.config))⟩] ∧
    ((s.cell y p).state = .good → .cellLoss y p ∈ u.failover.work ∨ u.portLossStands p = true) := by
  intro u
  have hu : u = s.cellMissedOut y p := rfl
  unfold State.cellMissedOut at hu
  rw [State.modCell_modCell] at hu
  dsimp only at hu
  generalize hw : s.modCell y p (fun x => { Cell.missed (missLimit s.config) x with state := .lost }) = w at hu
  have hcell : ∀ z q, w.cell z q = if y = z ∧ p = q then { Cell.missed (missLimit s.config) (s.cell y p) with state := .lost } else s.cell z q :=
    fun z q => by rw [← hw, State.cell_modCell _ _ _ _ _ _ hy]
  have hraise : (w.raiseCell y p (s.cell y p).state .misses).raised = s.raised ++ [⟨s.timeBase, .cellChange y p (s.cell y p).state .lost .misses
      (min ((s.cell y p).step + 1) Config.stepLimit) (min ((s.cell y p).misses + 1) (missLimit s.config))⟩] := by
    have hraised : w.raised = s.raised := by rw [← hw]; simp
    have htime : w.timeBase = s.timeBase := by rw [← hw]; simp
    unfold State.raiseCell
    rw [hcell, if_pos ⟨rfl, rfl⟩]
    change w.raised ++ [⟨w.timeBase, _⟩] = _
    rw [hraised, htime]
    rfl
  have hframe : s.Unreported w := by rw [← hw]; exact ⟨by simp, by simp, by simp, by simp, by simp⟩
  have hports : w.ports = s.ports := by rw [← hw]; simp
  have hcache : w.cache = s.cache := by rw [← hw]; simp
  have hroutes : u.routes = w.routes := by rw [hu]; split <;> simp
  refine ⟨fun z q => ?_, ?_, ?_, ?_, ?_, fun hgood => ?_⟩
  · rw [State.cell_congr hroutes, hcell]
  · rw [hu]
    split <;> simp [hports]
  · refine hframe.trans ?_
    rw [hu]
    split <;> exact ⟨by simp, by simp, by simp, by simp, by simp⟩
  · rw [hu]
    split <;> simp [hcache]
  · rw [hu]
    split <;> simp [hraise]
  · rw [hu, if_pos (.inl hgood)]
    exact State.mem_offerCellLoss _ y p

/-- A counted miss that loses the cell. -/
theorem State.missCounted_lost (hmon : s.monitored y p = true) (hlimit : missLimit s.config ≤ (s.cell y p).misses + 1)
    (hleft : (s.cell y p).state ≠ .lost) :
    s.MissCounted ((State.reportIfLostness (s.allCellsLost p) p (s.cellMissedOut y p)).fallDue y p) y p := by
  have hy := State.mem_of_monitored hmon
  obtain ⟨hcell, hports, hframe, hcache, hraised, hitem⟩ := State.cellMissedOut_spec (s := s) (p := p) hy
  generalize s.cellMissedOut y p = u at hcell hports hframe hcache hraised hitem
  have hreport := hframe.lostness (p := p) (by rw [State.port_congr hports])
  have hafter := u.raises_reportIfLostness (s.allCellsLost p) p
  have hplaced := u.samePlacements_reportIfLostness (s.allCellsLost p) p
  have hkeep := State.reportIfLostness_frame u (s.allCellsLost p) p
  generalize State.reportIfLostness (s.allCellsLost p) p u = v at hreport hafter hplaced hkeep
  obtain ⟨-, -, -, -, -, hvports, hvroutes, hvfailover, -, -⟩ := hkeep
  have hvcell : ∀ z q, v.cell z q = if y = z ∧ p = q then { Cell.missed (missLimit s.config) (s.cell y p) with state := .lost } else s.cell z q :=
    fun z q => by rw [State.cell_congr hvroutes, hcell]
  obtain ⟨⟨b, hb⟩, hothers⟩ := v.cell_fallDue p hy
  have hcelly : (v.fallDue y p).cell y p = { Cell.missed (missLimit s.config) (s.cell y p) with state := .lost, pending := b } := by
    rw [hb, hvcell, if_pos ⟨rfl, rfl⟩]
  have hraisesv : v.Raises (v.fallDue y p) 1 := .of_eq (by simp) 1
  have hraises : (s.raise (.cellChange y p (s.cell y p).state .lost .misses (min ((s.cell y p).step + 1) Config.stepLimit)
      (min ((s.cell y p).misses + 1) (missLimit s.config)))).Raises (v.fallDue y p) 1 :=
    ((State.Raises.of_eq hraised 1).trans (hafter.mono (by decide))).trans hraisesv
  refine ⟨⟨b, ?_⟩, fun z q hzq => ?_, fun q => ?_, fun _ hgood => ?_, fun _ _ => ⟨s, rfl, rfl, ?_⟩, ?_, ?_, ?_⟩
  · rw [hcelly, if_pos hlimit]
  · rw [hothers z q hzq, hvcell, if_neg fun hc => hzq ⟨hc.1.symm, hc.2.symm⟩]
  · obtain ⟨l, hl⟩ := v.port_fallDue y p q
    exact ⟨l, by rw [hl, State.port_congr hvports, State.port_congr hports]⟩
  · have hfailover : (v.fallDue y p).failover = u.failover := by simp [hvfailover]
    rw [State.portLossStands, hfailover]
    exact hitem hgood
  · rw [hcelly]
    exact hraises
  · exact (State.raises_raise s (.cellChange ..)).trans hraises
  · exact hreport.keep (by simp) (by simp) (by simp) (by simp)
  · exact ((State.samePlacements.of_cache hcache).trans hplaced).trans (.of_cache (by simp))

/-- A miss on a monitored cell is counted. -/
theorem State.missCounted (hmon : s.monitored y p = true) : s.MissCounted (s.miss y p) y p := by
  have hy := State.mem_of_monitored hmon
  have hread : (s.modCell y p (Cell.missed (missLimit s.config))).cell y p = Cell.missed (missLimit s.config) (s.cell y p) := by
    rw [State.cell_modCell _ _ _ _ _ _ hy, if_pos ⟨rfl, rfl⟩]
  unfold State.miss
  rw [if_neg (by simp [hmon])]
  dsimp only
  rw [hread]
  by_cases hlost : missLimit s.config ≤ (s.cell y p).misses + 1 ∧ (s.cell y p).state ≠ .lost
  · rw [if_pos ⟨missLimit_le_min.2 hlost.1, hlost.2⟩]
    exact State.missCounted_lost hmon hlost.1 hlost.2
  · rw [if_neg fun hc => hlost ⟨missLimit_le_min.1 hc.1, hc.2⟩]
    exact State.missCounted_short hmon hlost

end

end Sys2Proof.Machine

namespace Sys2Proof.Machine
open Sys2Proof

/-! ### O38: probes fall due, go out, and miss -/

section
variable {s t u : State} {y : Nat} {p : PortId}

theorem ms_interval (cfg : Config.Settings) (x : Cell) :
    ms (if baseProbeInterval cfg / 2 ^ (if x.state = .lost then 0 else x.step) = 0 then 1
      else baseProbeInterval cfg / 2 ^ (if x.state = .lost then 0 else x.step)) = us (probeIntervalUs cfg x) := by
  unfold probeIntervalUs ms
  dsimp only
  generalize baseProbeInterval cfg / 2 ^ (if x.state = .lost then 0 else x.step) = n
  rw [show (if n = 0 then 1 else n) = max 1 n by split <;> omega]

theorem State.setCell_modPort (s : State) (y : Nat) (p q : PortId) (f : Port → Port) (x : Cell) :
    (s.modPort q f).setCell y p x = (s.setCell y p x).modPort q f := by
  unfold State.setCell
  split <;> rfl

theorem State.cell_modPort (s : State) (p : PortId) (f : Port → Port) : (s.modPort p f).cell = s.cell := State.cell_congr rfl

/-- What a resolved probe leaves where its cell is not monitored: nothing but the probe out of flight. -/
theorem State.miss_of_not_monitored (h : s.monitored y p = false) : s.miss y p = s := if_pos (by simp [h])

/-- A counted miss, seen from the states before and after its event: before it the cell has at most lost its probe in flight, and after
it the event raises no notice of a port. -/
theorem State.MissCounted.missed {w : State} (h : u.MissCounted w y p) (hr : s.raised = []) (hur : u.raised = []) (hfrom : s.Unreported u)
    (hfaces : facesOf u.ports = facesOf s.ports)
    (hcell : ∃ flight, u.cell y p = { s.cell y p with inFlight := flight }) (hothers : ∀ z q, ¬(z = y ∧ q = p) → u.cell z q = s.cell z q)
    (hroutes : t.routes = w.routes) (hview : t.view = w.view) (hrow : t.row = w.row) (hwfaces : facesOf t.ports = facesOf w.ports)
    (hitem : .cellLoss y p ∈ w.failover.work ∨ w.portLossStands p = true → .cellLoss y p ∈ t.failover.work ∨ t.portLossStands p = true)
    (hraises : w.Raises t 1) (hlink : t.link.notices = s.link.notices) : s.Missed t.close y p := by
  obtain ⟨flight, hflight⟩ := hcell
  obtain ⟨b, hb⟩ := h.cell
  rw [hflight, hfrom.config] at hb
  have hclosed : t.close.cell = w.cell := State.cell_congr (by simp [hroutes])
  have hstate : (u.cell y p).state = (s.cell y p).state := by rw [hflight]
  have hmisses : (u.cell y p).misses = (s.cell y p).misses := by rw [hflight]
  have hstates : cellStatesOf u.routes = cellStatesOf s.routes := by
    funext z q
    rw [cellStatesOf_eq, cellStatesOf_eq]
    by_cases hzq : z = y ∧ q = p
    · rw [hzq.1, hzq.2, hstate]
    · rw [hothers z q hzq]
  refine ⟨?_, ?_, ?_, ?_, ?_, fun hlimit hgood => ?_, fun hlimit hleft => ?_, fun z q hzq => ?_, ?_⟩
  · rw [hclosed, hb]; rfl
  · rw [hclosed, hb]; rfl
  · rw [hclosed, hb]; rfl
  · rw [hclosed, hb]; rfl
  · rw [hclosed, hb]
  · have hstands := hitem (h.item (by rw [hmisses, hfrom.config]; exact hlimit) (by rw [hstate]; exact hgood))
    rw [State.portLossStands] at hstands ⊢
    rwa [show t.close.failover = t.failover by simp]
  · obtain ⟨x, hx, htime, hafter⟩ := h.notice (by rw [hmisses, hfrom.config]; exact hlimit) (by rw [hstate]; exact hleft)
    rw [hstate] at hafter
    rw [hclosed]
    exact State.notifies_of_raises (u := t.settleReady) hr (.of_eq (by rw [hx, hur, hr]) 2) (htime.trans hfrom.time)
      (hafter.trans hraises) hlink
  · rw [hclosed, h.others z q hzq, hothers z q hzq]
  · exact (h.report.before hfrom hfaces hstates).keep (by simp [hview]) (by simp [hrow]) (by simp [hwfaces]) (by simp [hroutes])

/-- Settles O38: a probe that falls due, its sending, and its miss. -/
theorem probesFallDueGoOutAndMiss : Obligations.ProbesFallDueGoOutAndMiss := by
  refine ⟨⟨fun s y p sentAt => ?_, fun s y p rest hy hlinked hcredits hprobes => ?_⟩, fun s y p hr => ⟨fun flight hflight => ⟨fun hearly => ?_,
    fun hdue => ?_⟩, fun hnone => ?_⟩⟩
  · intro x k interval habsent hlinked hflight hpending hsent hnot
    have hy := State.mem_of_not_absent habsent
    have hmon : s.monitored y p = true := (s.monitored_iff y p).2 ⟨habsent, hlinked⟩
    have hinterval : ms interval = us (probeIntervalUs s.config x) := ms_interval s.config x
    have hdue : expired s.timeBase (dueAt s.config (s.cell y p)) = reached s.timeBase (sentAt + ms interval) := by
      rw [dueAt, show (s.cell y p).inFlight = none from hflight, show (s.cell y p).pending = false from hpending,
        show (s.cell y p).lastSend = some sentAt from hsent, hinterval]
      rfl
    have hexec : exec (.probeDue y p) s = .next (s.fallDue y p) := rfl
    rw [hexec, State.fallDue, hmon, hdue]
    refine ⟨fun h => ?_, fun h => ?_⟩
    · rw [h, Bool.and_self, if_pos rfl]
      have hport : (s.modCell y p (fun x => { x with pending := true })).port p = s.port p := by rw [State.port_modCell]
      have hjoin : s.joinProbe y p = (s.modCell y p (fun x => { x with pending := true })).setPort p
          ((s.port p).probing y) := by
        rw [← hport]
        rfl
      rw [hjoin, Port.probing, if_neg (by simpa using hnot)]
      rfl
    · rw [h]
      rfl
  · intro x
    have hport : (s.setCell y p (Cell.probed s.timeBase s.config x)).port p = s.port p :=
      congrFun (State.port_modCell s y p fun _ => Cell.probed s.timeBase s.config x) p
    have hsent : (s.modPort p (fun x => { x with pendingProbes := rest })).modCell y p (Cell.probed s.timeBase s.config) =
        (s.setCell y p (Cell.probed s.timeBase s.config x)).modPort p (fun x => { x with pendingProbes := rest }) := by
      rw [State.modCell, State.cell_modPort, State.setCell_modPort]
    have hcell : ((s.setCell y p (Cell.probed s.timeBase s.config x)).modPort p (fun x => { x with pendingProbes := rest })).cell y p =
        Cell.probed s.timeBase s.config x := by
      rw [State.cell_modPort]
      exact (State.cell_modCell s y y p p _ hy).trans (if_pos ⟨rfl, rfl⟩)
    have hmay : (s.port p).maySend = true := by
      rw [Port.maySend, hlinked, Bool.true_and, decide_eq_true_eq]
      exact hcredits
    simp only [exec, execProbeSend, hmay, if_true, hprobes]
    rw [hsent, hcell, State.transmit, State.modPort_modPort, State.modPort, hport]
    rfl
  · have hexec : exec (.probeWaitExpiry y p) s = if reached s.timeBase flight.waitEnds
        then .next ((s.modCell y p (fun x => { x with inFlight := none })).miss y p).close else .next s := by
      simp only [exec, execProbeWaitExpiry, hflight]
    rw [hexec, hearly]
    rfl
  · have hexec : exec (.probeWaitExpiry y p) s = if reached s.timeBase flight.waitEnds
        then .next ((s.modCell y p (fun x => { x with inFlight := none })).miss y p).close else .next s := by
      simp only [exec, execProbeWaitExpiry, hflight]
    rw [hexec, hdue, if_pos rfl]
    have hy : y ∈ allTargets := by
      by_contra hy
      rw [State.cell, dif_neg fun hc => hy (List.mem_range'_1.2 (by omega))] at hflight
      cases hflight
    have hstates := s.cellStatesOf_modCell y p (fun x => { x with inFlight := none }) rfl
    have hcell : ∀ z q, (s.modCell y p (fun x => { x with inFlight := none })).cell z q =
        if y = z ∧ p = q then { s.cell y p with inFlight := none } else s.cell z q := fun z q => s.cell_modCell y z p q _ hy
    have hports : (s.modCell y p (fun x => { x with inFlight := none })).ports = s.ports := by simp
    have hfrom : s.Unreported (s.modCell y p (fun x => { x with inFlight := none })) := ⟨by simp, by simp, by simp, by simp, by simp⟩
    have hraised : (s.modCell y p (fun x => { x with inFlight := none })).raised = [] := by simp [hr]
    have hlink : (s.modCell y p (fun x => { x with inFlight := none })).link = s.link := by simp
    have hex : (s.modCell y p (fun x => { x with inFlight := none })).ex = s.ex := by simp
    have hcache : (s.modCell y p (fun x => { x with inFlight := none })).cache = s.cache := by simp
    generalize s.modCell y p (fun x => { x with inFlight := none }) = u at hstates hcell hports hfrom hraised hlink hex hcache
    have hcelly : u.cell y p = { s.cell y p with inFlight := none } := by rw [hcell, if_pos ⟨rfl, rfl⟩]
    have hmonitored : u.monitored y p = s.monitored y p := by
      rw [State.monitored, State.monitored, hcelly, State.port_congr hports]
    have hclosed : (u.miss y p).close.cell = (u.miss y p).cell := State.cell_congr (by simp)
    have htable : s.sameTable (u.miss y p).close := (State.sameTable.of_ex (by simp [hex])).trans (State.sameTable_close _)
    have hplaced : u.samePlacements (u.miss y p).close → s.samePlacements (u.miss y p).close := (State.samePlacements.of_cache hcache).trans
    refine ⟨_, rfl, ?_⟩
    cases hmon : s.monitored y p with
    | false =>
      have hmiss : u.miss y p = u := State.miss_of_not_monitored (hmonitored.trans hmon)
      refine ⟨by rw [hclosed, hmiss, hcelly], htable, hplaced ?_, (nomatch ·), fun _ => ⟨by rw [hclosed, hmiss, hcelly], ?_, ?_⟩⟩ <;> rw [hmiss]
      · exact .of_cache (by simp)
      · simp [hfrom.row]
      · simp [hfrom.view]
    | true =>
      have hcounted := State.missCounted (hmonitored.trans hmon)
      obtain ⟨b, hb⟩ := hcounted.cell
      refine ⟨by rw [hclosed, hb, hcelly]; rfl, htable, hplaced (hcounted.entries.trans (.of_cache (by simp))), fun _ => ?_, (nomatch ·)⟩
      exact hcounted.missed hr hraised hfrom (by rw [hports]) ⟨none, hcelly⟩
        (fun z q hzq => by rw [hcell, if_neg fun hc => hzq ⟨hc.1.symm, hc.2.symm⟩]) rfl rfl rfl rfl id (.refl _ 1) (by simp [hlink])
  · simp only [exec, execProbeWaitExpiry, hnone]

end

end Sys2Proof.Machine

namespace Sys2Proof.Machine
open Sys2Proof

/-! ### O39: an ECHO resolves its probe -/

section
variable {s t u v : State} {y : Nat} {p : PortId} {x : Cell}

/-- A cell after its probe came back, by its state (R86, R88). -/
def Cell.revived (count : Nat) (x : Cell) : Cell := { x with
  state := if x.state = .untested ∨ (x.state = .lost ∧ count ≤ x.recovery + 1) then .good else x.state
  recovery := if x.state = .lost ∧ count ≤ x.recovery + 1 then 0 else if x.state = .lost then x.recovery + 1 else x.recovery }

/-- What the return of a probe in one state of an event leaves in the next. -/
structure State.EchoTaken (s t : State) (y : Nat) (p : PortId) : Prop where
  cell : t.cell y p = (s.cell y p).revived (recoverCount s.config)
  others : ∀ z q, ¬(z = y ∧ q = p) → t.cell z q = s.cell z q
  ports : t.ports = s.ports
  report : s.lostnessReported t p
  entries : s.samePlacements t
  item : (s.cell y p).state = .untested ∨ ((s.cell y p).state = .lost ∧ recoverCount s.config ≤ (s.cell y p).recovery + 1) →
    s.someHeld y = true → .placement y ∈ t.failover.work
  notice : (s.cell y p).state = .lost ∧ recoverCount s.config ≤ (s.cell y p).recovery + 1 →
    (s.raise (.cellChange y p .lost .good .recovered (s.cell y p).step (s.cell y p).misses)).Raises t 1

theorem State.offerIfHeld_placement (h : s.someHeld y = true) : .placement y ∈ (s.offerIfHeld y).failover.work := by
  unfold State.offerIfHeld
  rw [if_pos h]
  exact s.mem_offerPlacement y

/-- The state of a cell changed with its report, and a placement item offered for its held exchanges. -/
theorem State.reported_offered {b : Bool} (hb : b = s.allCellsLost p) (hfrom : s.Unreported u) (hports : u.ports = s.ports)
    (hex : u.ex = s.ex) (hcache : u.cache = s.cache) :
    let t := (State.reportIfLostness b p u).offerIfHeld y
    t.cell = u.cell ∧ t.ports = s.ports ∧ s.lostnessReported t p ∧ s.samePlacements t ∧
    (s.someHeld y = true → .placement y ∈ t.failover.work) ∧ u.Raises t 1 := by
  subst hb
  have hreport := hfrom.lostness (p := p) (by rw [State.port_congr hports])
  have hplaced := u.samePlacements_reportIfLostness (s.allCellsLost p) p
  have hafter := u.raises_reportIfLostness (s.allCellsLost p) p
  have hkeep := State.reportIfLostness_frame u (s.allCellsLost p) p
  generalize State.reportIfLostness (s.allCellsLost p) p u = v at hreport hplaced hafter hkeep
  obtain ⟨-, -, -, -, hvex, hvports, hvroutes, -, -, -⟩ := hkeep
  have hheld : v.someHeld y = s.someHeld y := by simp only [State.someHeld, State.live, State.record, hvex, hex]
  refine ⟨State.cell_congr (by simp [hvroutes]), by simp [hvports, hports],
    hreport.keep (by simp) (by simp) (by simp) (by simp), ((State.samePlacements.of_cache hcache).trans hplaced).trans (.of_cache (by simp)),
    fun h => State.offerIfHeld_placement (hheld.trans h), (hafter.mono (by decide)).trans (.of_eq (by simp) 1)⟩

theorem State.echoTaken (hy : y ∈ allTargets) : s.EchoTaken (s.echoState y p) y p := by
  have hcell : ∀ f z q, (s.modCell y p f).cell z q = if y = z ∧ p = q then f (s.cell y p) else s.cell z q :=
    fun f z q => s.cell_modCell y z p q f hy
  have hself : ∀ f, (s.modCell y p f).cell y p = f (s.cell y p) := fun f => by rw [hcell, if_pos ⟨rfl, rfl⟩]
  have hother : ∀ f z q, ¬(z = y ∧ q = p) → (s.modCell y p f).cell z q = s.cell z q :=
    fun f z q h => by rw [hcell, if_neg fun hc => h ⟨hc.1.symm, hc.2.symm⟩]
  have hmod : ∀ f, s.Unreported (s.modCell y p f) := fun f => ⟨by simp, by simp, by simp, by simp, by simp⟩
  unfold State.echoState
  dsimp only
  split
  next hstate =>
    obtain ⟨hcells, hports, hreport, hentries, hitem, hraises⟩ := State.reported_offered (y := y) (p := p) rfl
      (hmod (fun x => { x with state := .good })) (by simp) (by simp) (by simp)
    refine ⟨?_, fun z q h => ?_, hports, hreport, hentries, fun _ => hitem, fun h => ?_⟩
    · rw [hcells, hself, Cell.revived, hstate]
      rfl
    · rw [hcells, hother _ z q h]
    · rw [hstate] at h
      cases h.1
  next hstate =>
    split
    next hcount =>
      have hraise : s.Unreported ((s.modCell y p (fun x => { x with state := .good, recovery := 0 })).raiseCell y p .lost .recovered) :=
        ⟨by simp, by simp, by simp, by simp, by simp⟩
      have hraised : ((s.modCell y p (fun x => { x with state := .good, recovery := 0 })).raiseCell y p .lost .recovered).raised =
          (s.raise (.cellChange y p .lost .good .recovered (s.cell y p).step (s.cell y p).misses)).raised := by
        have hr : (s.modCell y p (fun x => { x with state := .good, recovery := 0 })).raised = s.raised := by simp
        have ht : (s.modCell y p (fun x => { x with state := .good, recovery := 0 })).timeBase = s.timeBase := by simp
        unfold State.raiseCell
        rw [hself]
        change (s.modCell y p _).raised ++ [⟨(s.modCell y p _).timeBase, _⟩] = s.raised ++ [⟨s.timeBase, _⟩]
        rw [hr, ht]
      obtain ⟨hcells, hports, hreport, hentries, hitem, hraises⟩ := State.reported_offered (y := y) (p := p) rfl hraise (by simp) (by simp) (by simp)
      have hkeep : ((s.modCell y p (fun x => { x with state := .good, recovery := 0 })).raiseCell y p .lost .recovered).cell =
          (s.modCell y p (fun x => { x with state := .good, recovery := 0 })).cell := State.cell_congr (by simp)
      refine ⟨?_, fun z q h => ?_, hports, hreport, hentries, fun _ => hitem, fun _ => (State.Raises.of_eq hraised 1).trans hraises⟩
      · rw [hcells, hkeep, hself, Cell.revived, hstate]
        simp [hcount]
      · rw [hcells, hkeep, hother _ z q h]
    next hcount =>
      have hstates := s.cellStatesOf_modCell y p (fun x => { x with recovery := x.recovery + 1 }) rfl
      refine ⟨?_, fun z q h => hother _ z q h, by simp, ?_, .of_cache (by simp), fun h => ?_, fun h => absurd h.2 hcount⟩
      · rw [hself, Cell.revived, hstate]
        simp [hcount]
      · unfold State.lostnessReported
        rw [if_neg fun hc => hc.2 (State.allCellsLost_of_states hstates p)]
        exact ⟨by simp, by simp⟩
      · rw [hstate] at h
        exact h.elim (nomatch ·) fun h => absurd h.2 hcount
  next huntested hlost =>
    refine ⟨?_, fun _ _ _ => rfl, rfl, ?_, .refl s, fun h => h.elim (fun h => absurd h huntested) fun h => absurd h.1 hlost,
      fun h => absurd h.1 hlost⟩
    · unfold Cell.revived
      rw [if_neg (not_or.2 ⟨huntested, fun h => hlost h.1⟩), if_neg fun h => hlost h.1, if_neg hlost]
    · unfold State.lostnessReported
      rw [if_neg fun hc => hc.2 rfl]
      exact ⟨rfl, rfl⟩

theorem State.someHeld_congr (h : t.ex = s.ex) (y : Nat) : t.someHeld y = s.someHeld y := by
  simp only [State.someHeld, State.live, State.record, h]

/-- The step arithmetic of a resolved probe (R83): a slow echo, a quiet one, and any between. -/
theorem Cell.echoed_step (cfg : Config.Settings) (latency : Time) (x : Cell) :
    let slow := slowLatency cfg * 1000 < latency.toNat
    let quiet := ¬ slow ∧ latency.toNat ≤ quietLatency cfg * 1000
    let eighth := quiet ∧ 8 ≤ x.quiet + 1
    let c := Cell.echoed cfg latency x
    (slow → c.step = min (x.step + 1) 3 ∧ c.quiet = 0) ∧ (eighth → c.step = x.step - 1 ∧ c.quiet = 0) ∧
    (quiet → ¬ eighth → c.step = x.step ∧ c.quiet = x.quiet + 1) ∧ (¬ slow → ¬ quiet → c.step = x.step ∧ c.quiet = 0) := by
  intro slow quiet eighth c
  have hc : c = Cell.echoed cfg latency x := rfl
  unfold Cell.echoed at hc
  dsimp only at hc
  refine ⟨fun hs => ?_, fun he => ?_, fun hq he => ?_, fun hs hq => ?_⟩
  · rw [hc, if_pos hs]
    exact ⟨rfl, rfl⟩
  · rw [hc, if_neg he.1.1, if_pos he.1.2, if_pos (show Config.quietRun ≤ x.quiet + 1 from he.2)]
    exact ⟨rfl, rfl⟩
  · rw [hc, if_neg hq.1, if_pos hq.2, if_neg (show ¬ Config.quietRun ≤ x.quiet + 1 from fun h => he ⟨hq, h⟩)]
    exact ⟨rfl, rfl⟩
  · rw [hc, if_neg hs, if_neg fun h => hq ⟨hs, h⟩]
    exact ⟨rfl, rfl⟩

/-- What an echo leaves of a cell besides its step and its quiet streak. -/
theorem Cell.echoed_rest (cfg : Config.Settings) (latency : Time) (x : Cell) :
    let c := Cell.echoed cfg latency x
    c.misses = 0 ∧ c.latency = some latency ∧ c.inFlight = none ∧ c.probeNumber = x.probeNumber ∧ c.lastSend = x.lastSend ∧
    c.testedSince = x.testedSince ∧ c.state = x.state ∧ c.recovery = x.recovery := by
  unfold Cell.echoed
  dsimp only
  (repeat' split) <;> exact ⟨rfl, rfl, rfl, rfl, rfl, rfl, rfl, rfl⟩

end

/-- A probe resolved by its echo, seen from the state before the frame. -/
theorem State.resolveEcho_spec {s heard : State} {y : Nat} {p : PortId} (hr : s.raised = []) (hy : y ∈ allTargets) (flight : Flight)
    (hfrom : s.Unreported heard) (hfaces : facesOf heard.ports = facesOf s.ports) (hcells : heard.cell = s.cell) (hex : heard.ex = s.ex)
    (hcache : heard.cache = s.cache) (hraised : heard.raised = s.raised) (hlink : heard.link = s.link) :
    let t := (heard.resolveEcho y p flight).close
    let c := Cell.echoed s.config (elapsed s.timeBase flight.sentAt) (s.cell y p)
    let recovers := (s.cell y p).state = .lost ∧ recoverCount s.config ≤ (s.cell y p).recovery + 1
    (∃ b, t.cell y p = { c.revived (recoverCount s.config) with pending := b }) ∧
    (∀ z q, ¬(z = y ∧ q = p) → t.cell z q = s.cell z q) ∧ s.sameTable t ∧ s.samePlacements t ∧ s.lostnessReported t p ∧
    ((s.cell y p).state = .untested ∨ recovers → s.someHeld y = true → .placement y ∈ t.failover.work) ∧
    (recovers → s.notifies t (.cellChange y p .lost .good .recovered (t.cell y p).step 0)) := by
  intro t c recovers
  obtain ⟨hmisses, -, -, -, -, -, hstate, hrecovery⟩ := Cell.echoed_rest s.config (elapsed s.timeBase flight.sentAt) (s.cell y p)
  have ht : t = (((heard.modCell y p (Cell.echoed s.config (elapsed s.timeBase flight.sentAt))).echoState y p).fallDue y p).close := by
    rw [← hfrom.config, ← hfrom.time]
    rfl
  have hu : ∀ z q, (heard.modCell y p (Cell.echoed s.config (elapsed s.timeBase flight.sentAt))).cell z q =
      if y = z ∧ p = q then c else s.cell z q := fun z q => by rw [State.cell_modCell _ _ _ _ _ _ hy, hcells]
  have hself : (heard.modCell y p (Cell.echoed s.config (elapsed s.timeBase flight.sentAt))).cell y p = c := by rw [hu, if_pos ⟨rfl, rfl⟩]
  have hufrom : s.Unreported (heard.modCell y p (Cell.echoed s.config (elapsed s.timeBase flight.sentAt))) :=
    hfrom.trans ⟨by simp, by simp, by simp, by simp, by simp⟩
  have hustates : cellStatesOf (heard.modCell y p (Cell.echoed s.config (elapsed s.timeBase flight.sentAt))).routes = cellStatesOf s.routes := by
    rw [heard.cellStatesOf_modCell y p _ (Cell.echoed_rest _ _ _).2.2.2.2.2.2.1]
    funext z q
    rw [cellStatesOf_eq, cellStatesOf_eq, hcells]
  have hufaces : facesOf (heard.modCell y p (Cell.echoed s.config (elapsed s.timeBase flight.sentAt))).ports = facesOf s.ports := by
    simpa using hfaces
  have hutaken := State.echoTaken (s := heard.modCell y p (Cell.echoed s.config (elapsed s.timeBase flight.sentAt))) (p := p) hy
  have huex : (heard.modCell y p (Cell.echoed s.config (elapsed s.timeBase flight.sentAt))).ex = s.ex := by simp [hex]
  have hucache : (heard.modCell y p (Cell.echoed s.config (elapsed s.timeBase flight.sentAt))).cache = s.cache := by simp [hcache]
  have huraised : (heard.modCell y p (Cell.echoed s.config (elapsed s.timeBase flight.sentAt))).raised = s.raised := by simp [hraised]
  have hulink : (heard.modCell y p (Cell.echoed s.config (elapsed s.timeBase flight.sentAt))).link = s.link := by simp [hlink]
  generalize heard.modCell y p (Cell.echoed s.config (elapsed s.timeBase flight.sentAt)) = u at *
  have hvex : (u.echoState y p).ex = s.ex := by simp [huex]
  have hvlink : (u.echoState y p).link = s.link := by simp [hulink]
  generalize u.echoState y p = v at *
  obtain ⟨⟨b, hb⟩, hothers⟩ := v.cell_fallDue p hy
  have hclosed : t.cell = (v.fallDue y p).cell := by rw [ht]; exact State.cell_congr (by simp)
  have hsame : ((u.cell y p).state = .lost ∧ recoverCount u.config ≤ (u.cell y p).recovery + 1) = recovers := by
    rw [hself, hufrom.config, hstate, hrecovery]
  have hcell : t.cell y p = { c.revived (recoverCount s.config) with pending := b } := by
    rw [hclosed, hb, hutaken.cell, hself, hufrom.config]
  refine ⟨⟨b, hcell⟩, fun z q hzq => ?_, ?_, ?_, ?_, fun hgood hheld => ?_, fun hrec => ?_⟩
  · rw [hclosed, hothers z q hzq, hutaken.others z q hzq, hu, if_neg fun hc => hzq ⟨hc.1.symm, hc.2.symm⟩]
  · rw [ht]
    exact (State.sameTable.of_ex (by simp [hvex])).trans (State.sameTable_close _)
  · rw [ht]
    exact ((State.samePlacements.of_cache hucache).trans hutaken.entries).trans (.of_cache (by simp))
  · exact (hutaken.report.before hufrom hufaces hustates).keep (by simp [ht]) (by simp [ht])
      (by rw [ht]; simp) (by simp [ht])
  · rw [ht]
    have hwork := hutaken.item (by rw [hself, hstate, hufrom.config, hrecovery]; exact hgood) ((State.someHeld_congr huex y).trans hheld)
    simpa using hwork
  · have hafter := hutaken.notice (hsame.mpr hrec)
    have hstep : (t.cell y p).step = (u.cell y p).step := by rw [hcell, hself]; rfl
    rw [hstep, ht]
    have hzero : (u.cell y p).misses = 0 := by rw [hself]; exact hmisses
    rw [hzero] at hafter
    exact State.notifies_of_raises (u := (v.fallDue y p).settleReady) hr (.of_eq huraised 2) hufrom.time
      (hafter.trans (.of_eq (by simp) 1)) (by simp [hvlink])

/-- Settles O39: the cell after its echo, then what its change of state brings. -/
theorem echoesResolveProbes : Obligations.EchoesResolveProbes := by
  intro s p target number hr hlow hhigh hlinked y x heard
  have hy : y ∈ allTargets := List.mem_range'_1.2 (by omega)
  have hheard : s.heard p = heard := State.heard_of_linked hlinked
  have hrange : (decide (target.toNat < 1) || decide (63 < target.toNat)) = false := by
    rw [Bool.or_eq_false_iff, decide_eq_false_iff_not, decide_eq_false_iff_not]
    omega
  refine ⟨fun hno => ?_, fun flight hflight hnumber => ?_⟩
  · simp only [exec, execEcho, hrange, hlinked, Bool.not_true, Bool.false_eq_true, if_false]
    rcases hno with hnone | hnumber
    · simp only [show (s.cell target.toNat p).inFlight = none from hnone, hheard]
    · split
      · rw [if_neg hnumber, hheard]
      · rw [hheard]
  · intro latency slow quiet eighth recovers
    have hexec : exec (.echo p target number) s = .next (heard.resolveEcho y p flight).close := by
      simp only [exec, execEcho, hrange, hlinked, Bool.not_true, Bool.false_eq_true, if_false,
        show (s.cell target.toNat p).inFlight = some flight from hflight, show (s.cell target.toNat p).probeNumber = number from hnumber,
        if_true, hheard]
      rfl
    have hfaces : facesOf heard.ports = facesOf s.ports :=
      s.facesOf_modPort p (fun x => { x with silenceEnds := some (s.timeBase + ms (linkSilence s.config)) }) rfl rfl
    obtain ⟨⟨b, hcell⟩, hothers, htable, hplaced, hreport, hitem, hnotice⟩ := State.resolveEcho_spec (s := s) (heard := heard) (p := p) hr hy
      flight ⟨rfl, rfl, rfl, rfl, rfl⟩ hfaces rfl rfl rfl rfl rfl
    obtain ⟨hslow, heighth, hquiet, hbetween⟩ := Cell.echoed_step s.config latency x
    obtain ⟨hmisses, hlatency, hflown, hprobe, hsent, htested, hstate, hrecovery⟩ := Cell.echoed_rest s.config latency x
    refine ⟨_, hexec, ?_⟩
    rw [hcell]
    refine ⟨hslow, heighth, hquiet, hbetween, hmisses, hlatency, hflown, hprobe, hsent, htested, ?_, ?_, hothers, htable, hplaced, hreport, hitem, ?_⟩
    · simp only [Cell.revived]
      rw [show (Cell.echoed s.config (elapsed s.timeBase flight.sentAt) (s.cell y p)).state = x.state from hstate,
        show (Cell.echoed s.config (elapsed s.timeBase flight.sentAt) (s.cell y p)).recovery = x.recovery from hrecovery] <;> rfl
    · simp only [Cell.revived]
      rw [show (Cell.echoed s.config (elapsed s.timeBase flight.sentAt) (s.cell y p)).state = x.state from hstate,
        show (Cell.echoed s.config (elapsed s.timeBase flight.sentAt) (s.cell y p)).recovery = x.recovery from hrecovery] <;> rfl
    · rw [hcell] at hnotice
      exact hnotice

end Sys2Proof.Machine

namespace Sys2Proof.Machine
open Sys2Proof

/-! ### O7: the end of the load -/

section
variable {s t : State} {r : RowBus}

theorem RowBus.noteReport_pending (now : Time) (own : Vector CableCount 15) (r : RowBus) :
    (r.noteReport now own).phase = r.phase ∧ (r.pending = .sighting → (r.noteReport now own).pending = .sighting) := by
  unfold RowBus.noteReport RowBus.pendSighting
  dsimp only
  (repeat' split) <;> exact ⟨rfl, fun h => by first | exact h | rfl⟩

theorem State.detect_row (s : State) (p : PortId) : (s.detect p).row.phase = s.row.phase ∧
    (s.row.pending = .sighting → (s.detect p).row.pending = .sighting) := by
  unfold State.detect
  split
  · have hrow : ∀ x : State, (x.announce p .down .detected).row = x.row.noteReport x.timeBase (x.raise (.portChange p .down (x.port p).state
        (x.port p).identity .detected)).countAllCables := fun x => State.reportCables_row _
    rw [hrow]
    exact RowBus.noteReport_pending _ _ _
  · exact ⟨rfl, id⟩

/-- A DOWN port with its bar clear after a detection. -/
theorem State.port_detect (s : State) (p q : PortId) : (s.detect p).port q = if p = q ∧ (s.port p).state = .down ∧ (s.port p).signal = true ∧
    (s.port p).retryBar = false then { s.port p with state := .training, trainingEnds := some (s.timeBase + ms (trainingWait s.config)) }
    else s.port q := by
  by_cases hdown : (s.port p).state = .down
  · obtain ⟨hset, -, -⟩ := s.detect_spec p hdown
    by_cases hq : p = q
    · subst hq
      rw [hset.port]
      simp [hdown]
    · rw [hset.others q (Ne.symm hq), if_neg fun h => hq h.1]
  · rw [if_neg fun h => hdown h.2.1]
    unfold State.detect
    rw [if_neg fun h => hdown h.1]

theorem State.port_foldl_detect (l : List PortId) (hnodup : l.Nodup) (s : State)
    (hports : ∀ p ∈ l, (s.port p).state = .down ∧ (s.port p).retryBar = false) (q : PortId) :
    (l.foldl State.detect s).port q = if q ∈ l ∧ (s.port q).signal = true
      then { s.port q with state := .training, trainingEnds := some (s.timeBase + ms (trainingWait s.config)) } else s.port q := by
  induction l generalizing s with
  | nil => simp
  | cons p l ih =>
    obtain ⟨hp, hnodup⟩ := List.nodup_cons.1 hnodup
    obtain ⟨hdown, hbar⟩ := hports p List.mem_cons_self
    have hother : ∀ q, q ≠ p → (s.detect p).port q = s.port q := fun q hq => by rw [State.port_detect, if_neg fun h => hq h.1.symm]
    have htime : (s.detect p).timeBase = s.timeBase := by simp
    have hconfig : (s.detect p).config = s.config := by simp
    rw [List.foldl_cons, ih hnodup (s.detect p) fun q hq => by
      rw [hother q fun h => hp (h ▸ hq)]
      exact hports q (List.mem_cons_of_mem p hq)]
    rw [htime, hconfig]
    by_cases hq : q = p
    · subst hq
      rw [if_neg fun h => hp h.1, State.port_detect]
      simp [hdown, hbar]
    · rw [hother q hq]
      simp [hq]

theorem State.foldl_detect_row (l : List PortId) (s : State) : (l.foldl State.detect s).row.phase = s.row.phase ∧
    (s.row.pending = .sighting → (l.foldl State.detect s).row.pending = .sighting) :=
  List.foldlRecOn (motive := fun t : State => t.row.phase = s.row.phase ∧ (s.row.pending = .sighting → t.row.pending = .sighting)) l State.detect
    ⟨rfl, id⟩ fun t ht p _ => ⟨(t.detect_row p).1.trans ht.1, fun h => (t.detect_row p).2 (ht.2 h)⟩

theorem State.foldl_detect_of_dark (l : List PortId) (s : State) (h : ∀ p, (s.port p).signal = false) : l.foldl State.detect s = s :=
  List.foldlRecOn (motive := (· = s)) l State.detect rfl fun t ht p _ => by
    rw [ht, State.detect, if_neg fun hc => by simp [h p] at hc]

theorem State.flush_one (n : Notice) (hraised : s.raised = [n]) (hnotices : s.link.notices = []) : s.flush.link.notices = [n] := by
  have horder : orderNotices [n] = [n] := by
    obtain ⟨time, body⟩ := n
    cases body <;> rfl
  unfold State.flush
  rw [hraised, horder, List.foldl_cons, List.foldl_nil]
  dsimp only
  unfold queueNotice
  rw [if_pos (by rw [hnotices]; decide), hnotices]
  rfl

end

/-- Settles O7: the same entry into STANDBY for either end of the load. -/
theorem loadEntersStandby : Obligations.LoadEntersStandby := by
  intro s began image host hload hbegan hports late enters
  have henters : ∀ read, enters read (s.enterStandby read host) := fun read => by
    let s1 : State := { s with
      config := read.2
      station := { s.station with
        state := .standby, loadBegan := none, outcome := some read.1
        resetKind := { s.station.resetKind with host := s.station.resetKind.host || host } }
      row := { s.row with phase := .waiting, pending := .sighting } }
    have ht : s.enterStandby read host =
        (allPorts.foldl State.detect (s1.raise (.started s1.station.id s1.station.resetKind s1.station.outcome))).close := rfl
    have hfold := State.foldl_detect_row allPorts (s1.raise (.started s1.station.id s1.station.resetKind s1.station.outcome))
    have hport := State.port_foldl_detect allPorts (by decide) (s1.raise (.started s1.station.id s1.station.resetKind s1.station.outcome))
      (fun p _ => hports p)
    have hstation : (s.enterStandby read host).station = s1.station := by
      rw [ht]
      simp only [State.close_frame]
      exact foldl_keeps (·.station) State.detect (by simp) _ _
    have hconfig : (s.enterStandby read host).config = s1.config := by
      rw [ht]
      simp only [State.close_frame]
      exact foldl_keeps (·.config) State.detect (by simp) _ _
    refine ⟨hstation, hconfig, ?_, ?_, fun p => ?_, fun hdark hr hnotices => ?_⟩
    · rw [ht]
      simp only [State.close_frame]
      exact hfold.1
    · rw [ht]
      simp only [State.close_frame]
      exact hfold.2 rfl
    · rw [ht, State.port_congr (State.close_frame _).2.2.2.2.1, hport]
      have hmem : p ∈ allPorts := by fin_cases p <;> decide
      have hsame : (s1.raise (.started s1.station.id s1.station.resetKind s1.station.outcome)).port p = s.port p := rfl
      rw [hsame]
      by_cases hsignal : (s.port p).signal = true
      · rw [if_pos ⟨hmem, hsignal⟩, if_pos hsignal]
      · rw [if_neg fun h => hsignal h.2, if_neg hsignal]
        exact (hports p).1
    · rw [hstation, ht, State.foldl_detect_of_dark allPorts (s1.raise _) hdark]
      refine State.flush_one (s := (s1.raise _).settleReady) _ ?_ hnotices
      change s.raised ++ _ = _
      rw [hr]
      rfl
  refine ⟨⟨_, ?_, henters _⟩, fun hlate => ⟨_, ?_, henters _⟩⟩
  · simp only [exec, execEepromLoadComplete, hload, hbegan]
    rfl
  · simp only [exec, execEepromReadTimeout, hload, hbegan]
    exact if_pos hlate

end Sys2Proof.Machine

namespace Sys2Proof.Machine
open Sys2Proof

/-! ### What a step's close leaves of a decided and of a moved exchange (R8, R72) -/

section
variable {s t u w : State} {i j : Slot} {e : Exchange} {p q : PortId} {status : ResultStatus} {payload : List Byte}

theorem State.headWait_flush (s : State) : s.flush.link.headWait = s.link.headWait := by
  have hqueue : ∀ (l : List Notice) (x : HostLink), (l.foldl queueNotice x).headWait = x.headWait := fun l x =>
    List.foldlRecOn (motive := fun y : HostLink => y.headWait = x.headWait) l queueNotice rfl fun y hy n _ => by
      rw [← hy]
      unfold queueNotice
      split <;> rfl
  exact hqueue _ _

theorem State.outstanding_close (s : State) : s.close.outstanding = s.outstanding := rfl

theorem State.record_close (s : State) : s.close.record = s.record := rfl

theorem State.port_close (s : State) : s.close.port = s.port := State.port_congr (by simp)

theorem State.cell_close (s : State) : s.close.cell = s.cell := State.cell_congr (by simp)

theorem State.entryAt_close (s : State) : s.close.entryAt = s.entryAt := State.entryAt_congr (by simp)

theorem State.ready_close (s : State) (q : PortId) : s.close.ready q = (s.ready q).filter (fun i => s.sendable i == some q) ++
    s.ex.order.filter (fun i => s.sendable i == some q && !(s.ready q).contains i) := State.ready_settleReady s q

theorem State.not_mem_ready_close (hready : ∀ q, i ∉ s.ready q) (horder : i ∉ s.ex.order) (q : PortId) : i ∉ s.close.ready q := by
  rw [State.ready_close, List.mem_append, not_or]
  exact ⟨fun h => hready q (List.mem_filter.1 h).1, fun h => horder (List.mem_filter.1 h).1⟩

theorem State.Decided.close (h : s.Decided t i e status payload) : s.Decided t.close i e status payload where
  record := h.record
  others := h.others
  results := h.results
  order := h.order
  free := h.free
  outstanding := h.outstanding
  ready := State.not_mem_ready_close h.ready (by rw [h.order]; simp)
  traces q := by rw [State.port_close]; exact h.traces q
  count := by rw [State.entryAt_close]; exact h.count
  wait := (State.headWait_flush _).trans h.wait

theorem State.Moved.close (h : s.Moved t i e) : s.Moved t.close i e where
  record := h.record
  others := h.others
  order := h.order
  results := h.results
  free := h.free
  outstanding := h.outstanding
  traces q := by rw [State.port_close]; exact h.traces q

/-- Where no QUIESCING port is emptied, a step ends on its close alone (R72). -/
theorem State.NoDrain.closeFrom {kept : Option PortId} (h : s.NoDrain i kept) (hstates : ∀ q, (w.port q).state = (s.port q).state)
    (hout : ∀ q j, j ≠ i → j ∈ s.outstanding q → j ∈ w.outstanding q) (hkept : ∀ q, kept = some q → w.outstanding q ≠ []) :
    s.closeFrom w = w.close := by
  unfold State.closeFrom
  rw [State.drainEmptied_eq_of_none]
  intro q
  rw [State.emptiedSince, hstates]
  by_cases hk : kept = some q
  · have hne : (w.outstanding q).isEmpty = false := by simpa using hkept q hk
    rw [hne, Bool.and_false, Bool.false_and]
  · by_cases hquiet : (s.port q).state = .quiescing
    · rcases h q (Ne.symm hk) hquiet with hnil | ⟨j, hj, hji⟩
      · rw [hnil, List.isEmpty_nil, Bool.not_true, Bool.and_false]
      · have hne : (w.outstanding q).isEmpty = false := by
          rw [List.isEmpty_eq_false_iff]
          exact List.ne_nil_of_mem (hout q j hji hj)
        rw [hne, Bool.and_false, Bool.false_and]
    · rw [beq_eq_false_iff_ne.2 hquiet, Bool.false_and, Bool.false_and]

theorem State.Decided.closeFrom (h : s.Decided w i e status payload) (hno : s.NoDrain i)
    (hstates : ∀ q, (w.port q).state = (s.port q).state) : s.closeFrom w = w.close :=
  hno.closeFrom hstates (fun q j hj hmem => by
    rw [h.outstanding]
    exact List.mem_filter.2 ⟨hmem, by simpa using hj⟩) (by simp)

theorem State.Moved.closeFrom {kept : Option PortId} (h : s.Moved w i e) (hno : s.NoDrain i kept) (hkept : ∀ q, kept = some q → e.phase.port = some q)
    (hstates : ∀ q, (w.port q).state = (s.port q).state) : s.closeFrom w = w.close :=
  hno.closeFrom hstates (fun q j hj hmem => by
    rw [h.outstanding]
    exact List.mem_append_left _ (List.mem_filter.2 ⟨hmem, by simpa using hj⟩)) fun q hq => by
    rw [h.outstanding, if_pos (hkept q hq)]
    simp

/-- Entries but for their verdict marks hold the same pairs at the same places. -/
theorem State.samePlacements.cores (h : s.samePlacements u) : coresOf u.cache = coresOf s.cache := by
  funext pl
  have hpl := h pl
  rw [coresOf_eq, coresOf_eq]
  have hcore : ∀ o : Option Entry, o.map Entry.core = (o.map (fun e => { e with verdictMark := none })).map Entry.core := fun o => by
    rw [Option.map_map]
    rfl
  rw [hcore, hpl, ← hcore]

theorem State.samePlacements.entry (h : s.samePlacements u) {pl : Place} {c : Entry} (hc : s.entryAt pl = some c) :
    ∃ mark, u.entryAt pl = some { c with verdictMark := mark } := by
  have hpl := h pl
  rw [hc] at hpl
  cases hu : u.entryAt pl with
  | none =>
    rw [hu] at hpl
    cases hpl
  | some d =>
    rw [hu] at hpl
    refine ⟨d.verdictMark, congrArg some ?_⟩
    injection hpl with hpl
    cases c
    cases d
    cases hpl
    rfl

theorem State.findPlace_of_holds {a : Word32} {y : Nat} (h : ∀ pl, (t.entryAt pl).any (·.holds a y) = (s.entryAt pl).any (·.holds a y)) :
    t.findPlace a y = s.findPlace a y := by
  unfold State.findPlace CacheSet.findWay
  congr 2
  funext w
  exact h ⟨setIndex a y, w⟩

theorem State.findPlace_modEntryOf (s : State) (a : Word32) (y : Nat) {f : Entry → Entry} (hf : ∀ e, (f e).holds a y = e.holds a y) :
    (s.modEntryOf a y f).findPlace a y = s.findPlace a y :=
  State.findPlace_of_holds fun pl => by
    rw [State.entryAt_modEntryOf]
    split
    · cases s.entryAt pl <;> simp [hf]
    · rfl

theorem State.headWait_lowerCount (s : State) (a : Word32) (y : Nat) : (s.lowerCount a y).link.headWait =
    if s.link.headWait = .setFull (setIndex a y) ∧ (s.entryOf a y).any (fun c => c.count ≤ 1) = true then .none else s.link.headWait := by
  have hplace := s.findPlace_modEntryOf a y (f := fun e => { e with count := e.count - 1 }) fun e => rfl
  have hidle : ((s.modEntryOf a y (fun e => { e with count := e.count - 1 })).entryOf a y).any (·.isIdle) =
      (s.entryOf a y).any (fun c => c.count ≤ 1) := by
    unfold State.entryOf
    rw [hplace]
    cases hpl : s.findPlace a y with
    | none => rfl
    | some pl =>
      rw [Option.bind_some, Option.bind_some, State.entryAt_modEntryOf, if_pos hpl, Option.any_map]
      congr 1
      funext c
      simp only [Function.comp, Entry.isIdle]
      rw [Bool.eq_iff_iff, beq_iff_eq, decide_eq_true_eq]
      omega
  have hlink : (s.modEntryOf a y (fun e => { e with count := e.count - 1 })).link = s.link := by simp
  unfold State.lowerCount
  dsimp only
  rw [hidle]
  generalize s.modEntryOf a y (fun e => { e with count := e.count - 1 }) = v at hlink
  unfold State.endSetWait
  rw [hlink]
  by_cases hany : (s.entryOf a y).any (fun c => c.count ≤ 1) = true
  · rw [if_pos hany]
    by_cases hfull : s.link.headWait = .setFull (setIndex a y)
    · rw [if_pos hfull, if_pos ⟨hfull, hany⟩]
      rfl
    · rw [if_neg hfull, if_neg fun h => hfull h.1, hlink]
  · rw [if_neg hany, if_neg fun h => hany h.2, hlink]

theorem State.entryAt_answer (s : State) (i : Slot) (status : ResultStatus) (payload : List Byte) :
    (s.answer i status payload).entryAt = s.entryAt := State.entryAt_congr rfl

theorem State.link_answer (s : State) (i : Slot) (status : ResultStatus) (payload : List Byte) :
    (s.answer i status payload).link = s.link := rfl

/-- Off its pair: the count one lower, and a set-full wait ended by a fall to zero (R32, R33). -/
theorem State.leavePair_entry (s : State) (i : Slot) (e : Exchange) {pl : Place} (hpl : s.findPlace e.session e.target = some pl) :
    (s.leavePair i e).entryAt pl = (s.entryAt pl).map (fun c => { c with count := c.count - 1 }) := by
  rw [State.leavePair, State.entryAt_lowerCount]
  exact if_pos hpl

theorem State.leavePair_headWait (s : State) (i : Slot) (e : Exchange) : (s.leavePair i e).link.headWait =
    if s.link.headWait = .setFull (setIndex e.session e.target) ∧ (s.entryOf e.session e.target).any (fun c => c.count ≤ 1) = true
    then .none else s.link.headWait := by
  rw [State.leavePair, State.headWait_lowerCount]
  rfl

theorem State.samePlacements.countLow (h : s.samePlacements u) (a : Word32) (y : Nat) :
    (u.entryOf a y).any (fun c => c.count ≤ 1) = (s.entryOf a y).any (fun c => c.count ≤ 1) := by
  unfold State.entryOf
  rw [State.findPlace_congr h.cores]
  cases s.findPlace a y with
  | none => rfl
  | some pl =>
    rw [Option.bind_some, Option.bind_some]
    have hmap : ∀ o : Option Entry, o.any (fun c => c.count ≤ 1) =
        (o.map (fun e => { e with verdictMark := none })).any (fun c => c.count ≤ 1) := fun o => by cases o <;> rfl
    rw [hmap, h pl, ← hmap]

/-- The result of an exchange decided in a state of the event that differs from the first in what the event did to it alone (R8). -/
theorem State.SameBut.decided (h : s.SameBut u i) (hlive : u.live i = some e) (hplaced : s.samePlacements u)
    (hwait : u.link.headWait = s.link.headWait) (status : ResultStatus) (payload : List Byte) :
    s.Decided (u.decideResult i status payload) i e status payload := by
  obtain ⟨hleft, hresults, hfree⟩ := h.decideResult hlive status payload
  have hdecide : u.decideResult i status payload = ((u.detach i).leavePair i e).answer i status payload := by
    rw [State.decideResult, hlive]
  have hdetached : s.samePlacements (u.detach i) := hplaced.trans (.of_cache rfl)
  refine ⟨hleft.record, hleft.others, hresults, hleft.order, hfree, hleft.outstanding, fun q hq => ?_, hleft.traces, fun pl c hpl hc => ?_, ?_⟩
  · simpa using (List.mem_filter.1 ((hleft.ready q).subset hq)).2
  · obtain ⟨mark, hmark⟩ := hdetached.entry hc
    refine ⟨mark, ?_⟩
    rw [hdecide, State.entryAt_answer, State.leavePair_entry _ i e ((State.findPlace_congr hdetached.cores _ _).trans hpl), hmark]
    rfl
  · rw [hdecide, State.link_answer, State.leavePair_headWait, hdetached.countLow]
    exact if_congr (and_congr (by rw [← hwait]; rfl) Iff.rfl) rfl hwait

end

end Sys2Proof.Machine

namespace Sys2Proof.Machine
open Sys2Proof

/-! ### The fates of an exchange taken off its port (R19, R20, R120, R122) -/

section
variable {s t u w : State} {i : Slot} {e : Exchange} {p q : PortId}

/-- An exchange in hand: off its lists in a state of the event that differs from the first in nothing else that its fate reads. -/
structure State.InHand (s u : State) (i : Slot) (e : Exchange) : Prop where
  same : s.SameBut u i
  off : u.Off i
  live : u.live i = some e
  placed : s.samePlacements u
  wait : u.link.headWait = s.link.headWait
  faces : facesOf u.ports = facesOf s.ports

theorem State.InHand.of_detach (h : s.live i = some e) : s.InHand (s.detach i) i e :=
  ⟨s.sameBut_detach i, s.off_detach i, h, .of_cache rfl, rfl, facesOf_of_bares (by simp)⟩

theorem State.states_of_bares (h : baresOf t.ports = baresOf s.ports) (p : PortId) : (t.port p).state = (s.port p).state :=
  State.portState_of_faces (facesOf_of_bares h) p

theorem State.InHand.states (h : s.InHand u i e) (hbares : baresOf w.ports = baresOf u.ports) (p : PortId) :
    (w.port p).state = (s.port p).state :=
  (State.states_of_bares hbares p).trans (State.portState_of_faces h.faces p)

theorem State.InHand.heldNow (h : s.InHand u i e) (a : Action) : u.heldNow a = s.heldNow a := by
  rw [State.heldNow, State.heldNow, h.same.time, h.same.config]

theorem State.InHand.tracedOn (h : s.InHand u i e) (q : PortId) : u.tracedOn q e =
    { e with traces := e.traces + 1, phase := .tracing q (s.timeBase + ms (traceWait s.config)) s.timeBase } := by
  rw [State.tracedOn, h.same.time, h.same.config]

/-- The close of a step that has decided the exchange in hand. -/
theorem State.InHand.decide (h : s.InHand u i e) (hno : s.NoDrain i) (status : ResultStatus) (payload : List Byte) :
    s.closeFrom (u.decideResult i status payload) = (u.decideResult i status payload).close ∧
    s.Decided (s.closeFrom (u.decideResult i status payload)) i e status payload := by
  have hdecided := h.same.decided h.live h.placed h.wait status payload
  have hclose := hdecided.closeFrom hno (h.states (by simp))
  exact ⟨hclose, hclose ▸ hdecided.close⟩

/-- The close of a step that has given the exchange in hand a new phase. -/
theorem State.InHand.settle {x : Exchange} {kept : Option PortId} (h : s.InHand u i e) (hno : s.NoDrain i kept)
    (hkept : ∀ q, kept = some q → x.phase.port = some q) (hmoved : s.Moved w i x)
    (hbares : baresOf w.ports = baresOf u.ports) : s.closeFrom w = w.close ∧ s.Moved (s.closeFrom w) i x := by
  have hclose := hmoved.closeFrom hno hkept (h.states hbares)
  exact ⟨hclose, hclose ▸ hmoved.close⟩

/-- The exchange in hand traced, or held for a trace where there is no port (R115, R116). -/
theorem State.InHand.traceOrHold (h : s.InHand u i e) (x : Option PortId) :
    match u.traceChoice e.target x with
    | some q => s.Moved (u.traceOrHold i e.target x) i
        { e with traces := e.traces + 1, phase := .tracing q (s.timeBase + ms (traceWait s.config)) s.timeBase }
    | none => s.Moved (u.traceOrHold i e.target x) i { e with phase := s.heldNow .trace } := by
  unfold State.traceOrHold
  cases u.traceChoice e.target x with
  | some q =>
    have hmoved := (h.same.placeTrace h.off h.live q).toMoved
    rw [h.tracedOn] at hmoved
    exact hmoved
  | none =>
    have hmoved := (h.same.hold h.off h.live .trace).toMoved
    rw [h.heldNow] at hmoved
    exact hmoved

/-- The fate of an exchange traced or held, or given up (R20, R122). -/
theorem State.InHand.fate (h : s.InHand u i e) (x : Option PortId) :
    if traceLimit s.config ≤ e.traces then s.Decided (u.seekFate i x) i e .inDoubt []
    else match u.traceChoice e.target x with
      | some q => s.Moved (u.seekFate i x) i
          { e with traces := e.traces + 1, phase := .tracing q (s.timeBase + ms (traceWait s.config)) s.timeBase }
      | none => s.Moved (u.seekFate i x) i { e with phase := s.heldNow .trace } := by
  unfold State.seekFate
  rw [h.live]
  dsimp only
  rw [h.same.config]
  split
  · exact h.same.decided h.live h.placed h.wait .inDoubt []
  · exact h.traceOrHold x

/-- The close of a step that has sought the fate of the exchange in hand. -/
theorem State.InHand.seekFate (h : s.InHand u i e) (hno : s.NoDrain i) (x : Option PortId) :
    let t := s.closeFrom (u.seekFate i x)
    t = (u.seekFate i x).close ∧
    if traceLimit s.config ≤ e.traces then s.Decided t i e .inDoubt []
    else match u.traceChoice e.target x with
      | some q => s.Moved t i { e with traces := e.traces + 1, phase := .tracing q (s.timeBase + ms (traceWait s.config)) s.timeBase }
      | none => s.Moved t i { e with phase := s.heldNow .trace } := by
  have hfate := h.fate x
  by_cases hlimit : traceLimit s.config ≤ e.traces
  · rw [if_pos hlimit] at hfate
    have hclose := hfate.closeFrom hno (h.states (by simp))
    exact ⟨hclose, by rw [if_pos hlimit]; exact hclose ▸ hfate.close⟩
  · rw [if_neg hlimit] at hfate
    dsimp only
    rw [if_neg hlimit]
    cases hchoice : u.traceChoice e.target x with
    | some q => rw [hchoice] at hfate; exact h.settle hno (by simp) hfate (by simp)
    | none => rw [hchoice] at hfate; exact h.settle hno (by simp) hfate (by simp)

/-- The fate of an exchange due a resend (R19, R120). -/
theorem State.InHand.dueResend (h : s.InHand u i e) (hno : s.NoDrain i) :
    let t := s.closeFrom (u.dueResend i e)
    t = (u.dueResend i e).close ∧
    if e.attempt < attemptLimit s.config then
      s.Moved t i { e with phase := if (s.pairPort e.session e.target).isSome then .waiting .resend else s.heldNow .resend }
    else s.Decided t i e .timedOut [] := by
  intro t
  have ht : t = s.closeFrom (u.dueResend i e) := rfl
  rw [ht]
  unfold State.dueResend
  rw [h.same.config]
  by_cases hattempt : e.attempt < attemptLimit s.config
  · rw [if_pos hattempt, if_pos hattempt, State.pairPort_congr h.same.cores]
    cases s.pairPort e.session e.target with
    | some q => exact h.settle hno (by simp) (h.same.setPhase h.off h.live rfl).toMoved (by simp)
    | none =>
      have hmoved := (h.same.hold h.off h.live .resend).toMoved
      rw [h.heldNow] at hmoved
      exact h.settle hno (by simp) hmoved (by simp)
  · rw [if_neg hattempt, if_neg hattempt]
    exact h.decide hno .timedOut []

end

end Sys2Proof.Machine

namespace Sys2Proof.Machine
open Sys2Proof

/-! ### O30: holds and trace waits that expire -/

/-- Settles O30: the end of a hold, then a trace unanswered. -/
theorem holdsAndTraceWaitsExpire : Obligations.HoldsAndTraceWaitsExpire := by
  refine ⟨fun s i hr => ⟨fun e action deadline hlive hphase => ?_, fun hno => ?_⟩, fun s i e p deadline enteredAt hr hlive hphase hno => ?_⟩
  · have hexec : exec (.holdExpiry i) s = if reached s.timeBase deadline
        then .next (s.decideResult i (if action = .trace then .inDoubt else .noPath) []).close else .next s := by
      simp only [exec, execHoldExpiry, State.phase_of_live hlive, hphase]
    refine ⟨fun hdue => ?_, fun hdue => by rw [hexec, hdue]; rfl⟩
    rw [hdue, if_pos rfl] at hexec
    exact ⟨_, hexec, ((State.SameBut.refl s i).decided hlive (.refl s) rfl _ []).close, State.onlyIn_of_exec hr hexec (by simp [blocksOf])⟩
  · have hother : ∀ action deadline, s.phase i ≠ some (.held action deadline) := fun action deadline hc => by
      obtain ⟨e, hlive, hphase⟩ := State.live_of_phase hc
      exact hno e action deadline hlive hphase
    have hexec : exec (.holdExpiry i) s = execHoldExpiry i s := rfl
    rw [hexec]
    unfold execHoldExpiry
    split
    next action deadline hphase => exact absurd hphase (hother action deadline)
    next => rfl
  · have hexec : exec (.traceWaitExpiry i) s = if reached s.timeBase deadline then .next (s.closeFrom (s.unanswered p i)) else .next s := by
      simp only [exec, execTraceWaitExpiry, State.phase_of_live hlive, hphase]
    refine ⟨fun hdue => by rw [hexec, hdue]; rfl, fun hdue => ?_⟩
    rw [hdue, if_pos rfl] at hexec
    obtain ⟨hclose, hfate⟩ := (State.InHand.of_detach hlive).seekFate hno (some p)
    have hunanswered : s.unanswered p i = (s.detach i).seekFate i (some p) := rfl
    rw [hunanswered] at hexec
    refine ⟨_, hexec, ?_, ?_, ?_, hfate⟩ <;> rw [hclose] <;> simp

/-! ### O29: answer waits that expire -/

section
variable {s t u w : State} {i : Slot} {e : Exchange} {p : PortId} {y : Nat} {since : Time}

/-- A miss of an exchange counts on a monitored cell that was not tested since (R84). -/
def State.missCounts (s : State) (y : Nat) (p : PortId) (since : Time) : Prop :=
  s.monitored y p = true ∧ ∀ tested, (s.cell y p).testedSince = some tested → isBefore since tested = false

theorem State.exchangeMiss_of_counts (h : s.missCounts y p since) : s.exchangeMiss y p since = s.miss y p := by
  unfold State.exchangeMiss
  refine if_neg fun hc => ?_
  obtain ⟨tested, htested, hbefore⟩ := (Option.any_eq_true _ _).1 hc
  rw [h.2 tested htested] at hbefore
  cases hbefore

theorem State.exchangeMiss_of_not_counts (h : ¬ s.missCounts y p since) : s.exchangeMiss y p since = s := by
  unfold State.exchangeMiss
  split
  · rfl
  next hnone =>
    refine State.miss_of_not_monitored (Bool.eq_false_iff.2 fun hmon => h ⟨hmon, fun tested htested => ?_⟩)
    rw [htested, Option.any_some] at hnone
    exact Bool.eq_false_iff.2 hnone

theorem State.facesOf_miss (s : State) (y : Nat) (p : PortId) : facesOf (s.miss y p).ports = facesOf s.ports := by
  by_cases hmon : s.monitored y p = true
  · funext q
    obtain ⟨l, hl⟩ := (State.missCounted hmon).port q
    rw [facesOf_eq, facesOf_eq, hl]
  · rw [State.miss_of_not_monitored (Bool.eq_false_iff.2 hmon)]

theorem State.samePlacements_miss (s : State) (y : Nat) (p : PortId) : s.samePlacements (s.miss y p) := by
  by_cases hmon : s.monitored y p = true
  · exact (State.missCounted hmon).entries
  · rw [State.miss_of_not_monitored (Bool.eq_false_iff.2 hmon)]
    exact .refl s

theorem State.missCounts_detach (s : State) (i : Slot) (y : Nat) (p : PortId) (since : Time) :
    (s.detach i).missCounts y p since ↔ s.missCounts y p since := by
  have hcell : (s.detach i).cell = s.cell := State.cell_congr rfl
  unfold State.missCounts State.monitored
  rw [hcell, State.port_detach]

theorem State.notices_lowerCount (s : State) (a : Word32) (y : Nat) : (s.lowerCount a y).link.notices = s.link.notices := by
  have hset : ∀ (u : State) (k : Fin 64), (u.endSetWait k).link.notices = u.link.notices := fun u k => by
    unfold State.endSetWait
    split <;> rfl
  unfold State.lowerCount
  dsimp only
  split <;> simp [hset]

theorem State.notices_decideResult (s : State) (i : Slot) (status : ResultStatus) (payload : List Byte) :
    (s.decideResult i status payload).link.notices = s.link.notices := by
  unfold State.decideResult
  split
  · rfl
  · rw [State.link_answer, State.leavePair, State.notices_lowerCount]
    rfl

theorem State.notices_seekFate (s : State) (i : Slot) (x : Option PortId) : (s.seekFate i x).link.notices = s.link.notices := by
  unfold State.seekFate State.traceOrHold
  (repeat' split) <;> simp [State.notices_decideResult]

theorem State.notices_dueResend (s : State) (i : Slot) (e : Exchange) : (s.dueResend i e).link.notices = s.link.notices := by
  unfold State.dueResend
  (repeat' split) <;> simp [State.notices_decideResult]

/-- The exchange whose answer did not come, in hand after its miss. -/
theorem State.InHand.exchangeMiss (h : s.InHand u i e) (y : Nat) (p : PortId) (since : Time) :
    s.InHand (u.exchangeMiss y p since) i e := by
  have hkeep : u.exchangeMiss y p since = u ∨ u.exchangeMiss y p since = u.miss y p := by
    unfold State.exchangeMiss
    split
    · exact .inl rfl
    · exact .inr rfl
  refine ⟨h.same.neutral (by simp) (by simp) (by simp) (by simp) (by simp), h.off.neutral (by simp) (by simp),
    (congrFun (State.live_congr (by simp)) i).trans h.live, h.placed.trans ?_, by simp [h.wait], ?_⟩
  · rcases hkeep with hk | hk <;> rw [hk]
    · exact .refl u
    · exact u.samePlacements_miss y p
  · rcases hkeep with hk | hk <;> rw [hk]
    · exact h.faces
    · exact (u.facesOf_miss y p).trans h.faces

end

/-- Settles O29: the miss, then the fate of the exchange by its class. -/
theorem answerWaitsExpire : Obligations.AnswerWaitsExpire := by
  intro s i e p deadline enteredAt hr hlive hphase hno
  have hexec : exec (.answerWaitExpiry i) s = if reached s.timeBase deadline then
      .next (s.closeFrom (if e.repeatable then ((s.detach i).exchangeMiss e.target p enteredAt).dueResend i e
        else ((s.detach i).exchangeMiss e.target p enteredAt).seekFate i (some p))) else .next s := by
    simp only [exec, execAnswerWaitExpiry, hlive, hphase]
  refine ⟨fun hdue => by rw [hexec, hdue]; rfl, fun hdue => ?_⟩
  intro counts missed
  rw [hdue, if_pos rfl] at hexec
  have hhand := (State.InHand.of_detach hlive).exchangeMiss e.target p enteredAt
  change s.InHand missed i e at hhand
  have hfinal : ∀ w, s.closeFrom w = w.close → w.routes = missed.routes → w.view = missed.view → w.row = missed.row →
      facesOf w.ports = facesOf missed.ports → missed.Offered w → w.raised = missed.raised → w.link.notices = s.link.notices →
      (counts → s.Missed (s.closeFrom w) e.target p) ∧
      (¬ counts → (s.closeFrom w).routes = s.routes ∧ (s.closeFrom w).row = s.row ∧ (s.closeFrom w).view = s.view) := by
    intro w hclose hroutes hview hrow hfaces hoffered hraised hlink
    rw [hclose]
    refine ⟨fun hcounts => ?_, fun hcounts => ?_⟩
    · have hmissed : missed = (s.detach i).miss e.target p := State.exchangeMiss_of_counts ((s.missCounts_detach i _ _ _).2 hcounts)
      have hcounted := State.missCounted (s := s.detach i) (y := e.target) (p := p)
        (((s.missCounts_detach i _ _ enteredAt).2 hcounts).1)
      rw [← hmissed] at hcounted
      have hcell : (s.detach i).cell = s.cell := State.cell_congr rfl
      refine hcounted.missed hr hr ⟨rfl, rfl, rfl, rfl, rfl⟩ (facesOf_of_bares (by simp)) ⟨_, by rw [hcell]⟩ (fun z q _ => by rw [hcell])
        hroutes hview hrow hfaces (fun h => ?_) (.of_eq hraised 1) hlink
      exact h.elim (hoffered.cellLoss e.target p) fun h => .inr (hoffered.stands h)
    · have hmissed : missed = s.detach i := State.exchangeMiss_of_not_counts (mt (s.missCounts_detach i _ _ _).1 hcounts)
      rw [hmissed] at hroutes hview hrow
      exact ⟨by simp [hroutes], by simp [hrow], by simp [hview]⟩
  refine ⟨_, hexec, ?_⟩
  by_cases hcls : e.cls = 1#8
  · rw [if_pos hcls, if_pos (show e.repeatable = true by simp [Exchange.repeatable, hcls])]
    obtain ⟨hclose, hfate⟩ := hhand.dueResend hno
    obtain ⟨hmiss, hnone⟩ := hfinal _ hclose (by simp) (by simp) (by simp) (facesOf_of_bares (by simp)) (State.onward_dueResend _ _ _).offered
      (by simp) ((State.notices_dueResend _ _ _).trans (by simp [missed]))
    exact ⟨hmiss, hnone, hfate⟩
  · rw [if_neg hcls, if_neg (show ¬ e.repeatable = true by simp [Exchange.repeatable, hcls])]
    obtain ⟨hclose, hfate⟩ := hhand.seekFate hno (some p)
    obtain ⟨hmiss, hnone⟩ := hfinal _ hclose (by simp) (by simp) (by simp) (facesOf_of_bares (by simp)) (State.onward_seekFate _ _ _).offered
      (by simp) ((State.notices_seekFate _ _ _).trans (by simp [missed]))
    exact ⟨hmiss, hnone, hfate⟩

end Sys2Proof.Machine

namespace Sys2Proof.Machine
open Sys2Proof

/-! ### O28, O31: answers and trace replies -/

section
variable {s t u w : State} {i : Slot} {e : Exchange} {p q : PortId} {y : Nat} {status : ResultStatus} {payload : List Byte}

theorem State.Decided.congr (h : s.Decided t i e status payload) (hex : u.ex = t.ex) (hports : u.ports = t.ports) (hcache : u.cache = t.cache)
    (hlink : u.link = t.link) : s.Decided u i e status payload := by
  have hrecord : u.record = t.record := State.record_of_ex hex
  have houtstanding : ∀ q, u.outstanding q = t.outstanding q := fun q => by rw [State.outstanding, hex]; rfl
  have hready : ∀ q, u.ready q = t.ready q := fun q => by rw [State.ready, hex]; rfl
  refine ⟨by rw [hrecord]; exact h.record, fun j hj => by rw [hrecord]; exact h.others j hj, by rw [hex]; exact h.results,
    by rw [hex]; exact h.order, by rw [hex]; exact h.free, fun q => by rw [houtstanding]; exact h.outstanding q,
    fun q => by rw [hready]; exact h.ready q, fun q => by rw [State.port_congr hports]; exact h.traces q,
    by rw [State.entryAt_congr hcache]; exact h.count, by rw [hlink]; exact h.wait⟩

theorem State.port_of_bares (h : baresOf t.ports = baresOf s.ports) (q : PortId) :
    t.port q = { s.port q with pendingTraces := (t.port q).pendingTraces } := by
  have hq := congrFun h q
  rw [baresOf_eq, baresOf_eq] at hq
  cases ht : t.port q
  cases hs : s.port q
  rw [ht, hs] at hq
  cases hq
  rfl

theorem State.cell_alive (s : State) (y z : Nat) (p q : PortId) : (s.alive y p).cell z q =
    if z = y ∧ q = p ∧ s.monitored z q = true then { s.cell z q with misses := 0 } else s.cell z q := by
  unfold State.alive
  by_cases hmon : s.monitored y p = true
  · rw [if_pos hmon, State.cell_modCell _ _ _ _ _ _ (State.mem_of_monitored hmon)]
    by_cases hzq : y = z ∧ p = q
    · obtain ⟨rfl, rfl⟩ := hzq
      rw [if_pos ⟨rfl, rfl⟩, if_pos ⟨rfl, rfl, hmon⟩]
    · rw [if_neg hzq, if_neg fun h => hzq ⟨h.1.symm, h.2.1.symm⟩]
  · rw [if_neg hmon, if_neg]
    rintro ⟨rfl, rfl, h⟩
    exact hmon h

theorem State.cell_heard (s : State) (p : PortId) : (s.heard p).cell = s.cell := State.cell_congr (by simp)

theorem State.monitored_congr (hcell : t.cell = s.cell) (hstates : ∀ q, (t.port q).state = (s.port q).state) : t.monitored = s.monitored := by
  funext y q
  rw [State.monitored, State.monitored, hcell, hstates]

/-- A step's own frame first: the silence timer alone. -/
theorem State.sameBut_heard (s : State) (p : PortId) (i : Slot) : s.SameBut (s.heard p) i :=
  (State.SameBut.refl s i).neutral (by simp) (by simp) (by simp) (by simp) (by simp)

theorem State.heard_states (s : State) (p q : PortId) : ((s.heard p).port q).state = (s.port q).state := State.port_heard_state s p q

theorem State.answerAccepted_iff (s : State) (tag : Tag) : s.answerAccepted tag = true ↔ ∃ e, s.live (tagSlot tag) = some e ∧
    tagGeneration tag = (s.record (tagSlot tag)).generation.val ∧ e.everSent = true ∧ e.phase.isOpen = true := by
  have hopen : ∀ ph : Phase, (match ph with | .answered _ => false | _ => true) = ph.isOpen := fun ph => by cases ph <;> rfl
  unfold State.answerAccepted
  dsimp only
  rw [Bool.and_eq_true, beq_iff_eq, Option.any_eq_true]
  constructor
  · rintro ⟨htag, e, hlive, htest⟩
    rw [Bool.and_eq_true] at htest
    exact ⟨e, hlive, htag, htest.1, (hopen _).symm.trans htest.2⟩
  · rintro ⟨e, hlive, htag, hsent, hphase⟩
    refine ⟨htag, e, hlive, ?_⟩
    rw [Bool.and_eq_true]
    exact ⟨hsent, (hopen _).trans hphase⟩

end

/-- Settles O28: discarded without a link, refused, or the result and the cell alive. -/
theorem answersComplete : Obligations.AnswersComplete := by
  intro s p tag attempt payload hr hlen i heard accepted
  have hexec : exec (.answerArrival p tag attempt payload) s = execAnswerArrival p tag attempt payload s := rfl
  rw [hexec]
  unfold execAnswerArrival
  rw [if_neg (show ¬ Config.payloadLimit < payload.length from Nat.not_lt.2 hlen)]
  refine ⟨fun hlinked => by rw [hlinked]; rfl, fun hlinked hno => ?_, fun hlinked e hacc hno => ?_⟩
  · have hrefused : s.answerAccepted tag = false := Bool.eq_false_iff.2 fun hc => by
      obtain ⟨e, he⟩ := (s.answerAccepted_iff tag).1 hc
      exact hno e he
    rw [hlinked, hrefused, State.heard_of_linked hlinked]
    rfl
  · have haccepted : s.answerAccepted tag = true := (s.answerAccepted_iff tag).2 ⟨e, hacc⟩
    rw [hlinked, haccepted]
    obtain ⟨hlive, -⟩ := hacc
    have hstep : s.closeFrom (((s.heard p).decideResult i .completed payload).alive e.target p) =
        (((s.heard p).decideResult i .completed payload).alive e.target p).close ∧
        s.Decided (s.closeFrom (((s.heard p).decideResult i .completed payload).alive e.target p)) i e .completed payload := by
      have hdecided := (s.sameBut_heard p i).decided (e := e) ((congrFun (State.live_congr (by simp)) i).trans hlive) (.of_cache (by simp))
        (by simp) .completed payload
      have halive : s.Decided (((s.heard p).decideResult i .completed payload).alive e.target p) i e .completed payload :=
        hdecided.congr (by simp) (by simp) (by simp) (by simp)
      have hclose := halive.closeFrom hno fun q => by
        rw [State.port_congr (State.alive_frame _ _ _).2.2.2.2.2.2.1, State.states_of_bares (State.decideResult_baresOf _ _ _ _),
          State.heard_states]
      exact ⟨hclose, hclose ▸ halive.close⟩
    obtain ⟨hclose, hdecided⟩ := hstep
    have hbares : baresOf (s.closeFrom (((s.heard p).decideResult i .completed payload).alive e.target p)).ports = baresOf heard.ports := by
      rw [hclose]
      simp [heard, State.heard_of_linked hlinked]
    have hcell : ((s.heard p).decideResult i .completed payload).cell = s.cell := State.cell_congr (by simp)
    have hmonitored : ((s.heard p).decideResult i .completed payload).monitored = s.monitored := State.monitored_congr hcell fun q => by
      rw [State.states_of_bares (State.decideResult_baresOf _ _ _ _), State.heard_states]
    refine ⟨_, by simp only [Bool.not_true, Bool.false_eq_true, if_false, show s.live (tagSlot tag) = some e from hlive]; rfl, hdecided, State.port_of_bares hbares, fun y q => ?_, ?_, ?_, ?_⟩
    · rw [hclose, State.cell_close, State.cell_alive, hcell, hmonitored]
    · rw [hclose]; simp
    · rw [hclose]; simp
    · rw [hclose]; simp

section
variable {s t u w : State} {i : Slot} {e : Exchange} {p q : PortId} {y : Nat} {payload : List Byte}

theorem State.replyAccepted_iff (s : State) (tag : Tag) (attempt : Byte) (finding : Finding) :
    s.replyAccepted tag attempt finding = true ↔ ∃ e, s.live (tagSlot tag) = some e ∧
      tagGeneration tag = (s.record (tagSlot tag)).generation.val ∧ (∃ q d at_, e.phase = .tracing q d at_) ∧
      (finding = .done ∨ attempt.toNat = e.attempt) := by
  have htracing : ∀ ph : Phase, (match ph with | .tracing _ _ _ => true | _ => false) = true ↔ ∃ q d at_, ph = .tracing q d at_ :=
    fun ph => by cases ph <;> simp
  unfold State.replyAccepted
  dsimp only
  rw [Bool.and_eq_true, beq_iff_eq, Option.any_eq_true]
  constructor
  · rintro ⟨htag, e, hlive, htest⟩
    rw [Bool.and_eq_true, Bool.or_eq_true, beq_iff_eq, beq_iff_eq] at htest
    exact ⟨e, hlive, htag, (htracing _).1 htest.1, htest.2⟩
  · rintro ⟨e, hlive, htag, hphase, htest⟩
    refine ⟨htag, e, hlive, ?_⟩
    rw [Bool.and_eq_true, Bool.or_eq_true, beq_iff_eq, beq_iff_eq]
    exact ⟨(htracing _).2 hphase, htest⟩

theorem State.InHand.neutral {v : State} (h : s.InHand u i e) (hex : v.ex = u.ex) (hports : v.ports = u.ports) (hcache : v.cache = u.cache)
    (hconfig : v.config = u.config) (htime : v.timeBase = u.timeBase) (hlink : v.link = u.link) : s.InHand v i e :=
  ⟨h.same.neutral hex (by rw [hports]) (by rw [hcache]) hconfig htime, h.off.neutral hex (by rw [hports]),
    (congrFun (State.live_congr hex) i).trans h.live, h.placed.trans (.of_cache hcache), by rw [hlink, h.wait], by rw [hports, h.faces]⟩

/-- An exchange whose trace has ended in an accepted reply, its cell alive. -/
theorem State.InHand.replied (h : s.live i = some e) (p : PortId) (y : Nat) :
    s.InHand (((s.heard p).detach i).alive y p) i e := by
  have hdetached : (s.heard p).InHand ((s.heard p).detach i) i e := .of_detach ((congrFun (State.live_congr (by simp)) i).trans h)
  have hbefore : s.InHand ((s.heard p).detach i) i e :=
    ⟨(s.sameBut_heard p i).trans hdetached.same, hdetached.off, hdetached.live, .of_cache (by simp), by simp, by
      rw [hdetached.faces]; simp⟩
  exact hbefore.neutral (by simp) (by simp) (by simp) (by simp) (by simp) (by simp)

theorem State.InHand.modLive (h : s.InHand u i e) (f : Exchange → Exchange) : s.InHand (u.modLive i f) i (f e) := by
  refine ⟨h.same.trans (u.sameBut_modLive i f), h.off.modLive f, ?_, h.placed.trans (.of_cache (by simp)), by simp [h.wait], by simp [h.faces]⟩
  rw [State.live_modLive, if_pos rfl, h.live]
  rfl

theorem State.InHand.becomeSent (h : s.InHand u i e) (hno : s.NoDrain i (some p)) :
    let t := s.closeFrom (u.becomeSent i p)
    t = (u.becomeSent i p).close ∧ s.Moved t i { e with phase := .sent p (s.timeBase + ms (responseWait s.config)) s.timeBase } := by
  have hmoved := (h.same.becomeSent h.off h.live p).toMoved
  rw [h.same.time, h.same.config] at hmoved
  exact h.settle hno (fun q hq => by injection hq with hq; subst hq; rfl) hmoved (by simp)

end

/-- Settles O31: discarded, refused, or the exchange settled by its finding. -/
theorem traceRepliesSettle : Obligations.TraceRepliesSettle := by
  intro s p tag attempt finding payload hr hwf i c accepted
  have hexec : exec c s = execTraceReplyArrival p tag attempt finding payload s := rfl
  have hchecks : (decide (Config.payloadLimit < payload.length) || (finding != .done && !payload.isEmpty)) = false := by
    unfold tracePayloadWf at hwf
    rw [Bool.and_eq_true, decide_eq_true_eq, Bool.or_eq_true] at hwf
    rw [Bool.or_eq_false_iff, decide_eq_false_iff_not, Nat.not_lt]
    refine ⟨hwf.1, ?_⟩
    rcases hwf.2 with h | h
    · rw [bne, h]
      rfl
    · rw [h, Bool.not_true, Bool.and_false]
  rw [hexec]
  unfold execTraceReplyArrival
  rw [hchecks]
  refine ⟨fun hlinked => by rw [hlinked]; rfl, fun hlinked hno => ?_, fun hlinked e hacc hno => ?_⟩
  · have hrefused : s.replyAccepted tag attempt finding = false := Bool.eq_false_iff.2 fun hc => by
      obtain ⟨e, he⟩ := (s.replyAccepted_iff tag attempt finding).1 hc
      exact hno e he
    rw [hlinked, hrefused, State.heard_of_linked hlinked]
    rfl
  · have haccepted : s.replyAccepted tag attempt finding = true := (s.replyAccepted_iff tag attempt finding).2 ⟨e, hacc⟩
    obtain ⟨hlive, -⟩ := hacc
    have hhand := State.InHand.replied hlive p e.target
    have hcell : ∀ y q, (((s.heard p).detach i).alive e.target p).cell y q =
        if y = e.target ∧ q = p ∧ s.monitored y q = true then { s.cell y q with misses := 0 } else s.cell y q := fun y q => by
      have hsame : ((s.heard p).detach i).cell = s.cell := State.cell_congr (by simp)
      rw [State.cell_alive, hsame, State.monitored_congr hsame fun r => by
        rw [State.states_of_bares (State.detach_baresOf _ _), State.heard_states]]
    have hsilence : ((((s.heard p).detach i).alive e.target p).port p).silenceEnds = some (s.timeBase + ms (linkSilence s.config)) := by
      rw [State.port_congr (State.alive_frame _ _ _).2.2.2.2.2.2.1, State.port_detach, State.heard, if_pos hlinked, State.port_modPort_self]
    have hrow : (((s.heard p).detach i).alive e.target p).row = s.row := by simp
    have hview : (((s.heard p).detach i).alive e.target p).view = s.view := by simp
    simp only [hlinked, haccepted, Bool.not_true, Bool.false_eq_true, if_false, show s.live (tagSlot tag) = some e from hlive]
    refine ⟨_, rfl, ?_⟩
    change s.InHand (((s.heard p).detach i).alive e.target p) i e at hhand
    change (∀ y q, (s.closeFrom ((((s.heard p).detach i).alive e.target p).takeFinding p i e payload finding)).cell y q = _) ∧ _
    generalize ((s.heard p).detach i).alive e.target p = u at *
    have hfinal : ∀ w, s.closeFrom w = w.close → w.routes = u.routes → w.row = u.row → w.view = u.view → baresOf w.ports = baresOf u.ports →
        (∀ y q, (s.closeFrom w).cell y q = if y = e.target ∧ q = p ∧ s.monitored y q = true then { s.cell y q with misses := 0 } else s.cell y q) ∧
        ((s.closeFrom w).port p).silenceEnds = some (s.timeBase + ms (linkSilence s.config)) ∧ (s.closeFrom w).row = s.row ∧
        (s.closeFrom w).view = s.view := fun w hclose hwroutes hwrow hwview hbares => by
      refine ⟨fun y q => ?_, ?_, ?_, ?_⟩
      · rw [hclose, State.cell_close, State.cell_congr hwroutes, hcell]
      · rw [hclose, State.port_close, State.port_of_bares hbares, hsilence]
      · rw [hclose]
        simp [hwrow, hrow]
      · rw [hclose]
        simp [hwview, hview]
    cases finding with
    | done =>
      obtain ⟨hclose, hdecided⟩ := hhand.decide hno .completed payload
      obtain ⟨hcells, hsilent, hrows, hviews⟩ := hfinal _ hclose (by simp) (by simp) (by simp) (by simp)
      exact ⟨hcells, hsilent, hrows, hviews, hdecided⟩
    | working =>
      obtain ⟨hclose, hmoved⟩ := hhand.becomeSent hno
      obtain ⟨hcells, hsilent, hrows, hviews⟩ := hfinal _ hclose rfl rfl rfl rfl
      exact ⟨hcells, hsilent, hrows, hviews, hmoved⟩
    | notSeen =>
      obtain ⟨hclose, hfate⟩ := (hhand.modLive (fun x => { x with traces := 0 })).dueResend hno
      obtain ⟨hcells, hsilent, hrows, hviews⟩ := hfinal _ hclose (by simp) (by simp) (by simp) (by simp)
      exact ⟨hcells, hsilent, hrows, hviews, hfate⟩

end Sys2Proof.Machine

namespace Sys2Proof.Machine
open Sys2Proof

/-! ### O26: the arbiter sends an exchange -/

section
variable {s t u w : State} {i : Slot} {e : Exchange} {p q : PortId}

theorem State.nextReady_eq {before after : List Slot} (h : s.ready p = before ++ i :: after)
    (hfirst : (s.phase i = some (.waiting .resend) ∧ ∀ j ∈ before, s.phase j ≠ some (.waiting .resend)) ∨
      (before = [] ∧ ∀ j ∈ s.ready p, s.phase j ≠ some (.waiting .resend))) : s.nextReady p = some i := by
  have hresend : ∀ j, s.isResend j = true ↔ s.phase j = some (.waiting .resend) := fun j => beq_iff_eq
  unfold State.nextReady
  rcases hfirst with ⟨hi, hbefore⟩ | ⟨hnil, hnone⟩
  · have hfind : (s.ready p).find? s.isResend = some i := by
      rw [h, List.find?_append, List.find?_eq_none.2 fun j hj hc => hbefore j hj ((hresend j).1 hc), Option.none_or,
        List.find?_cons_of_pos ((hresend i).2 hi)]
    rw [hfind]
  · have hfind : (s.ready p).find? s.isResend = none := List.find?_eq_none.2 fun j hj hc => hnone j hj ((hresend j).1 hc)
    rw [hfind, h, hnil]
    rfl

theorem State.not_ready_of_sent {d at_ : Time} (h : s.phase i = some (.sent p d at_)) (q : PortId) : i ∉ s.close.ready q := by
  have hnot : s.sendable i ≠ some q := fun hc => by
    obtain ⟨e, hlive, -, hwaiting, -⟩ := (s.sendable_iff i q).1 hc
    obtain ⟨x, a, hx, hphase⟩ := (s.isWaiting_iff i).1 hwaiting
    rw [State.phase_of_live hx, hphase] at h
    cases h
  rw [State.ready_close, List.mem_append, List.mem_filter, List.mem_filter]
  rintro (⟨-, hc⟩ | ⟨-, hc⟩)
  · exact hnot (beq_iff_eq.1 hc)
  · exact hnot (beq_iff_eq.1 (Bool.and_eq_true_iff.1 hc).1)

end

/-- Settles O26. -/
theorem theArbiterSendsExchanges : Obligations.TheArbiterSendsExchanges := by
  intro s p before after i e hr hlinked hcredits hprobes htraces hready hlive hfirst attempt
  have hmay : ((s.port p).maySend && (s.port p).pendingProbes.isEmpty && (s.port p).pendingTraces.isEmpty) = true := by
    rw [Port.maySend, hlinked, hprobes, htraces, Bool.true_and, decide_eq_true (show 0 < (s.port p).credits from hcredits)]
    rfl
  have hexec : exec (.sendExchange p) s = .next ((((s.modLive i (fun _ => e.afterSend)).becomeSent i p).transmit p
      (requestFrame (tagOf i (s.record i).generation) e.afterSend)).close) := by
    simp only [exec, execSendExchange, hmay, if_true, State.nextReady_eq hready hfirst, hlive]
  have hlive1 : (s.modLive i (fun _ => e.afterSend)).live i = some e.afterSend := by
    rw [State.live_modLive, if_pos rfl, hlive]
    rfl
  have hsame := s.sameBut_modLive i (fun _ => e.afterSend)
  have hout := (s.modLive i (fun _ => e.afterSend)).outstanding_becomeSent i p
  have hrecord := (s.modLive i (fun _ => e.afterSend)).record_setPhase i (ph := .sent p (s.timeBase + ms (responseWait s.config)) s.timeBase)
  have hport := ((s.modLive i (fun _ => e.afterSend)).becomeSent i p).port_modPort_self p
    (fun x => { x with credits := x.credits - 1, lastSent := some (requestFrame (tagOf i (s.record i).generation) e.afterSend) })
  have hother : ∀ q, q ≠ p → (((s.modLive i (fun _ => e.afterSend)).becomeSent i p).transmit p
      (requestFrame (tagOf i (s.record i).generation) e.afterSend)).port q = s.port q := fun q hq => by
    rw [State.transmit, State.port_modPort, if_neg (Ne.symm hq)]
    rfl
  refine ⟨_, hexec, ?_, fun j hj => ?_, fun q => ?_, fun q => ?_, rfl, rfl, rfl, ?_, fun q hq => ?_, State.onlyIn_of_exec hr hexec (by simp [blocksOf])⟩
  · refine (hrecord i).trans ?_
    rw [if_pos rfl, hlive1, hsame.generation]
    rfl
  · refine (hrecord j).trans ?_
    rw [if_neg (Ne.symm hj), hsame.others j hj]
  · refine (hout q).trans ?_
    exact congrArg₂ (· ++ ·) rfl (if_congr eq_comm rfl rfl)
  · refine State.not_ready_of_sent (p := p) (d := s.timeBase + ms (responseWait s.config)) (at_ := s.timeBase) ?_ q
    have hsent := hrecord i
    rw [if_pos rfl, hlive1] at hsent
    exact State.phase_of_live (e := { e.afterSend with phase := .sent p (s.timeBase + ms (responseWait s.config)) s.timeBase })
      (congrArg SlotRecord.live hsent)
  · rw [State.port_close]
    exact hport
  · rw [State.port_close, hother q hq]

end Sys2Proof.Machine

namespace Sys2Proof.Machine
open Sys2Proof

/-! ### The hand-back of pending traces at the loss of a link (R67, R122) -/

section
variable {s t u w : State} {i j : Slot} {e : Exchange} {p q : PortId} {y : Nat} {entered : PortState}

/-- Exchange i stands in the second state where it stood in the first, whatever has become of the others. -/
structure State.Beside (s t : State) (i : Slot) : Prop where
  record : t.record i = s.record i
  outstanding : ∀ q, i ∈ t.outstanding q ↔ i ∈ s.outstanding q
  traces : ∀ q, i ∈ (t.port q).pendingTraces ↔ i ∈ (s.port q).pendingTraces
  order : i ∈ t.ex.order ↔ i ∈ s.ex.order
  results : i ∈ t.ex.results ↔ i ∈ s.ex.results
  free : t.ex.free = s.ex.free
  ready : ∀ q, i ∈ t.ready q → i ∈ s.ready q

theorem State.Beside.refl (s : State) (i : Slot) : s.Beside s i :=
  ⟨rfl, fun _ => .rfl, fun _ => .rfl, .rfl, .rfl, rfl, fun _ => id⟩

theorem State.Beside.trans (h : s.Beside t i) (g : t.Beside u i) : s.Beside u i where
  record := g.record.trans h.record
  outstanding q := (g.outstanding q).trans (h.outstanding q)
  traces q := (g.traces q).trans (h.traces q)
  order := g.order.trans h.order
  results := g.results.trans h.results
  free := g.free.trans h.free
  ready q hq := h.ready q (g.ready q hq)

theorem State.Beside.of_eq (hex : t.ex = s.ex) (htraces : ∀ q, i ∈ (t.port q).pendingTraces ↔ i ∈ (s.port q).pendingTraces) :
    s.Beside t i where
  record := congrFun (State.record_of_ex hex) i
  outstanding q := by rw [State.outstanding, State.outstanding, hex]
  traces := htraces
  order := by rw [hex]
  results := by rw [hex]
  free := by rw [hex]
  ready q := by rw [State.ready, State.ready, hex]; exact id

theorem State.Beside.live (h : s.Beside t i) : t.live i = s.live i := congrArg SlotRecord.live h.record

theorem mem_filter_ne {l : List Slot} (hij : i ≠ j) : i ∈ l.filter (· != j) ↔ i ∈ l := by
  rw [List.mem_filter]
  exact and_iff_left (by simpa using hij)

theorem State.SameBut.beside (h : s.SameBut u j) (hij : i ≠ j) : s.Beside u i where
  record := h.others i hij
  outstanding q := by rw [← mem_filter_ne hij, h.outstanding, mem_filter_ne hij]
  traces q := by rw [← mem_filter_ne hij, ← tracesOf_eq, h.traces, mem_filter_ne hij]; rfl
  order := by rw [h.order]
  results := by rw [h.results]
  free := h.free
  ready q hq := (h.ready q).subset hq

theorem not_mem_singleton_if {c : Prop} [Decidable c] (hij : i ≠ j) : i ∉ (if c then [j] else []) := by
  split <;> simp [hij]

theorem State.Rehomed.beside (h : s.Rehomed u j e) (hij : i ≠ j) : s.Beside u i where
  record := h.others i hij
  outstanding q := by
    rw [h.outstanding, List.mem_append, mem_filter_ne hij]
    exact or_iff_left (not_mem_singleton_if hij)
  traces q := by
    rw [h.traces, List.mem_append, mem_filter_ne hij]
    refine or_iff_left ?_
    cases e.phase with
    | tracing => exact not_mem_singleton_if hij
    | _ => exact List.not_mem_nil
  order := by rw [h.order]
  results := by rw [h.results]
  free := h.free
  ready q hq := (h.ready q).subset hq

theorem State.Left.beside {a : Word32} {r : SlotRecord} (h : s.Left u j a y r) (hresults : u.ex.results = s.ex.results ++ [j])
    (hfree : u.ex.free = s.ex.free) (hij : i ≠ j) : s.Beside u i where
  record := h.others i hij
  outstanding q := by rw [h.outstanding, mem_filter_ne hij]
  traces q := by rw [← tracesOf_eq, h.traces, mem_filter_ne hij]; rfl
  order := by rw [h.order, mem_filter_ne hij]
  results := by rw [hresults, List.mem_append]; exact or_iff_left (by simpa using hij)
  free := hfree
  ready q hq := (mem_filter_ne hij).1 ((h.ready q).subset hq)

/-- What a step does to exchange j, seen from the other exchanges and from the ports that can take none: j leaves their lists, unless it
is kept there. -/
structure State.HandsOn (s t : State) (j : Slot) (kept : Option PortId := none) : Prop where
  beside : ∀ i, i ≠ j → s.Beside t i
  outstanding : ∀ q, (s.port q).state ≠ .up → some q ≠ kept → t.outstanding q ⊆ (s.outstanding q).filter (· != j)
  traces : ∀ q, (s.port q).state ≠ .up → (t.port q).pendingTraces ⊆ (s.port q).pendingTraces
  faces : facesOf t.ports = facesOf s.ports

theorem State.eligible_up (h : s.eligible y q = true) : (s.port q).state = .up := by
  rw [State.eligible, Bool.and_eq_true] at h
  exact beq_iff_eq.1 h.1

theorem State.Rehomed.handsOn {kept : Option PortId} (h : s.Rehomed u j e) (hfaces : facesOf u.ports = facesOf s.ports)
    (hport : ∀ q, (s.port q).state ≠ .up → some q ≠ kept → e.phase.port ≠ some q)
    (htracing : ∀ q d at_, e.phase = .tracing q d at_ → (s.port q).state = .up) : s.HandsOn u j kept where
  beside i hij := h.beside hij
  outstanding q hq hkept := by
    rw [h.outstanding, if_neg (hport q hq hkept), List.append_nil]
    exact fun _ => id
  traces q hq := by
    rw [h.traces]
    cases hphase : e.phase with
    | tracing r d at_ =>
      have hne : r ≠ q := fun heq => hq (heq ▸ htracing r d at_ hphase)
      simp only [hne, if_false, List.append_nil]
      exact List.filter_subset_self _
    | _ => simp only [List.append_nil]; exact List.filter_subset_self _
  faces := hfaces

/-- The exchange at hand held or waiting on no port. -/
theorem State.Rehomed.handsOn_off (h : s.Rehomed u j e) (hfaces : facesOf u.ports = facesOf s.ports) (hport : e.phase.port = none) :
    s.HandsOn u j :=
  h.handsOn hfaces (fun q _ _ heq => by rw [hport] at heq; cases heq) fun q d at_ heq => by rw [heq] at hport; cases hport

/-- The exchange at hand traced on a port that is eligible for it. -/
theorem State.SameBut.handsOn_placeTrace (h : s.SameBut u j) (hoff : u.Off j) (hlive : u.live j = some e)
    (hfaces : facesOf u.ports = facesOf s.ports) (helig : u.eligible y q = true) : s.HandsOn (u.placeTrace j q) j := by
  have hup : (s.port q).state = .up := by
    rw [← State.portState_of_faces hfaces]
    exact State.eligible_up helig
  refine (h.placeTrace hoff hlive q).handsOn ((facesOf_of_bares (by simp)).trans hfaces) (fun r hr _ heq => hr ?_) fun r d at_ heq => ?_
  · rw [← Option.some.inj heq]
    exact hup
  · injection heq with hqr
    exact hqr ▸ hup

/-- The result of the exchange at hand decided. -/
theorem State.SameBut.handsOn_decideResult (h : s.SameBut u j) (hlive : u.live j = some e) (hfaces : facesOf u.ports = facesOf s.ports)
    (status : ResultStatus) (payload : List Byte) : s.HandsOn (u.decideResult j status payload) j := by
  obtain ⟨hleft, hresults, hfree⟩ := h.decideResult hlive status payload
  refine ⟨fun i hij => hleft.beside hresults hfree hij, fun q _ _ => ?_, fun q _ => ?_, (facesOf_of_bares (by simp)).trans hfaces⟩
  · rw [hleft.outstanding]
    exact fun _ => id
  · rw [← tracesOf_eq, hleft.traces]
    exact List.filter_subset_self _

theorem State.SameBut.handsOn_traceOrHold (h : s.SameBut u j) (hoff : u.Off j) (hlive : u.live j = some e)
    (hfaces : facesOf u.ports = facesOf s.ports) (y : Nat) (x : Option PortId) : s.HandsOn (u.traceOrHold j y x) j := by
  unfold State.traceOrHold
  cases hchoice : u.traceChoice y x with
  | some q => exact h.handsOn_placeTrace hoff hlive hfaces (State.eligible_of_traceChoice hchoice)
  | none => exact (h.hold hoff hlive .trace).handsOn_off (by simp [hfaces]) rfl

theorem State.SameBut.handsOn (h : s.SameBut u j) (hoff : u.Off j) (hfaces : facesOf u.ports = facesOf s.ports) : s.HandsOn u j := by
  refine ⟨fun i hij => h.beside hij, fun q _ _ x hx => ?_, fun q _ x hx => ?_, hfaces⟩
  · have hxj : x ≠ j := fun heq => hoff.outstanding q (heq ▸ hx)
    exact (mem_filter_ne hxj).2 (((h.beside hxj).outstanding q).1 hx)
  · have hxj : x ≠ j := fun heq => hoff.traces q (heq ▸ hx)
    exact ((h.beside hxj).traces q).1 hx

theorem State.SameBut.handsOn_seekFate (h : s.SameBut u j) (hoff : u.Off j) (hfaces : facesOf u.ports = facesOf s.ports)
    (x : Option PortId) : s.HandsOn (u.seekFate j x) j := by
  unfold State.seekFate
  cases hlive : u.live j with
  | none => exact h.handsOn hoff hfaces
  | some e =>
    dsimp only
    split
    · exact h.handsOn_decideResult hlive hfaces .inDoubt []
    · exact h.handsOn_traceOrHold hoff hlive hfaces e.target x

theorem State.handsOn_handBack (s : State) (p : PortId) (j : Slot) : s.HandsOn (State.handBack p s j) j :=
  ((s.sameBut_modLive j (fun e => { e with traces := e.traces - 1 })).trans (State.sameBut_detach _ j)).handsOn_seekFate
    (State.off_detach _ j) (facesOf_of_bares (by simp)) (some p)

theorem State.foldl_handBack_bares (p : PortId) (l : List Slot) (s : State) :
    baresOf (l.foldl (State.handBack p) s).ports = baresOf s.ports :=
  foldl_keeps (fun u => baresOf u.ports) _ (by simp) _ _

theorem State.foldl_handBack_routes (p : PortId) (l : List Slot) (s : State) : (l.foldl (State.handBack p) s).routes = s.routes :=
  foldl_keeps (·.routes) _ (by simp) _ _

theorem State.beside_foldl_handBack (p : PortId) (l : List Slot) (s : State) (hi : i ∉ l) : s.Beside (l.foldl (State.handBack p) s) i := by
  induction l generalizing s with
  | nil => exact .refl s i
  | cons j l ih =>
    rw [List.mem_cons, not_or] at hi
    exact ((s.handsOn_handBack p j).beside i hi.1).trans (ih _ hi.2)

theorem State.foldl_handBack_shrinks (p : PortId) (l : List Slot) (s : State) (hq : (s.port q).state ≠ .up) :
    (l.foldl (State.handBack p) s).outstanding q ⊆ s.outstanding q ∧
    ((l.foldl (State.handBack p) s).port q).pendingTraces ⊆ (s.port q).pendingTraces := by
  induction l generalizing s with
  | nil => exact ⟨fun _ => id, fun _ => id⟩
  | cons j l ih =>
    have hone := s.handsOn_handBack p j
    have hq' : ((State.handBack p s j).port q).state ≠ .up := by rwa [State.states_of_bares (State.handBack_baresOf s p j)]
    obtain ⟨hout, htraces⟩ := ih (State.handBack p s j) hq'
    exact ⟨fun x hx => List.filter_subset_self _ (hone.outstanding q hq (by simp) (hout hx)), fun x hx => hone.traces q hq (htraces hx)⟩

/-! #### The fate of the trace handed back -/

/-- The state in which the fate of a trace handed back is sought. -/
theorem State.inHand_handBack (h : u.live i = some e) : u.InHand ((u.modLive i (fun e => { e with traces := e.traces - 1 })).detach i) i
    { e with traces := e.traces - 1 } := by
  refine ⟨(u.sameBut_modLive i _).trans (State.sameBut_detach _ i), State.off_detach _ i, ?_, .of_cache rfl, rfl, facesOf_of_bares (by simp)⟩
  rw [State.live_detach, State.live_modLive, if_pos rfl, h]
  rfl

theorem State.traceChoice_modLive (s : State) (i : Slot) (f : Exchange → Exchange) (y : Nat) (x : Option PortId) :
    ((s.modLive i f).detach i).traceChoice y x = (s.detach i).traceChoice y x := rfl

/-- A trace handed back has its count lowered, and its fate is sought with the port left out. -/
theorem State.handBack_fate (h : u.live i = some e) (p : PortId) :
    if traceLimit u.config ≤ e.traces - 1 then u.Decided (State.handBack p u i) i { e with traces := e.traces - 1 } .inDoubt []
    else match (u.detach i).traceChoice e.target (some p) with
      | some q => u.Moved (State.handBack p u i) i
          { e with traces := e.traces - 1 + 1, phase := .tracing q (u.timeBase + ms (traceWait u.config)) u.timeBase }
      | none => u.Moved (State.handBack p u i) i { e with traces := e.traces - 1, phase := u.heldNow .trace } :=
  (State.inHand_handBack h).fate (some p)

theorem State.eligible_eq_of (hstate : (t.port q).state = (s.port q).state) (hcell : t.cell y q = s.cell y q) :
    t.eligible y q = s.eligible y q := by
  rw [State.eligible, State.eligible, hstate, hcell]

/-- With the port left out not eligible itself, the trace choice names another port that is, where there is one. -/
theorem State.traceChoice_of_not_eligible (h : ¬ s.eligible y p = true) : match s.traceChoice y (some p) with
    | some q => q ≠ p ∧ s.eligible y q = true
    | none => ¬ ∃ q, q ≠ p ∧ s.eligible y q = true := by
  cases hchoice : s.traceChoice y (some p) with
  | some q =>
    have helig := State.eligible_of_traceChoice hchoice
    exact ⟨fun heq => h (heq ▸ helig), helig⟩
  | none => exact fun ⟨q, _, hq⟩ => (s.traceChoice_excluding_eq_none_iff y p).1 hchoice q hq

end

end Sys2Proof.Machine

namespace Sys2Proof.Machine
open Sys2Proof

/-! ### The loss of a link (R67) -/

section
variable {s t u w : State} {i j : Slot} {e : Exchange} {p q : PortId} {y : Nat} {entered : PortState}

theorem State.foldl_cut_eq (l : List Nat) (s : State) (p : PortId) :
    l.foldl (fun u y => u.modCell y p Cell.cut) s = (l.filter (· ∈ allTargets)).foldl (fun u y => u.modCell y p Cell.cut) s := by
  rw [List.foldl_filter]
  congr 1
  funext u y
  by_cases hy : y ∈ allTargets
  · rw [if_pos (by simpa using hy)]
  · rw [if_neg (by simpa using hy), State.modCell_of_not_mem u p _ hy]

theorem State.cell_cutLink (s : State) (p : PortId) (entered : PortState) (y : Nat) (q : PortId) : (s.cutLink p entered).cell y q =
    if q = p ∧ y ∈ (s.port p).reach ∧ y ∈ allTargets then (s.cell y q).cut else s.cell y q := by
  have hcell : (s.modPort p (Port.cut entered)).cell = s.cell := State.cell_congr (by simp)
  rw [State.cutLink_eq, State.loseCells_eq, State.foldl_cut_eq, State.cell_foldl_cut _ (fun z hz => by simpa using (List.mem_filter.1 hz).2),
    State.port_modPort_self, hcell]
  refine if_congr ?_ rfl rfl
  rw [List.mem_filter, decide_eq_true_eq]
  rfl

theorem State.beside_cutLink (entered : PortState) (hi : i ∉ (s.port p).pendingTraces) : s.Beside (s.cutLink p entered) i := by
  refine .of_eq (by rw [State.cutLink_eq]; simp) fun q => ?_
  rw [State.port_cutLink]
  split
  next heq =>
    subst heq
    exact ⟨fun h => absurd h List.not_mem_nil, fun h => absurd h hi⟩
  next => exact .rfl

/-- What the loss of port p's link leaves before anything is reported: the port cut off, its cells lost, its pending traces handed
back and its port-loss item standing. -/
structure State.Unlinked (s t : State) (p : PortId) (entered : PortState) : Prop where
  port : t.port p = Port.cut entered (s.port p)
  others : ∀ q, q ≠ p → t.port q = { s.port q with pendingTraces := (t.port q).pendingTraces }
  cells : ∀ y q, t.cell y q = if q = p ∧ y ∈ (s.port p).reach ∧ y ∈ allTargets then (s.cell y q).cut else s.cell y q
  beside : ∀ i, i ∉ (s.port p).pendingTraces → s.Beside t i
  handed : (s.port p).pendingTraces.Nodup → s.HandedBack t p
  item : .portLoss p s.timeBase ∈ t.failover.work
  offered : s.Offered t
  unreported : s.Unreported t
  raised : t.raised = s.raised
  link : t.link.counted = s.link.counted
  shrinks : ∀ q, (s.port q).state ≠ .up → t.outstanding q ⊆ s.outstanding q

theorem State.eligible_foldl_handBack (p : PortId) (l : List Slot) (u : State) (y : Nat) (q : PortId) :
    (l.foldl (State.handBack p) u).eligible y q = u.eligible y q :=
  State.eligible_eq_of (State.states_of_bares (State.foldl_handBack_bares p l u) q)
    (congrFun₂ (State.cell_congr (State.foldl_handBack_routes p l u)) y q)

theorem State.eligible_cutLink (entered : PortState) (y : Nat) (hq : q ≠ p) : (s.cutLink p entered).eligible y q = s.eligible y q :=
  State.eligible_eq_of (by rw [State.port_cutLink, if_neg (Ne.symm hq)]) (by rw [State.cell_cutLink, if_neg fun h => hq h.1])

/-- Each trace handed back in its turn (R67, R122). -/
theorem State.handedBack_dropped (hentered : entered ≠ .up) (hnodup : (s.port p).pendingTraces.Nodup) :
    s.HandedBack ((s.port p).pendingTraces.foldl (State.handBack p) (s.cutLink p entered)) p := by
  intro i hi e hlive
  dsimp only
  obtain ⟨before, after, hsplit⟩ := List.append_of_mem hi
  rw [hsplit] at hnodup
  have hex : (s.cutLink p entered).ex = s.ex := by rw [State.cutLink_eq]; simp
  obtain ⟨-, hafter, hdisjoint⟩ := List.nodup_append.1 hnodup
  have hbefore : i ∉ before := fun h => hdisjoint i h i List.mem_cons_self rfl
  have hfirst := State.beside_foldl_handBack p before (s.cutLink p entered) hbefore
  have hframe : (before.foldl (State.handBack p) (s.cutLink p entered)).config = s.config ∧
      (before.foldl (State.handBack p) (s.cutLink p entered)).timeBase = s.timeBase :=
    ⟨(foldl_keeps (·.config) _ (by simp) _ _).trans (by rw [State.cutLink_eq]; simp),
      (foldl_keeps (·.timeBase) _ (by simp) _ _).trans (by rw [State.cutLink_eq]; simp)⟩
  have helig := fun q => State.eligible_foldl_handBack p before (s.cutLink p entered) e.target q
  rw [hsplit, List.foldl_append, List.foldl_cons]
  generalize before.foldl (State.handBack p) (s.cutLink p entered) = v at hfirst hframe helig
  have hrecord : v.record i = s.record i := hfirst.record.trans (congrFun (State.record_of_ex hex) i)
  have hlast := State.beside_foldl_handBack p after (State.handBack p v i) (List.nodup_cons.1 hafter).1
  generalize after.foldl (State.handBack p) (State.handBack p v i) = t at hlast ⊢
  have hfate := State.handBack_fate ((congrArg SlotRecord.live hrecord).trans hlive) p
  rw [hframe.1, hframe.2, State.heldNow, hframe.1, hframe.2, ← State.heldNow] at hfate
  have hbecomes : ∀ x, (State.handBack p v i).record i = ⟨(v.record i).generation, some x⟩ →
      t.record i = ⟨(s.record i).generation, some x⟩ := fun x hx => by
    rw [hrecord] at hx
    exact hlast.record.trans hx
  have hdetach : ∀ q, (v.detach i).eligible e.target q = v.eligible e.target q := fun q => State.eligible_eq_of (by rw [State.port_detach]) rfl
  have hnot : ¬ (v.detach i).eligible e.target p = true := fun h => hentered (by
    have hup := State.eligible_up ((helig p).symm.trans ((hdetach p).symm.trans h))
    rwa [State.port_cutLink, if_pos rfl] at hup)
  have hothers : ∀ q, q ≠ p → (v.detach i).eligible e.target q = s.eligible e.target q := fun q hq => by
    rw [hdetach, helig, State.eligible_cutLink entered e.target hq]
  have hchosen := State.traceChoice_of_not_eligible hnot
  have hoff : ∀ q, i ∉ (v.outstanding q).filter (· != i) := fun q h => by simpa using (List.mem_filter.1 h).2
  have hofft : ∀ q, i ∉ (v.port q).pendingTraces.filter (· != i) := fun q h => by simpa using (List.mem_filter.1 h).2
  split
  next hlimit =>
    rw [if_pos hlimit] at hfate
    refine ⟨hbecomes _ hfate.record, ?_, fun q => ?_⟩
    · rw [hlast.results, hfate.results]
      simp
    · rw [hlast.outstanding, hfate.outstanding]
      exact hoff q
  next hlimit =>
    rw [if_neg hlimit] at hfate
    cases hchoice : (v.detach i).traceChoice e.target (some p) with
    | some q =>
      rw [hchoice] at hfate hchosen
      obtain ⟨hqp, hq⟩ := hchosen
      rw [hothers q hqp] at hq
      rw [if_pos ⟨q, hqp, hq⟩]
      refine ⟨q, hqp, hq, hbecomes _ hfate.record, fun r => ⟨?_, ?_⟩⟩
      · rw [hlast.outstanding, hfate.outstanding, List.mem_append, or_iff_right (hoff r)]
        by_cases hr : r = q
        · subst hr; simp [Phase.port]
        · simp [Phase.port, hr, Ne.symm hr]
      · rw [hlast.traces, hfate.traces, List.mem_append, or_iff_right (hofft r)]
        by_cases hr : r = q
        · subst hr; simp
        · simp [hr, Ne.symm hr]
    | none =>
      rw [hchoice] at hfate hchosen
      rw [if_neg fun ⟨q, hqp, hq⟩ => hchosen ⟨q, hqp, by rwa [hothers q hqp]⟩]
      refine ⟨hbecomes _ hfate.record, fun q => ?_⟩
      rw [hlast.outstanding, hfate.outstanding]
      simpa [Phase.port, State.heldNow] using hoff q

theorem State.HandedBack.congr (h : s.HandedBack t p) (htable : t.sameTable u)
    (htraces : ∀ q, (u.port q).pendingTraces = (t.port q).pendingTraces) : s.HandedBack u p := by
  have hrecord : u.record = t.record := funext fun i => by rw [State.record, State.record, htable.slots]
  have hout : ∀ q, u.outstanding q = t.outstanding q := fun q => by rw [State.outstanding, State.outstanding, htable.outstanding]
  intro i hi e hlive
  have hi := h i hi e hlive
  simp only [hrecord, hout, htraces, htable.results]
  exact hi

theorem State.unlinked_dropLink (s : State) (p : PortId) (hentered : entered ≠ .up) : s.Unlinked (s.dropLink p entered) p entered := by
  have hcutp : ∀ q, (s.cutLink p entered).port q = if p = q then Port.cut entered (s.port p) else s.port q := fun q => s.port_cutLink p q entered
  have hcut : (s.cutLink p entered).ex = s.ex ∧ (s.cutLink p entered).failover = s.failover ∧ (s.cutLink p entered).timeBase = s.timeBase := by
    rw [State.cutLink_eq]
    simp
  have hbares := State.foldl_handBack_bares p (s.port p).pendingTraces (s.cutLink p entered)
  have hhanded : (s.port p).pendingTraces.Nodup → _ := State.handedBack_dropped (s := s) (p := p) hentered
  have hcell : (s.dropLink p entered).cell = (s.cutLink p entered).cell :=
    State.cell_congr (by rw [State.dropLink, (State.offerPortLoss_frame _ p).2.2.2.2.2.2.2.1, State.foldl_handBack_routes])
  have hports : (s.dropLink p entered).port = ((s.port p).pendingTraces.foldl (State.handBack p) (s.cutLink p entered)).port :=
    State.port_congr (by simp [State.dropLink])
  have hex : (s.dropLink p entered).ex = ((s.port p).pendingTraces.foldl (State.handBack p) (s.cutLink p entered)).ex := by
    simp [State.dropLink]
  have hnone : ((s.cutLink p entered).port p).pendingTraces = [] := by rw [hcutp, if_pos rfl]; rfl
  refine ⟨?_, fun q hq => ?_, fun y q => ?_, fun i hi => ?_, fun hnodup => ?_, ?_, ?_, ?_, by simp, by simp, fun q hq => ?_⟩
  · have hshrinks := (State.foldl_handBack_shrinks (q := p) p (s.port p).pendingTraces (s.cutLink p entered)
      (by rw [hcutp, if_pos rfl]; exact hentered)).2
    rw [hnone] at hshrinks
    rw [hports, State.port_of_bares hbares p, List.subset_nil.1 hshrinks, hcutp, if_pos rfl]
    rfl
  · have hq' := State.port_of_bares hbares q
    rw [hcutp, if_neg (Ne.symm hq)] at hq'
    rw [hports]
    exact hq'
  · rw [hcell, State.cell_cutLink]
  · exact ((State.beside_cutLink entered hi).trans (State.beside_foldl_handBack p _ _ hi)).trans (.of_eq hex fun q => by rw [hports])
  · exact (hhanded hnodup).congr (.of_ex hex) fun q => by rw [hports]
  · have htime : ((s.port p).pendingTraces.foldl (State.handBack p) (s.cutLink p entered)).timeBase = s.timeBase :=
      (foldl_keeps (·.timeBase) _ (by simp) _ _).trans hcut.2.2
    rw [← htime]
    exact State.mem_offerPortLoss _ p
  · exact (s.onward_dropLink p entered).offered
  · exact ⟨by simp, by simp, by simp, by simp, by simp⟩
  · rw [State.outstanding, hex]
    have hshrinks := (State.foldl_handBack_shrinks (q := q) p (s.port p).pendingTraces (s.cutLink p entered)
      (by rw [hcutp]; split <;> [exact hentered; exact hq])).1
    exact fun x hx => by
      have hmem := hshrinks hx
      rwa [State.outstanding, hcut.1] at hmem

end

end Sys2Proof.Machine

namespace Sys2Proof.Machine
open Sys2Proof

/-! ### O25: END and CANCEL -/

section
variable {s t u w : State} {i j : Slot} {e : Exchange} {p q : PortId} {y : Nat}

theorem State.beside_drain (hi : i ∉ (s.port p).pendingTraces) : s.Beside (s.drain p) i := by
  have hdrop := (s.unlinked_dropLink p (entered := .off) (by simp)).beside i hi
  refine hdrop.trans (.of_eq (by simp [State.drain]) fun q => ?_)
  have hport : (s.drain p).port q = ((s.dropLink p .off).modPort p (fun x => { x with retryBar := false })).port q :=
    congrFun (State.port_congr (by simp [State.drain])) q
  rw [hport, State.port_modPort]
  split
  next heq => rw [← heq]
  next => exact .rfl

theorem State.beside_drainEmptied (before : State) (hi : ∀ q, i ∉ (u.port q).pendingTraces) : u.Beside (before.drainEmptied u) i := by
  unfold State.drainEmptied
  refine List.foldlRecOn (motive := fun v => u.Beside v i) allPorts _ (.refl u i) fun v hv q _ => ?_
  split
  · exact hv.trans (State.beside_drain fun h => hi q ((hv.traces q).1 h))
  · exact hv

/-- An exchange that its event has taken off every list is on none at the end of the step, whichever ports the event has emptied. -/
theorem State.off_closeFrom (before : State) (horder : i ∉ w.ex.order) (hout : ∀ q, i ∉ w.outstanding q) (hready : ∀ q, i ∉ w.ready q)
    (htraces : ∀ q, i ∉ (w.port q).pendingTraces) :
    (before.closeFrom w).record i = w.record i ∧ (i ∈ (before.closeFrom w).ex.results ↔ i ∈ w.ex.results) ∧
    (before.closeFrom w).ex.free = w.ex.free ∧ i ∉ (before.closeFrom w).ex.order ∧
    ∀ q, i ∉ (before.closeFrom w).outstanding q ∧ i ∉ (before.closeFrom w).ready q ∧ i ∉ ((before.closeFrom w).port q).pendingTraces := by
  have h := State.beside_drainEmptied before htraces
  unfold State.closeFrom
  have htable := (before.drainEmptied w).sameTable_close
  rw [State.record_close, State.outstanding_close, State.port_close, htable.results, htable.free, htable.order]
  refine ⟨h.record, h.results, h.free, fun hc => horder (h.order.1 hc), fun q => ⟨fun hc => hout q ((h.outstanding q).1 hc), ?_,
    fun hc => htraces q ((h.traces q).1 hc)⟩⟩
  exact State.not_mem_ready_close (fun r hc => hready r (h.ready r hc)) (fun hc => horder (h.order.1 hc)) q

/-- A request taken, its owner's step closed and the reply queued (R157). -/
theorem State.RequestAtHead.answered {code : Byte} {args : List Byte} {rest : List HostFrame} (h : s.RequestAtHead code args rest)
    (hu : u.link.counted = s.popIngress.link.counted) (r : Reply) :
    (u.close.pushReply r).link.ingress = rest ∧ (u.close.pushReply r).link.replies = s.link.replies ++ [r] := by
  rw [State.popIngress_link h.head] at hu
  have hingress : u.close.link.ingress = u.link.ingress := by
    obtain ⟨queue, dropped, hflush, -⟩ := State.flush_link_eq u.settleReady
    rw [State.close, hflush]
    rfl
  rw [State.pushReply_link, hingress, State.close_replies]
  have hreplies : u.link.replies = s.link.replies := congrArg (·.replies) hu
  exact ⟨congrArg (·.ingress) hu, by rw [hreplies]⟩

theorem State.openUnder_eq {h : Word32} {before after : List Slot} (hsplit : s.ex.order = before ++ i :: after)
    (hbefore : ∀ j ∈ before, ∀ x, s.live j = some x → x.hostRef ≠ h) (hlive : s.live i = some e) (href : e.hostRef = h) :
    s.openUnder h = some i := by
  unfold State.openUnder
  have hnone : before.find? (fun i => (s.live i).any (fun e => e.hostRef == h)) = none := List.find?_eq_none.2 fun j hj hc => by
    obtain ⟨x, hx, heq⟩ := (Option.any_eq_true _ _).1 hc
    exact hbefore j hj x hx (beq_iff_eq.1 heq)
  rw [hsplit, List.find?_append, hnone, Option.none_or, List.find?_cons_of_pos]
  simp [hlive, href]

theorem State.openUnder_eq_none {h : Word32} (hnone : ∀ j ∈ s.ex.order, ∀ x, s.live j = some x → x.hostRef ≠ h) :
    s.openUnder h = none :=
  List.find?_eq_none.2 fun j hj hc => by
    obtain ⟨x, hx, heq⟩ := (Option.any_eq_true _ _).1 hc
    exact hnone j hj x hx (beq_iff_eq.1 heq)

theorem Exchange.mayEnd_iff (e : Exchange) : e.mayEnd = true ↔ e.cls = 1#8 ∨ e.everSent = false := by
  rw [Exchange.mayEnd, Bool.or_eq_true, Exchange.repeatable, beq_iff_eq, Bool.not_eq_true']

theorem not_mem_filter_ne (i : Slot) (l : List Slot) : i ∉ l.filter (· != i) := fun h => by simpa using (List.mem_filter.1 h).2

/-- What END does to the oldest exchange (R24). -/
theorem State.ended (hlive : u.live i = some e) :
    let w := u.decideResult i .cancelled []
    let t := u.closeFrom w
    (i ∈ t.ex.results ∧ t.record i = ⟨(u.record i).generation, some { e with phase := .answered .cancelled, payload := [] }⟩) ∧
    (i ∉ t.ex.order ∧ ∀ q, i ∉ t.outstanding q ∧ i ∉ t.ready q ∧ i ∉ (t.port q).pendingTraces) ∧
    (u.NoDrain i → (t.routes = u.routes ∧ t.row = u.row ∧ t.view = u.view) ∧ u.Decided t i e .cancelled []) := by
  intro w t
  have hdecided := (State.SameBut.refl u i).decided hlive (.of_cache rfl) rfl .cancelled []
  have horder : i ∉ w.ex.order := by rw [hdecided.order]; exact not_mem_filter_ne i _
  have hout : ∀ q, i ∉ w.outstanding q := fun q => by rw [hdecided.outstanding]; exact not_mem_filter_ne i _
  have htraces : ∀ q, i ∉ (w.port q).pendingTraces := fun q => by rw [hdecided.traces]; exact not_mem_filter_ne i _
  obtain ⟨hrecord, hresults, -, hoff⟩ := State.off_closeFrom u horder hout hdecided.ready htraces
  refine ⟨⟨hresults.2 ?_, hrecord.trans hdecided.record⟩, hoff, fun hno => ?_⟩
  · rw [hdecided.results]
    simp
  · have hclose := hdecided.closeFrom hno fun q => State.states_of_bares (by simp) q
    exact ⟨by rw [show t = w.close from hclose]; simp [w], (congrArg (fun v => u.Decided v i e .cancelled []) hclose).mpr hdecided.close⟩

theorem State.freeSlot_table (v : State) (i : Slot) : (v.freeSlot i).ex.order = v.ex.order ∧ (v.freeSlot i).ex.results = v.ex.results ∧
    (v.freeSlot i).ex.free = v.ex.free ++ [i] ∧ (∀ q, (v.freeSlot i).outstanding q = v.outstanding q) ∧
    ∀ q, (v.freeSlot i).ready q = v.ready q := by
  simp only [State.outstanding, State.ready, State.freeSlot_ex, implies_true, and_self]

/-- What CANCEL does to the oldest exchange (R24). -/
theorem State.cancelled (u : State) (i : Slot) (e : Exchange) :
    let w := ((u.detach i).leavePair i e).freeSlot i
    let t := u.closeFrom w
    (t.ex.free = u.ex.free ++ [i] ∧ t.record i = ⟨(u.record i).generation + 1, none⟩) ∧
    (i ∉ t.ex.order ∧ ∀ q, i ∉ t.outstanding q ∧ i ∉ t.ready q ∧ i ∉ (t.port q).pendingTraces) ∧
    (u.NoDrain i → (t.routes = u.routes ∧ t.row = u.row ∧ t.view = u.view) ∧ t.ex.results = u.ex.results ∧ t.ex.order = u.ex.order.filter (· != i) ∧
      (∀ j, j ≠ i → t.record j = u.record j) ∧ (∀ q, t.outstanding q = (u.outstanding q).filter (· != i)) ∧
      ∀ pl x, u.findPlace e.session e.target = some pl → u.entryAt pl = some x →
        t.entryAt pl = some { x with count := x.count - 1 }) := by
  have hleft := (State.SameBut.refl u i).leavePair e
  have hcache : (((u.detach i).leavePair i e).freeSlot i).cache = ((u.detach i).leavePair i e).cache := by simp
  have hports : (((u.detach i).leavePair i e).freeSlot i).ports = (u.detach i).ports := by simp
  obtain ⟨hworder, hwresults, hwfree, hwout, hwready⟩ := State.freeSlot_table ((u.detach i).leavePair i e) i
  have hrecord := State.record_freeSlot ((u.detach i).leavePair i e) i
  have hframe : (((u.detach i).leavePair i e).freeSlot i).routes = u.routes ∧ (((u.detach i).leavePair i e).freeSlot i).row = u.row ∧
      (((u.detach i).leavePair i e).freeSlot i).view = u.view := by simp
  generalize ((u.detach i).leavePair i e).freeSlot i = w at *
  have horder : w.ex.order = u.ex.order.filter (· != i) := hworder.trans hleft.order
  have hout : ∀ q, w.outstanding q = (u.outstanding q).filter (· != i) := fun q => (hwout q).trans (hleft.outstanding q)
  have htraces : ∀ q, (w.port q).pendingTraces = (u.port q).pendingTraces.filter (· != i) := fun q => by
    rw [State.port_congr hports, State.port_detach]
  have hresults : w.ex.results = u.ex.results := hwresults.trans (by simp)
  have hfree : w.ex.free = u.ex.free ++ [i] := hwfree.trans (by simp)
  dsimp only
  have hrecordi : w.record i = ⟨(u.record i).generation + 1, none⟩ := by
    rw [hrecord, if_pos rfl, hleft.record]
  obtain ⟨hsame, -, hfrees, hoff⟩ := State.off_closeFrom u (w := w) (i := i) (by rw [horder]; exact not_mem_filter_ne i _)
    (fun q => by rw [hout]; exact not_mem_filter_ne i _)
    (fun q h => not_mem_filter_ne i _ ((hleft.ready q).subset (by rwa [hwready] at h)))
    (fun q => by rw [htraces]; exact not_mem_filter_ne i _)
  refine ⟨⟨hfrees.trans hfree, hsame.trans hrecordi⟩, hoff, fun hno => ?_⟩
  have hclose : u.closeFrom w = w.close := hno.closeFrom (fun q => by rw [State.port_congr hports, State.port_detach]) (fun q j hj hmem => by
    rw [hout]
    exact List.mem_filter.2 ⟨hmem, by simpa using hj⟩) (by simp)
  rw [hclose]
  refine ⟨by simpa using hframe, hresults, horder, fun j hj => ?_, fun q => hout q, fun pl x hpl hx => ?_⟩
  · rw [State.record_close, hrecord, if_neg (Ne.symm hj), hleft.others j hj]
  · have hentry : w.entryAt = ((u.detach i).leavePair i e).entryAt := State.entryAt_congr hcache
    rw [State.entryAt_close, hentry, State.leavePair_entry _ i e (show (u.detach i).findPlace e.session e.target = some pl from hpl)]
    show (u.entryAt pl).map _ = _
    rw [hx]
    rfl

end

/-- Settles O25. -/
theorem endAndCancelReachTheOldest : Obligations.EndAndCancelReachTheOldest := by
  intro s h rest code c hcode hr hhead answers
  have hread := argsHostRef_bytesOf h
  have hpop := State.popIngress_eq hhead.head
  have hexec : ∃ act : Slot → Exchange → State → State, exec c s = s.onRequest code argsHostRef (endWith act) ∧
      (c = .endExchange → act = fun i _ u => u.decideResult i .cancelled []) ∧
      (c = .cancel → act = fun i e u => ((u.detach i).leavePair i e).freeSlot i) ∧ (c = .endExchange ∨ c = .cancel) := by
    rcases hcode with ⟨rfl, rfl⟩ | ⟨rfl, rfl⟩
    · exact ⟨_, rfl, fun _ => rfl, Instr.noConfusion, .inl rfl⟩
    · exact ⟨_, rfl, Instr.noConfusion, fun _ => rfl, .inr rfl⟩
  obtain ⟨act, hexec, hend, hcancel, hwhich⟩ := hexec
  have hrefused : ∀ status, endWith act h s.popIngress = ⟨s.popIngress, status, .none⟩ → answers status := fun status howner =>
    hexec.trans (hhead.onRequest_refused hread howner)
  refine ⟨fun hnone => hrefused _ ?_, fun before i after e hsplit hbefore hlive href => ⟨fun hcls hsent => hrefused _ ?_, fun hmay => ?_⟩⟩
  · have hfind : s.popIngress.openUnder h = none := State.openUnder_eq_none (s := s.popIngress) (by rw [hpop]; exact hnone)
    rw [endWith, hfind]
    rfl
  · have hfind : s.popIngress.openUnder h = some i := State.openUnder_eq (s := s.popIngress) (by rw [hpop]; exact hsplit)
      (by rw [hpop]; exact hbefore) (by rw [hpop]; exact hlive) href
    have hno : e.mayEnd = false := Bool.eq_false_iff.2 fun hc => ((Exchange.mayEnd_iff e).1 hc).elim hcls fun hf => by
      rw [hsent] at hf
      cases hf
    have hlive' : s.popIngress.live i = some e := by rw [hpop]; exact hlive
    rw [endWith, hfind]
    dsimp only
    rw [hlive']
    dsimp only
    rw [hno]
    rfl
  · have hlive' : s.popIngress.live i = some e := by rw [hpop]; exact hlive
    have howner : endWith act h s.popIngress = ⟨s.popIngress.closeFrom (act i e s.popIngress), .done, .none⟩ := by
      have hfind : s.popIngress.openUnder h = some i := State.openUnder_eq (s := s.popIngress) (by rw [hpop]; exact hsplit)
        (by rw [hpop]; exact hbefore) hlive' href
      rw [endWith, hfind]
      dsimp only
      rw [hlive']
      dsimp only
      rw [(Exchange.mayEnd_iff e).2 hmay]
      rfl
    have hnext := hexec.trans (hhead.onRequest_eq hread (endWith act))
    rw [howner] at hnext
    have hcounted : (s.popIngress.drainEmptied (act i e s.popIngress)).link.counted = s.popIngress.link.counted := by
      rw [State.drainEmptied_counted]
      rcases hwhich with hc | hc
      · rw [hend hc]; simp
      · rw [hcancel hc]; simp
    obtain ⟨hingress, hreplies⟩ := hhead.answered hcounted ⟨code, .done, .none⟩
    refine ⟨_, hnext, hingress, hreplies, ?_⟩
    rcases hwhich with rfl | rfl
    · obtain rfl := hend rfl
      obtain ⟨⟨hresults, hrecord⟩, ⟨horder, hlists⟩, hno⟩ := State.ended hlive'
      rw [hpop] at hresults hrecord horder hlists hno ⊢
      generalize (s.setLink (s.poppedLink rest)).closeFrom ((s.setLink (s.poppedLink rest)).decideResult i .cancelled []) = v at *
      refine ⟨horder, hlists, fun hdrain => (hno hdrain).1, fun _ => ⟨hresults, hrecord, fun hdrain => ?_⟩, Instr.noConfusion⟩
      have h := (hno hdrain).2
      exact ⟨h.record, h.others, h.results, h.order, h.free, h.outstanding, h.ready, h.traces, h.count, h.wait⟩
    · obtain rfl := hcancel rfl
      obtain ⟨⟨hfree, hrecord⟩, ⟨horder, hlists⟩, hno⟩ := State.cancelled s.popIngress i e
      rw [hpop] at hfree hrecord horder hlists hno ⊢
      generalize (s.setLink (s.poppedLink rest)).closeFrom ((((s.setLink (s.poppedLink rest)).detach i).leavePair i e).freeSlot i) = v at *
      exact ⟨horder, hlists, fun hdrain => (hno hdrain).1, Instr.noConfusion, fun _ => ⟨hfree, hrecord, fun hdrain => (hno hdrain).2⟩⟩

end Sys2Proof.Machine

namespace Sys2Proof.Machine
open Sys2Proof

/-! ### O41: re-placements -/

section
variable {s t u w : State} {i j : Slot} {e x : Exchange} {p q : PortId} {a : Word32} {y : Nat}

/-- A fold over slots that changes the record of the slot at hand alone, and changes it once. -/
theorem foldl_record_once {f : State → Slot → State} {g : SlotRecord → SlotRecord} {inv : State → Prop} (hinv : ∀ u j, inv u → inv (f u j))
    (hother : ∀ u (i j : Slot), j ≠ i → (f u i).record j = u.record j) (hself : ∀ u i, inv u → (f u i).record i = g (u.record i))
    (honce : ∀ r, g (g r) = g r) (l : List Slot) (s : State) (hs : inv s) (i : Slot) :
    (l.foldl f s).record i = if i ∈ l then g (s.record i) else s.record i := by
  induction l generalizing s with
  | nil => rw [List.foldl_nil, if_neg List.not_mem_nil]
  | cons j l ih =>
    rw [List.foldl_cons, ih _ (hinv s j hs)]
    by_cases hij : i = j
    · subst hij
      rw [hself s i hs, honce, if_pos List.mem_cons_self, ite_self]
    · rw [hother s j i hij]
      exact if_congr (by simp [hij]) rfl rfl

/-- A HELD exchange returned to a pair that has been given port q (R34, R99). -/
def Exchange.returned (q : PortId) (deadline now : Time) (x : Exchange) : Exchange :=
  match x.phase with
  | .held .trace _ => { x with traces := x.traces + 1, phase := .tracing q deadline now }
  | .held action _ => { x with phase := .waiting action }
  | _ => x

/-- A WAITING exchange held with its pair unplaced (R100). -/
def Exchange.heldBack (deadline : Time) (x : Exchange) : Exchange :=
  match x.phase with
  | .waiting action => { x with phase := .held action deadline }
  | _ => x

/-- A slot's record with its exchange changed. -/
def SlotRecord.mapLive (f : Exchange → Exchange) (r : SlotRecord) : SlotRecord := ⟨r.generation, r.live.map f⟩

theorem SlotRecord.mapLive_once {f : Exchange → Exchange} (h : ∀ x, f (f x) = f x) (r : SlotRecord) : (r.mapLive f).mapLive f = r.mapLive f := by
  cases r with
  | mk g live => cases live <;> simp [SlotRecord.mapLive, h]

theorem Exchange.returned_once (q : PortId) (deadline now : Time) (x : Exchange) :
    (x.returned q deadline now).returned q deadline now = x.returned q deadline now := by
  obtain ⟨_, _, _, _, _, _, _, _, phase⟩ := x
  cases phase with
  | held action _ => cases action <;> rfl
  | _ => rfl

theorem Exchange.heldBack_once (deadline : Time) (x : Exchange) : (x.heldBack deadline).heldBack deadline = x.heldBack deadline := by
  obtain ⟨_, _, _, _, _, _, _, _, phase⟩ := x
  cases phase <;> rfl

theorem State.record_of_live_some (h : s.live i = some x) : s.record i = ⟨(s.record i).generation, some x⟩ := by
  have hlive : (s.record i).live = some x := h
  rw [← hlive]

theorem SlotRecord.mapLive_congr {f g : Exchange → Exchange} {r : SlotRecord} (h : ∀ x, r.live = some x → f x = g x) :
    r.mapLive f = r.mapLive g := by
  unfold SlotRecord.mapLive
  cases hlive : r.live with
  | none => rfl
  | some x => rw [Option.map_some, Option.map_some, h x hlive]

theorem SlotRecord.mapLive_id (r : SlotRecord) : r.mapLive id = r := by
  unfold SlotRecord.mapLive
  rw [Option.map_id]
  rfl

theorem State.record_returnOne (u : State) (q : PortId) (i : Slot) : (State.returnOne q u i).record i =
    (u.record i).mapLive (Exchange.returned q (u.timeBase + ms (traceWait u.config)) u.timeBase) := by
  have hphase : ∀ {ph x}, u.phase i = some ph → (u.record i).live = some x → x.phase = ph := fun {ph x} hph hx => by
    rw [State.phase, State.live, hx] at hph
    exact Option.some.inj hph
  unfold State.returnOne
  split
  next d hp =>
    refine (State.record_modLive u i i _).trans ((if_pos rfl).trans (SlotRecord.mapLive_congr fun x hx => ?_))
    unfold Exchange.returned
    rw [hphase hp hx]
  next action d hne hp =>
    refine (State.record_modLive u i i _).trans ((if_pos rfl).trans (SlotRecord.mapLive_congr fun x hx => ?_))
    unfold Exchange.returned
    rw [hphase hp hx]
    cases action with
    | trace => exact (hne rfl).elim
    | _ => rfl
  next hnotrace hno =>
    refine (SlotRecord.mapLive_id _).symm.trans (SlotRecord.mapLive_congr fun x hx => ?_)
    have hp : u.phase i = some x.phase := by rw [State.phase, State.live, hx]; rfl
    unfold Exchange.returned
    cases hph : x.phase with
    | held action d => exact (hno action d (hph ▸ hp)).elim
    | _ => rfl

theorem State.record_holdOne (u : State) (i : Slot) : (u.holdOne i).record i =
    (u.record i).mapLive (Exchange.heldBack (u.timeBase + ms (holdLimit u.config))) := by
  unfold State.holdOne
  split
  next action hp =>
    have hrecord : (u.hold i action).record i = (u.setPhase i (u.heldNow action)).record i :=
      congrFun (State.record_of_ex (u.hold_ex i action).1) i
    refine hrecord.trans ((State.record_modLive u i i _).trans ((if_pos rfl).trans (SlotRecord.mapLive_congr fun x hx => ?_)))
    have hph : x.phase = .waiting action := by
      rw [State.phase, State.live, hx] at hp
      exact Option.some.inj hp
    unfold Exchange.heldBack
    rw [hph]
    rfl
  next hno =>
    refine (SlotRecord.mapLive_id _).symm.trans (SlotRecord.mapLive_congr fun x hx => ?_)
    have hp : u.phase i = some x.phase := by rw [State.phase, State.live, hx]; rfl
    unfold Exchange.heldBack
    cases hph : x.phase with
    | waiting action => exact (hno action (hph ▸ hp)).elim
    | _ => rfl

/-- What a re-placement's work on one exchange leaves of the rest of the table. -/
structure State.Steady (s t : State) : Prop where
  order : t.ex.order = s.ex.order
  results : t.ex.results = s.ex.results
  free : t.ex.free = s.ex.free
  cache : t.cache = s.cache
  config : t.config = s.config
  time : t.timeBase = s.timeBase
  outstanding : ∀ q, s.outstanding q ⊆ t.outstanding q
  bares : baresOf t.ports = baresOf s.ports

theorem State.Steady.refl (s : State) : s.Steady s := ⟨rfl, rfl, rfl, rfl, rfl, rfl, fun _ _ => id, rfl⟩

theorem State.Steady.trans (h : s.Steady t) (g : t.Steady u) : s.Steady u :=
  ⟨g.order.trans h.order, g.results.trans h.results, g.free.trans h.free, g.cache.trans h.cache, g.config.trans h.config,
    g.time.trans h.time, fun q _ hx => g.outstanding q (h.outstanding q hx), g.bares.trans h.bares⟩

theorem State.steady_setPhase (s : State) (i : Slot) (ph : Phase) : s.Steady (s.setPhase i ph) :=
  ⟨rfl, rfl, rfl, rfl, rfl, rfl, fun _ _ => id, rfl⟩

theorem State.steady_returnOne (s : State) (q : PortId) (i : Slot) : s.Steady (State.returnOne q s i) := by
  unfold State.returnOne
  split
  · refine ⟨rfl, rfl, rfl, rfl, rfl, rfl, fun r => ?_, by simp⟩
    rw [State.outstanding_placeTrace]
    exact List.subset_append_left _ _
  · exact s.steady_setPhase i _
  · exact .refl s

theorem State.steady_holdOne (s : State) (i : Slot) : s.Steady (s.holdOne i) := by
  unfold State.holdOne
  split
  next action _ =>
    obtain ⟨hex, hports⟩ := s.hold_ex i action
    refine ⟨by rw [hex]; rfl, by rw [hex]; rfl, by rw [hex]; rfl, by simp, by simp, by simp, fun r => ?_, by rw [hports]⟩
    have hout : (s.hold i action).outstanding r = s.outstanding r := by
      rw [State.outstanding, hex]
      rfl
    rw [hout]
    exact fun _ => id
  next => exact .refl s

theorem State.steady_foldl {f : State → Slot → State} (h : ∀ (u : State) (i : Slot), u.Steady (f u i)) (l : List Slot) (s : State) : s.Steady (l.foldl f s) :=
  List.foldlRecOn (motive := fun u => s.Steady u) l f (.refl s) fun u hu i _ => hu.trans (h u i)

theorem State.steady_returnHeld (s : State) (a : Word32) (y : Nat) (q : PortId) : s.Steady (s.returnHeld a y q) := by
  rw [State.returnHeld_eq]
  exact State.steady_foldl (fun u i => u.steady_returnOne q i) _ s

theorem State.steady_holdWaiting (s : State) (a : Word32) (y : Nat) : s.Steady (s.holdWaiting a y) := by
  rw [State.holdWaiting_eq]
  exact State.steady_foldl State.steady_holdOne _ s

theorem State.record_returnHeld (s : State) (a : Word32) (y : Nat) (q : PortId) (i : Slot) : (s.returnHeld a y q).record i =
    if i ∈ s.pairOrder a y then (s.record i).mapLive (Exchange.returned q (s.timeBase + ms (traceWait s.config)) s.timeBase)
    else s.record i := by
  rw [State.returnHeld_eq]
  refine foldl_record_once (inv := s.Steady) (fun u j hu => hu.trans (u.steady_returnOne q j)) (fun u _ _ hj => u.returnOne_record_other q hj)
    (fun u j hu => ?_) (SlotRecord.mapLive_once (Exchange.returned_once q _ _)) _ s (.refl s) i
  rw [State.record_returnOne, hu.time, hu.config]

theorem State.record_holdWaiting (s : State) (a : Word32) (y : Nat) (i : Slot) : (s.holdWaiting a y).record i =
    if i ∈ s.pairOrder a y then (s.record i).mapLive (Exchange.heldBack (s.timeBase + ms (holdLimit s.config))) else s.record i := by
  rw [State.holdWaiting_eq]
  refine foldl_record_once (inv := s.Steady) (fun u j hu => hu.trans (u.steady_holdOne j)) (fun u _ _ hj => u.holdOne_record_other hj)
    (fun u j hu => ?_) (SlotRecord.mapLive_once (Exchange.heldBack_once _)) _ s (.refl s) i
  rw [State.record_holdOne, hu.time, hu.config]

theorem State.replacePair_of_some (h : s.selectFor a y = some q) :
    s.replacePair a y = (s.placePair a y (some q)).returnHeld a y q := by
  rw [State.replacePair, h]

theorem State.replacePair_of_none (h : s.selectFor a y = none) : s.replacePair a y = (s.placePair a y none).holdWaiting a y := by
  rw [State.replacePair, h]

/-- The tree pointers of a set. -/
def CacheSet.pointers (x : CacheSet) : Bool × Bool × Bool := (x.root, x.left, x.right)

theorem State.pointers_modEntryOf (s : State) (a : Word32) (y : Nat) (f : Entry → Entry) (k : Fin 64) :
    ((s.modEntryOf a y f).cacheSet k).pointers = (s.cacheSet k).pointers := by
  unfold State.modEntryOf
  split
  · rw [State.setEntryAt, State.cacheSet_setCacheSet]
    split
    next heq => rw [← heq]; rfl
    next => rfl
  · rfl

end

/-- Settles O41: the entry by its place, and the records by a fold over the pair's order list. -/
theorem replacementsMoveThePair : Obligations.ReplacementsMoveThePair := by
  intro s a y pl e hpl he named t inPair
  have hpair : ∀ i, i ∈ s.pairOrder a y ↔ inPair i := s.mem_pairOrder a y
  have hplaced : ∀ q pl', (s.placePair a y q).entryAt pl' =
      if pl' = pl then some { e with port := q, quiesceMark := false, verdictMark := none } else s.entryAt pl' := fun q pl' => by
    rw [State.entryAt_placePair, hpl]
    by_cases h : pl' = pl
    · subst h
      rw [if_pos rfl, if_pos rfl, he]
      rfl
    · rw [if_neg fun hc => h (Option.some.inj hc).symm, if_neg h]
  obtain ⟨u, hsteady, hcache, hrecord, ht⟩ : ∃ u : State, u.Steady t ∧ (∀ pl', u.entryAt pl' =
      if pl' = pl then some { e with port := named, quiesceMark := false, verdictMark := none } else s.entryAt pl') ∧
      (∀ i, t.record i = if i ∈ s.pairOrder a y then (s.record i).mapLive (match named with
        | some q => Exchange.returned q (s.timeBase + ms (traceWait s.config)) s.timeBase
        | none => Exchange.heldBack (s.timeBase + ms (holdLimit s.config))) else s.record i) ∧
      u.ex = s.ex ∧ ∀ k, (u.cacheSet k).pointers = (s.cacheSet k).pointers := by
    cases hnamed : named with
    | some q =>
      rw [show t = _ from State.replacePair_of_some hnamed]
      refine ⟨_, State.steady_returnHeld _ a y q, hplaced (some q), fun i => ?_, by simp, fun k => s.pointers_modEntryOf a y _ k⟩
      have hrecord := State.record_returnHeld (s.placePair a y (some q)) a y q i
      rw [State.record_of_ex (t := s.placePair a y (some q)) (s := s) (by simp)] at hrecord
      simpa [State.pairOrder] using hrecord
    | none =>
      rw [show t = _ from State.replacePair_of_none hnamed]
      refine ⟨_, State.steady_holdWaiting _ a y, hplaced none, fun i => ?_, by simp, fun k => s.pointers_modEntryOf a y _ k⟩
      have hrecord := State.record_holdWaiting (s.placePair a y none) a y i
      rw [State.record_of_ex (t := s.placePair a y none) (s := s) (by simp)] at hrecord
      simpa [State.pairOrder] using hrecord
  obtain ⟨hex, hpointers⟩ := ht
  have hentry : t.entryAt = u.entryAt := State.entryAt_congr hsteady.cache
  refine ⟨?_, fun pl' hne => ?_, fun k => ?_, fun i hno => ?_, ?_, ?_, ?_, fun i x hi hx => ?_⟩
  · rw [hentry, hcache, if_pos rfl]
  · rw [hentry, hcache, if_neg hne]
  · have hk := hpointers k
    rw [← State.cacheSet_congr hsteady.cache] at hk
    injection hk with hroot hrest
    injection hrest with hleft hright
    exact ⟨hroot, hleft, hright⟩
  · rw [hrecord, if_neg fun h => hno ((hpair i).1 h)]
  · rw [hsteady.order, hex]
  · rw [hsteady.results, hex]
  · rw [hsteady.free, hex]
  · rw [hrecord, if_pos ((hpair i).2 hi), State.record_of_live_some hx]
    refine congrArg (fun o => (⟨_, some o⟩ : SlotRecord)) ?_
    obtain ⟨_, _, _, _, _, _, _, _, phase⟩ := x
    cases named with
    | some q =>
      cases phase with
      | held action _ => cases action <;> rfl
      | _ => rfl
    | none => cases phase <;> rfl

end Sys2Proof.Machine

namespace Sys2Proof.Machine
open Sys2Proof

/-! ### O42: the walk -/

section
variable {s t u w : State} {i j : Slot} {e x : Exchange} {p q : PortId} {a : Word32} {y : Nat}

theorem State.Moved.congr (h : s.Moved t i e) (hex : u.ex = t.ex) (hports : u.ports = t.ports) : s.Moved u i e := by
  have hrecord : u.record = t.record := State.record_of_ex hex
  exact ⟨by rw [hrecord]; exact h.record, fun j hj => by rw [hrecord]; exact h.others j hj, by rw [hex]; exact h.order,
    by rw [hex]; exact h.results, by rw [hex]; exact h.free, fun q => by rw [State.outstanding, hex]; exact h.outstanding q,
    fun q => by rw [State.port_congr hports]; exact h.traces q⟩

/-- The exchange of the walk keeps its record when its pair is re-placed. -/
theorem State.steady_replacePair (s : State) (a : Word32) (y : Nat) : ∃ u : State, u.Steady (s.replacePair a y) ∧ u.ex = s.ex ∧
    u.ports = s.ports ∧ u.routes = s.routes := by
  cases h : s.selectFor a y with
  | some q =>
    rw [State.replacePair_of_some h]
    exact ⟨_, State.steady_returnHeld _ a y q, by simp, by simp, by simp⟩
  | none =>
    rw [State.replacePair_of_none h]
    exact ⟨_, State.steady_holdWaiting _ a y, by simp, by simp, by simp⟩

theorem State.outstanding_replacePair (s : State) (a : Word32) (y : Nat) (q : PortId) :
    s.outstanding q ⊆ (s.replacePair a y).outstanding q := by
  obtain ⟨u, hsteady, hex, -, -⟩ := s.steady_replacePair a y
  have hout : s.outstanding q = u.outstanding q := by rw [State.outstanding, State.outstanding, hex]
  rw [hout]
  exact hsteady.outstanding q

theorem State.bares_replacePair (s : State) (a : Word32) (y : Nat) : baresOf (s.replacePair a y).ports = baresOf s.ports := by
  obtain ⟨u, hsteady, -, hports, -⟩ := s.steady_replacePair a y
  rw [hsteady.bares, hports]

/-- The pair of the walk's exchange re-placed, where it names the port and the port is not eligible (R98). -/
def State.unplacedFrom (s : State) (p : PortId) (e : Exchange) : State :=
  if s.pairPort e.session e.target = some p ∧ s.eligible e.target p = false then s.replacePair e.session e.target else s

theorem State.unplacedFrom_frame (s : State) (p : PortId) (e : Exchange) : (s.unplacedFrom p e).timeBase = s.timeBase ∧
    (s.unplacedFrom p e).config = s.config ∧ baresOf (s.unplacedFrom p e).ports = baresOf s.ports ∧
    ∀ q, s.outstanding q ⊆ (s.unplacedFrom p e).outstanding q := by
  unfold State.unplacedFrom
  split
  · exact ⟨by simp, by simp, s.bares_replacePair _ _, s.outstanding_replacePair _ _⟩
  · exact ⟨rfl, rfl, rfl, fun _ _ => id⟩

theorem State.unplacedFrom_live (hlive : s.live i = some x) (hport : x.phase.port.isSome = true) (p : PortId) (e : Exchange) :
    (s.unplacedFrom p e).live i = some x := by
  unfold State.unplacedFrom
  split
  · exact (congrArg SlotRecord.live (s.replacePair_record_of_port _ _ hlive hport)).trans hlive
  · exact hlive

theorem State.walkOne_eq (s : State) (p : PortId) (i : Slot) (e : Exchange) : s.walkOne p i e = match e.phase with
    | .sent _ _ _ => ((s.unplacedFrom p e).detach i).moveSent p i e
    | .tracing _ _ _ => (s.unplacedFrom p e).unanswered p i
    | _ => s.unplacedFrom p e := by
  unfold State.walkOne State.unplacedFrom
  simp only [Bool.not_eq_true'] <;> cases e.phase <;> rfl

/-- What becomes of an exchange that is met SENT (R101, R102). -/
theorem State.InHand.moveSent (h : s.InHand (s.detach i) i e) (p : PortId) :
    let w := (s.detach i).moveSent p i e
    let traced := fun q => { e with traces := e.traces + 1, phase := .tracing q (s.timeBase + ms (traceWait s.config)) s.timeBase }
    let choose := match (s.detach i).traceChoice e.target (some p) with
      | some q => s.Moved w i (traced q)
      | none => s.Moved w i { e with phase := s.heldNow .trace }
    if e.cls = 1#8 then s.Moved w i { e with phase :=
      if (s.pairPort e.session e.target).isSome then .waiting .resend else s.heldNow .resend }
    else if traceLimit s.config ≤ e.traces then s.Decided w i e .inDoubt []
    else match s.pairPort e.session e.target with
      | none => if Config.tracesUnplaced = true then choose else s.Moved w i { e with phase := s.heldNow .trace }
      | some q => if s.eligible e.target q = true then s.Moved w i (traced q) else choose := by
  have hheld : ∀ action, s.Moved ((s.detach i).hold i action) i { e with phase := s.heldNow action } := fun action => by
    have hmoved := (h.same.hold h.off h.live action).toMoved
    rwa [h.heldNow] at hmoved
  have hchoose := h.traceOrHold (some p)
  have hpair : (s.detach i).pairPort e.session e.target = s.pairPort e.session e.target := rfl
  intro w traced choose
  have hchosen : w = (s.detach i).traceOrHold i e.target (some p) → choose := fun hw => by
    unfold choose
    rw [hw]
    exact hchoose
  by_cases hcls : e.cls = 1#8
  · have hrep : e.repeatable = true := beq_iff_eq.2 hcls
    rw [if_pos hcls]
    cases hnamed : s.pairPort e.session e.target with
    | some q =>
      have hw : w = (s.detach i).setPhase i (.waiting .resend) := by
        unfold w State.moveSent
        rw [hrep, hpair, hnamed]
      rw [hw]
      exact (h.same.setPhase h.off h.live rfl).toMoved
    | none =>
      have hw : w = (s.detach i).hold i .resend := by
        unfold w State.moveSent
        rw [hrep, hpair, hnamed]
      rw [hw]
      exact hheld .resend
  · have hrep : e.repeatable = false := beq_eq_false_iff_ne.2 hcls
    rw [if_neg hcls]
    have hw : w = if traceLimit s.config ≤ e.traces then (s.detach i).decideResult i .inDoubt []
        else match s.pairPort e.session e.target with
          | none => if Config.tracesUnplaced then (s.detach i).traceOrHold i e.target (some p) else (s.detach i).hold i .trace
          | some q => if s.eligible e.target q then (s.detach i).placeTrace i q else (s.detach i).traceOrHold i e.target (some p) := by
      unfold w State.moveSent
      rw [hrep, hpair, h.same.config]
      have helig : ∀ q, (s.detach i).eligible e.target q = s.eligible e.target q := fun q => by
        exact State.eligible_eq_of (by rw [State.port_detach]) rfl
      simp only [helig] <;> cases s.pairPort e.session e.target <;> rfl
    split
    next hlimit =>
      rw [hw, if_pos hlimit]
      exact h.same.decided h.live h.placed h.wait .inDoubt []
    next hlimit =>
      rw [if_neg hlimit] at hw
      cases hnamed : s.pairPort e.session e.target with
      | none =>
        rw [hnamed] at hw
        dsimp only at hw ⊢
        split
        next hfree => exact hchosen (hw.trans (if_pos hfree))
        next hfree =>
          rw [hw, if_neg hfree]
          exact hheld .trace
      | some q =>
        rw [hnamed] at hw
        dsimp only at hw ⊢
        split
        next helig =>
          have hmoved := (h.same.placeTrace h.off h.live q).toMoved
          rw [h.tracedOn] at hmoved
          rw [hw, if_pos helig]
          exact hmoved
        next helig => exact hchosen (hw.trans (if_neg helig))

theorem State.SameBut.handsOn_moveSent (h : s.SameBut u i) (hoff : u.Off i) (hlive : u.live i = some e)
    (hfaces : facesOf u.ports = facesOf s.ports) (p : PortId) : s.HandsOn (u.moveSent p i e) i := by
  have hhold : ∀ action, s.HandsOn (u.hold i action) i := fun action =>
    (h.hold hoff hlive action).handsOn_off (by simp [hfaces]) rfl
  have htrace := h.handsOn_traceOrHold hoff hlive hfaces e.target (some p)
  unfold State.moveSent
  split
  · exact (h.setPhase hoff hlive rfl).handsOn_off hfaces rfl
  · exact hhold .resend
  · split
    · exact h.handsOn_decideResult hlive hfaces .inDoubt []
    · split
      · split
        · exact htrace
        · exact hhold .trace
      · split
        next helig => exact h.handsOn_placeTrace hoff hlive hfaces helig
        next => exact htrace

/-- A walk step's work on its exchange, seen from the others once the pair has been re-placed. -/
theorem State.handsOn_walkOne (hlive : s.live i = some e) (hport : e.phase.port.isSome = true) (p : PortId) :
    (s.unplacedFrom p e).HandsOn (s.walkOne p i e) i := by
  have hmoved := State.unplacedFrom_live hlive hport p e
  rw [State.walkOne_eq]
  cases hph : e.phase with
  | sent q d at_ => exact (State.sameBut_detach _ i).handsOn_moveSent (State.off_detach _ i) hmoved (facesOf_of_bares (by simp)) p
  | tracing q d at_ => exact (State.sameBut_detach _ i).handsOn_seekFate (State.off_detach _ i) (facesOf_of_bares (by simp)) (some p)
  | _ => rw [hph] at hport; cases hport

/-- The exchange taken up by a walk step: the oldest that qualifies. -/
theorem State.qualifies_iff {scope : LossScope} {horizon : Time} (hport : s.slotPort j = some p) :
    s.qualifies scope horizon j = true ↔ ∃ x at_, s.live j = some x ∧ scope.covers x.target = true ∧ isBefore at_ horizon = true ∧
      ∃ d, x.phase = .sent p d at_ ∨ x.phase = .tracing p d at_ := by
  have hphase : ∀ x, s.live j = some x → x.phase.port = some p := fun x hx => by
    rw [State.slotPort, State.phase_of_live hx] at hport
    exact hport
  unfold State.qualifies
  rw [Option.any_eq_true]
  constructor
  · rintro ⟨x, hx, htest⟩
    obtain ⟨hcovers, hentered⟩ := Bool.and_eq_true_iff.1 htest
    obtain ⟨at_, hat, hbefore⟩ := (Option.any_eq_true _ _).1 hentered
    refine ⟨x, at_, hx, hcovers, hbefore, ?_⟩
    have hq := hphase x hx
    unfold Exchange.enteredAt at hat
    cases hph : x.phase with
    | sent q d at2 =>
      rw [hph] at hat hq
      cases hat
      cases hq
      exact ⟨d, .inl rfl⟩
    | tracing q d at2 =>
      rw [hph] at hat hq
      cases hat
      cases hq
      exact ⟨d, .inr rfl⟩
    | _ => rw [hph] at hq; cases hq
  · rintro ⟨x, at_, hx, hcovers, hbefore, d, hph⟩
    refine ⟨x, hx, Bool.and_eq_true_iff.2 ⟨hcovers, (Option.any_eq_true _ _).2 ⟨at_, ?_, hbefore⟩⟩⟩
    rcases hph with hph | hph <;> rw [Exchange.enteredAt, hph]

theorem State.execWalkStep_eq {scope : LossScope} {horizon : Time} (hup : s.station.state ≠ .loading)
    (hcurrent : s.failover.current = some (.walk scope horizon)) : exec .walkStep s =
      match (s.outstanding scope.portOf).find? (s.qualifies scope horizon) with
      | none => .next (s.beginEntries scope horizon)
      | some i =>
        match s.live i with
        | none => .next s
        | some e => .next (s.closeFrom (s.walkOne scope.portOf i e)) := by
  simp only [exec, execWalkStep, if_neg hup, hcurrent] <;> rfl

end

/-- Settles O42. -/
theorem walksMoveTheOldest : Obligations.WalksMoveTheOldest := by
  intro s scope horizon hr hup hcurrent p qualifies
  have hexec := State.execWalkStep_eq hup hcurrent
  refine ⟨fun before i after e hsplit hports hqual hbefore hlive hno => ?_, fun hnone => ?_⟩
  · have hmem : i ∈ s.outstanding p := hsplit ▸ List.mem_append_right _ List.mem_cons_self
    have hfind : (s.outstanding p).find? (s.qualifies scope horizon) = some i := by
      rw [hsplit, List.find?_append, List.find?_eq_none.2, Option.none_or, List.find?_cons_of_pos]
      · exact (State.qualifies_iff (hports i hmem)).2 hqual
      · intro j hj hc
        exact hbefore j hj ((State.qualifies_iff (hports j (hsplit ▸ List.mem_append_left _ hj))).1 hc)
    rw [hfind] at hexec
    dsimp only at hexec
    rw [hlive] at hexec
    dsimp only at hexec
    intro moved traced choose
    have hport : e.phase.port.isSome = true := by
      obtain ⟨x, at_, hx, -, -, d, hph⟩ := hqual
      cases hlive.symm.trans hx
      rcases hph with hph | hph <;> rw [hph] <;> rfl
    have hmoved : moved = s.unplacedFrom p e := rfl
    obtain ⟨htime, hconfig, hbares, hsub⟩ := s.unplacedFrom_frame p e
    have hlivem := State.unplacedFrom_live hlive hport p e
    have hhands := State.handsOn_walkOne hlive hport p
    have hclose : s.closeFrom (s.walkOne p i e) = (s.walkOne p i e).close := hno.closeFrom
      (fun q => (State.portState_of_faces hhands.faces q).trans (State.states_of_bares hbares q))
      (fun q j hj hmem => ((hhands.beside j hj).outstanding q).2 (hsub q hmem)) (by simp)
    rw [hclose] at hexec
    have hcurrent' : (s.walkOne p i e).close.failover.current = s.failover.current :=
      ((s.onward_walkOne p i e).trans (State.onward_close _)).offered.current
    refine ⟨_, hexec, hcurrent', by simp, by simp, by simp, ?_⟩
    have hhand : moved.InHand (moved.detach i) i e := .of_detach hlivem
    have hheld : moved.heldNow = s.heldNow := funext fun action => by rw [State.heldNow, State.heldNow, hmoved, htime, hconfig]
    have hchoose : ∀ w : State, (match (moved.detach i).traceChoice e.target (some p) with
        | some q => moved.Moved w i
            { e with traces := e.traces + 1, phase := .tracing q (moved.timeBase + ms (traceWait moved.config)) moved.timeBase }
        | none => moved.Moved w i { e with phase := moved.heldNow .trace }) → choose w.close := fun w hw => by
      rw [hheld, hmoved, htime, hconfig] at hw
      unfold choose
      cases hchoice : (moved.detach i).traceChoice e.target (some p) with
      | some q => rw [hmoved] at hchoice; rw [hchoice] at hw; exact hw.close
      | none => rw [hmoved] at hchoice; rw [hchoice] at hw; exact hw.close
    have hwalk := s.walkOne_eq p i e
    cases hph : e.phase with
    | sent q d at_ =>
      rw [hph] at hwalk
      dsimp only at hwalk ⊢
      rw [hwalk]
      have hspec := hhand.moveSent p
      dsimp only at hspec
      by_cases hcls : e.cls = 1#8
      · rw [if_pos hcls] at hspec ⊢
        rw [hheld] at hspec
        exact hspec.close
      · rw [if_neg hcls] at hspec ⊢
        by_cases hlimit : traceLimit s.config ≤ e.traces
        · rw [show moved.config = s.config from hconfig, if_pos hlimit] at hspec
          rw [if_pos hlimit]
          exact hspec.close
        · rw [if_neg (show ¬ traceLimit moved.config ≤ e.traces by rwa [show moved.config = s.config from hconfig])] at hspec
          rw [if_neg hlimit]
          cases hnamed : moved.pairPort e.session e.target with
          | none =>
            rw [hnamed] at hspec
            dsimp only at hspec ⊢
            split
            next hfree =>
              rw [if_pos hfree] at hspec
              exact hchoose _ hspec
            next hfree =>
              rw [if_neg hfree, hheld] at hspec
              exact hspec.close
          | some q =>
            rw [hnamed] at hspec
            dsimp only at hspec ⊢
            split
            next helig =>
              rw [if_pos helig, show moved.config = s.config from hconfig, show moved.timeBase = s.timeBase from htime] at hspec
              exact hspec.close
            next helig =>
              rw [if_neg helig] at hspec
              exact hchoose _ hspec
    | tracing q d at_ =>
      rw [hph] at hwalk
      dsimp only at hwalk ⊢
      rw [hwalk]
      have hfate := hhand.fate (some p)
      by_cases hlimit : traceLimit s.config ≤ e.traces
      · rw [show moved.config = s.config from hconfig, if_pos hlimit] at hfate
        rw [if_pos hlimit]
        exact hfate.close
      · rw [if_neg (show ¬ traceLimit moved.config ≤ e.traces by rwa [show moved.config = s.config from hconfig])] at hfate
        rw [if_neg hlimit]
        exact hchoose _ hfate
    | _ => rw [hph] at hport; cases hport
  · have hfind : (s.outstanding p).find? (s.qualifies scope horizon) = none := List.find?_eq_none.2 fun j hj hc =>
      (hnone j hj).2 ((State.qualifies_iff (hnone j hj).1).1 hc)
    rw [hfind] at hexec
    dsimp only at hexec
    intro todo
    have hrefs : s.refsAt (s.placesWith (fun x => x.port == some scope.portOf && scope.covers x.target)) = todo := by
      rw [State.refsAt_placesWith]
      simp only [Bool.and_eq_true, beq_iff_eq]
      rfl
    rw [hexec, State.beginEntries, hrefs]
    cases todo with
    | nil => exact ⟨fun h => absurd rfl h, fun _ => rfl⟩
    | cons r l => exact ⟨fun _ => rfl, fun h => by cases h⟩

end Sys2Proof.Machine

namespace Sys2Proof.Machine
open Sys2Proof

/-! ### O43: the entries phase and the end of a loss item -/

section
variable {s t u w : State} {i j : Slot} {e x : Exchange} {p q : PortId} {a : Word32} {y : Nat}

theorem State.finishLoss_cell (s : State) (y : Nat) (p : PortId) : s.finishLoss (.cell y p) = s.setCurrent none := rfl

/-- The cells that a port-loss item hands on at its end (R104). -/
def State.handedOn (s : State) (p : PortId) : List Nat :=
  allTargets.filter (fun y => (s.cell y p).state == .lost &&
    (s.carries y p || !(s.placesWith (fun e => e.port == some p && e.target == y)).isEmpty))

theorem State.finishLoss_port (s : State) (p : PortId) : s.finishLoss (.port p) = if (s.port p).state = .up
    then (s.handedOn p).foldl (fun u y => u.offerCellLoss y p) (s.setCurrent none) else s.setCurrent none := rfl

theorem State.offerCellLoss_steady (s : State) (y : Nat) (p : PortId) : (s.offerCellLoss y p).failover.current = s.failover.current ∧
    (s.offerCellLoss y p).portLossStands p = s.portLossStands p ∧ ∀ x ∈ s.failover.work, x ∈ (s.offerCellLoss y p).failover.work := by
  unfold State.offerCellLoss
  split
  · exact ⟨rfl, rfl, fun _ => id⟩
  · refine ⟨rfl, ?_, fun x hx => List.mem_append_left _ hx⟩
    simp [State.portLossStands, State.setWork, State.setFailover, WorkItem.isPortLoss]

/-- Cell-loss items offered one after another while no port-loss item for the port stands. -/
theorem State.foldl_offerCellLoss (l : List Nat) (s : State) (h : s.portLossStands p = false) :
    (∀ x ∈ s.failover.work, x ∈ (l.foldl (fun u y => u.offerCellLoss y p) s).failover.work) ∧
    ∀ y ∈ l, .cellLoss y p ∈ (l.foldl (fun u y => u.offerCellLoss y p) s).failover.work := by
  induction l generalizing s with
  | nil => exact ⟨fun _ => id, fun _ hy => nomatch hy⟩
  | cons z l ih =>
    obtain ⟨-, hstands, hwork⟩ := s.offerCellLoss_steady z p
    rw [h] at hstands
    obtain ⟨hkept, hoffered⟩ := ih (s.offerCellLoss z p) hstands
    refine ⟨fun x hx => hkept x (hwork x hx), fun y hy => ?_⟩
    rcases List.mem_cons.1 hy with rfl | hy
    · rcases s.mem_offerCellLoss y p with hmem | hmem
      · exact hkept _ hmem
      · rw [hstands] at hmem
        cases hmem
    · exact hoffered y hy

theorem State.mem_handedOn (hy : y ∈ allTargets) (hlost : (s.cell y p).state = .lost)
    (hwork : s.carries y p = true ∨ ∃ pl e, s.entryAt pl = some e ∧ e.port = some p ∧ e.target = y) : y ∈ s.handedOn p := by
  refine List.mem_filter.2 ⟨hy, ?_⟩
  rw [hlost, Bool.and_eq_true]
  refine ⟨rfl, ?_⟩
  rw [Bool.or_eq_true]
  refine hwork.imp id fun ⟨pl, e, he, hport, htarget⟩ => ?_
  have hmem : pl ∈ s.placesWith (fun e => e.port == some p && e.target == y) :=
    List.mem_filter.2 ⟨mem_allPlaces pl, by simp [he, hport, htarget]⟩
  rw [Bool.not_eq_true', List.isEmpty_eq_false_iff]
  exact List.ne_nil_of_mem hmem

/-- What a step of an item's phase leaves, its work on the element done. -/
theorem State.close_phase (u v : State) (hex : v.ex = u.ex) (hcache : v.cache = u.cache) (hports : v.ports = u.ports) :
    v.close.ex.slots = u.ex.slots ∧ v.close.ex.outstanding = u.ex.outstanding ∧ v.close.ex.order = u.ex.order ∧ v.close.cache = u.cache ∧
    v.close.ports = u.ports ∧ v.close.failover = v.failover := by
  have htable := v.sameTable_close
  refine ⟨?_, ?_, ?_, by simp [hcache], by simp [hports], by simp⟩
  · rw [htable.slots, hex]
  · rw [htable.outstanding, hex]
  · rw [htable.order, hex]

/-- An entry that the entries phase acts on (R103). -/
def State.concerned (s : State) (p : PortId) (r : EntryRef) (e : Entry) : Prop :=
  s.entryAt r.place = some e ∧ e.session = r.session ∧ e.target = r.target ∧ e.port = some p ∧
    ¬((s.port p).state = .up ∧ (s.cell e.target p).state = .good)

theorem State.handleEntry_of_not_concerned {r : EntryRef} (h : ∀ e, ¬ s.concerned p r e) : s.handleEntry p r = s := by
  unfold State.handleEntry
  cases he : s.entryAt r.place with
  | none => rfl
  | some e =>
    dsimp only
    rw [if_pos]
    by_contra hc
    rw [Bool.or_eq_true, Bool.or_eq_true, not_or, not_or, Bool.not_eq_true', Bool.not_eq_false, bne_iff_ne, ne_eq, not_not] at hc
    obtain ⟨⟨hholds, hport⟩, helig⟩ := hc
    obtain ⟨hsession, htarget⟩ := (e.holds_iff _ _).1 hholds
    exact h e ⟨he, hsession, htarget, hport, fun hup => helig ((s.eligible_iff _ _).2 hup)⟩

theorem State.handleEntry_of_concerned {r : EntryRef} {e : Entry} (h : s.concerned p r e) :
    s.handleEntry p r = if e.count = 0 then s.setEntryAt r.place none else s.replacePair e.session e.target := by
  obtain ⟨he, hsession, htarget, hport, hnot⟩ := h
  have helig : s.eligible e.target p = false := Bool.eq_false_iff.2 fun hc => hnot ((s.eligible_iff _ _).1 hc)
  unfold State.handleEntry
  rw [he]
  dsimp only
  rw [if_neg]
  · simp [Entry.isIdle]
  · rw [(e.holds_iff _ _).2 ⟨hsession, htarget⟩, hport, helig]
    simp

theorem State.execEntriesStep_eq {scope : LossScope} {horizon : Time} {r : EntryRef} {rest : List EntryRef}
    (hup : s.station.state ≠ .loading) (hcurrent : s.failover.current = some (.entries scope horizon (r :: rest))) :
    exec .entriesStep s = .next (if rest = [] then (s.handleEntry scope.portOf r).finishLoss scope
      else (s.handleEntry scope.portOf r).setCurrent (some (.entries scope horizon rest))).close := by
  simp only [exec, execEntriesStep, if_neg hup, hcurrent]
  cases rest <;> rfl

end

/-- Settles O43. -/
theorem entriesAreHandledOneByOne : Obligations.EntriesAreHandledOneByOne := by
  refine ⟨fun s scope horizon r rest hr hup hcurrent => ?_, fun s p y => ⟨rfl, ?_, fun b hb => ?_, fun hdown => ?_, fun hupp hy hlost hwork hnone => ?_⟩⟩
  · intro p concerned acts
    have hacts : ∀ u, s.handleEntry p r = u → acts u := fun u hu => by
      have hexec := State.execEntriesStep_eq hup hcurrent
      rw [show s.handleEntry scope.portOf r = u from hu] at hexec
      refine ⟨_, hexec, ?_⟩
      by_cases hrest : rest = []
      · rw [if_pos hrest]
        obtain ⟨hslots, hout, horder, hcache, hports, hfailover⟩ := State.close_phase u (u.finishLoss scope) (by simp) (by simp) (by simp)
        exact ⟨hslots, hout, horder, hcache, hports, by rw [if_pos hrest]; exact hfailover⟩
      · rw [if_neg hrest]
        obtain ⟨hslots, hout, horder, hcache, hports, hfailover⟩ := State.close_phase u
          (u.setCurrent (some (.entries scope horizon rest))) rfl rfl rfl
        exact ⟨hslots, hout, horder, hcache, hports, by rw [if_neg hrest]; exact hfailover⟩
    refine ⟨fun hno => hacts s (State.handleEntry_of_not_concerned hno), fun e he hzero => hacts _ ?_, fun e he hpos => hacts _ ?_⟩
    · rw [State.handleEntry_of_concerned he, if_pos hzero]
    · rw [State.handleEntry_of_concerned he, if_neg (Nat.pos_iff_ne_zero.1 hpos)]
  · rw [State.finishLoss_port]
    split
    · exact foldl_keeps (·.failover.current) _ (fun u z => (u.offerCellLoss_steady z p).1) _ _
    · rfl
  · cases b <;> first | exact absurd (by decide) hb | simp only [State.sameIn, State.finishLoss_frame]
  · rw [State.finishLoss_port, if_neg hdown]
    rfl
  · rw [State.finishLoss_port, if_pos hupp]
    have hstands : (s.setCurrent none).portLossStands p = false := Bool.eq_false_iff.2 fun hc => by
      rcases ((s.setCurrent none).portLossStands_iff p).1 hc with ⟨horizon, hmem⟩ | hcurrent
      · exact hnone horizon hmem
      · cases hcurrent
    exact (State.foldl_offerCellLoss (s.handedOn p) _ hstands).2 y (State.mem_handedOn hy hlost hwork)

end Sys2Proof.Machine

namespace Sys2Proof.Machine
open Sys2Proof

/-! ### O44: placement items -/

section
variable {s t u w : State} {i j : Slot} {e x : Exchange} {p q : PortId} {a : Word32} {y : Nat}

/-- An entry that the pair phase acts on (R105). -/
def State.unplacedStill (s : State) (r : EntryRef) (e : Entry) : Prop :=
  s.entryAt r.place = some e ∧ e.session = r.session ∧ e.target = r.target ∧ 0 < e.count ∧ e.port = none

theorem State.handlePair_of_passed {r : EntryRef} (h : ∀ e, ¬ s.unplacedStill r e) : s.handlePair r = s := by
  unfold State.handlePair
  cases he : s.entryAt r.place with
  | none => rfl
  | some e =>
    dsimp only
    rw [if_neg]
    intro hc
    rw [Bool.and_eq_true, Bool.and_eq_true, Entry.holds_iff, Entry.isPinned, decide_eq_true_eq, Option.isNone_iff_eq_none] at hc
    obtain ⟨⟨⟨hsession, htarget⟩, hpos⟩, hport⟩ := hc
    exact h e ⟨he, hsession, htarget, hpos, hport⟩

theorem State.handlePair_of_unplaced {r : EntryRef} {e : Entry} (h : s.unplacedStill r e) : s.handlePair r =
    if (s.selectFor e.session e.target).isSome then s.replacePair e.session e.target else s := by
  obtain ⟨he, hsession, htarget, hpos, hport⟩ := h
  unfold State.handlePair
  rw [he]
  dsimp only
  rw [if_pos]
  · cases hnamed : s.selectFor e.session e.target with
    | some q => exact (State.replacePair_of_some hnamed).symm
    | none => rfl
  · rw [(e.holds_iff _ _).2 ⟨hsession, htarget⟩, hport, Entry.isPinned, decide_eq_true hpos]
    rfl

theorem State.execPairPhaseStep_eq {r : EntryRef} {rest : List EntryRef} (hup : s.station.state ≠ .loading)
    (hcurrent : s.failover.current = some (.pairs y (r :: rest))) :
    exec .pairPhaseStep s = .next (if rest = [] then (s.handlePair r).beginHeld y
      else (s.handlePair r).setCurrent (some (.pairs y rest))).close := by
  simp only [exec, execPairPhaseStep, if_neg hup, hcurrent]
  cases rest <;> rfl

theorem State.execHeldPhaseStep_eq {r : HeldRef} {rest : List HeldRef} (hup : s.station.state ≠ .loading)
    (hcurrent : s.failover.current = some (.held y (r :: rest))) :
    exec .heldPhaseStep s = .next ((s.handleHeld r).setCurrent (if rest = [] then none else some (.held y rest))).close := by
  simp only [exec, execHeldPhaseStep, if_neg hup, hcurrent]
  cases rest <;> rfl

theorem State.handleHeld_of_passed {r : HeldRef} (h : (s.record r.slot).generation ≠ r.generation ∨
    (∀ e action d, s.live r.slot = some e → e.phase ≠ .held action d) ∨
    (∀ e, s.live r.slot = some e → s.pairPort e.session e.target = none)) : s.handleHeld r = s := by
  unfold State.handleHeld
  cases hlive : s.live r.slot with
  | none => rfl
  | some e =>
    dsimp only
    split
    next hc =>
      obtain ⟨hgen, hnamed⟩ := hc
      rcases h with h | h | h
      · exact absurd hgen h
      · cases hph : e.phase with
        | held action d => exact absurd hph (h e action d hlive)
        | _ => rfl
      · rw [h e hlive] at hnamed
        cases hnamed
    next => rfl

theorem State.handleHeld_of_held {r : HeldRef} {action : Action} {d : Time} (hlive : s.live r.slot = some e) (hph : e.phase = .held action d)
    (hgen : (s.record r.slot).generation = r.generation) (hnamed : (s.pairPort e.session e.target).isSome = true) :
    s.handleHeld r = if action = .trace then match s.traceChoice e.target none with
        | some q => s.placeTrace r.slot q
        | none => s
      else s.setPhase r.slot (.waiting action) := by
  unfold State.handleHeld
  rw [hlive]
  dsimp only
  rw [if_pos ⟨hgen, hnamed⟩, hph]
  cases action <;> rfl

theorem State.record_placeTrace (s : State) (i j : Slot) (q : PortId) : (s.placeTrace i q).record j =
    if i = j then ⟨(s.record i).generation, (s.live i).map (fun e => s.tracedOn q e)⟩ else s.record j :=
  State.record_modLive s i j _

theorem State.handleHeld_record_other (s : State) (r : HeldRef) (hj : j ≠ r.slot) : (s.handleHeld r).record j = s.record j := by
  unfold State.handleHeld
  (repeat' split) <;> first
    | rfl
    | exact (s.record_placeTrace r.slot j _).trans (if_neg (Ne.symm hj))
    | exact (s.record_setPhase r.slot j _).trans (if_neg (Ne.symm hj))

end

/-- Settles O44. -/
theorem placementItemsPlaceAndReturn : Obligations.PlacementItemsPlaceAndReturn := by
  refine ⟨fun s y r rest hr hup hcurrent => ?_, fun s y r rest hr hup hcurrent => ?_⟩
  · intro concerned acts
    have hacts : ∀ u, s.handlePair r = u → acts u := fun u hu => by
      have hexec := State.execPairPhaseStep_eq hup hcurrent
      rw [hu] at hexec
      refine ⟨_, hexec, ?_⟩
      by_cases hrest : rest = []
      · rw [if_pos hrest]
        obtain ⟨hslots, hout, horder, hcache, hports, hfailover⟩ := State.close_phase u (u.beginHeld y) (by simp) (by simp) (by simp)
        exact ⟨hslots, hout, horder, hcache, hports, by rw [if_pos hrest]; exact hfailover⟩
      · rw [if_neg hrest]
        obtain ⟨hslots, hout, horder, hcache, hports, hfailover⟩ := State.close_phase u (u.setCurrent (some (.pairs y rest))) rfl rfl rfl
        exact ⟨hslots, hout, horder, hcache, hports, by rw [if_neg hrest]; exact hfailover⟩
    refine ⟨fun hno => hacts s (State.handlePair_of_passed hno), fun e he hnone => hacts s ?_, fun e he hsome => hacts _ ?_⟩
    · rw [State.handlePair_of_unplaced he, hnone]
      rfl
    · rw [State.handlePair_of_unplaced he, if_pos hsome]
  · have hexec := State.execHeldPhaseStep_eq hup hcurrent
    have hcache : (s.handleHeld r).cache = s.cache := by simp
    have hfailover : (s.handleHeld r).failover = s.failover := by simp
    have hothers := fun j => s.handleHeld_record_other r (j := j)
    generalize hv : s.handleHeld r = v at *
    have hrecord : ((v.setCurrent (if rest = [] then none else some (.held y rest))).close).record = v.record := State.record_close _
    refine ⟨_, hexec, by simpa [State.setCurrent] using hcache, ?_, fun j hj => by rw [hrecord]; exact hothers j hj,
      fun e action d hlive hph hgen hnamed => ?_, fun hno => ?_⟩
    · simp only [State.close_frame]
      rw [← hfailover]
      rfl
    · have hheld := State.handleHeld_of_held hlive hph hgen hnamed
      rw [hv] at hheld
      refine ⟨fun haction => ?_, fun q haction hchoice => ?_, fun haction hchoice => ?_⟩
      · rw [hrecord, hheld, if_neg haction, State.record_setPhase, if_pos rfl, hgen, hlive]
        rfl
      · rw [if_pos haction, hchoice] at hheld
        refine ⟨?_, ?_, ?_⟩
        · rw [hrecord, hheld, State.record_placeTrace, if_pos rfl, hgen, hlive]
          rfl
        · rw [State.outstanding_close]
          refine (congrArg (fun u : State => u.outstanding q) hheld).trans ?_
          dsimp only
          rw [State.outstanding_placeTrace, if_pos rfl]
        · rw [State.port_close]
          refine (congrArg (fun u : State => (u.port q).pendingTraces) hheld).trans ?_
          dsimp only
          rw [← tracesOf_eq, State.tracesOf_placeTrace, if_pos rfl]
          rfl
      · rw [hrecord, hheld, if_pos haction, hchoice]
    · rw [hrecord, ← hv, State.handleHeld_of_passed hno]

end Sys2Proof.Machine

namespace Sys2Proof.Machine
open Sys2Proof

/-! ### O32: drained ports -/

section
variable {s t u v w : State} {i j : Slot} {e x : Exchange} {p q r : PortId} {a : Word32} {y : Nat}

/-- A port that is no cable before and after is none for the counts (R134). -/
theorem State.countAllCables_of_port (hbefore : (s.port r).state = .quiescing) (hafter : (t.port r).state = .off)
    (hothers : ∀ q, q ≠ r → (t.port q).state = (s.port q).state ∧ (t.port q).identity = (s.port q).identity ∧
      ∀ y, t.cell y q = s.cell y q) : t.countAllCables = s.countAllCables := by
  have hnone : ∀ (x : State) sw, ((x.port r).state = .quiescing ∨ (x.port r).state = .off) → x.isCable sw r = false := fun x sw hx => by
    rcases hx with hx | hx <;> rw [State.isCable, hx] <;> exact Bool.and_false _
  have hcable : ∀ sw q, t.isCable sw q = s.isCable sw q := fun sw q => by
    by_cases hq : q = r
    · subst hq
      rw [hnone t sw (.inr hafter), hnone s sw (.inl hbefore)]
    · obtain ⟨hstate, hidentity, -⟩ := hothers q hq
      simp only [State.isCable, hstate, hidentity]
  have hlost : ∀ sw q, (t.isCable sw q && t.cableLost q) = (s.isCable sw q && s.cableLost q) := fun sw q => by
    by_cases hq : q = r
    · subst hq
      rw [hnone t sw (.inr hafter), hnone s sw (.inl hbefore), Bool.false_and, Bool.false_and]
    · obtain ⟨hstate, -, hcell⟩ := hothers q hq
      simp only [hcable, State.cableLost, State.allCellsLost, hstate, hcell]
  simp only [State.countAllCables, State.countCables, hlost]
  simp only [show t.isCable = s.isCable from funext fun sw => funext (hcable sw)]

/-- What the drain of another port leaves of what port q's step has left (R72). -/
structure State.After (v w : State) (q : PortId) : Prop where
  port : w.port q = { v.port q with pendingTraces := (w.port q).pendingTraces }
  outstanding : w.outstanding q ⊆ v.outstanding q
  cells : ∀ y, w.cell y q = v.cell y q
  offered : v.Offered w
  raises : v.Raises w 0
  link : w.link.counted = v.link.counted
  reported : ∀ s : State, v.timeBase = s.timeBase → s.reportedBy v → s.reportedBy w

theorem State.After.refl (v : State) (q : PortId) : v.After v q :=
  ⟨rfl, fun _ => id, fun _ => rfl, .refl v, .refl v 0, rfl, fun _ _ => id⟩

theorem State.After.trans (h : v.After w q) (g : w.After u q) : v.After u q where
  port := by rw [g.port, h.port]
  outstanding _ hx := h.outstanding (g.outstanding hx)
  cells y := (g.cells y).trans (h.cells y)
  offered := h.offered.trans g.offered
  raises := h.raises.trans g.raises
  link := g.link.trans h.link
  reported s htime hs := g.reported s (h.offered.time.trans htime) (h.reported s htime hs)

/-- The port's own part of a drain, before its report. -/
theorem State.drain_eq (v : State) (r : PortId) : v.drain r =
    ((v.dropLink r .off).modPort r (fun x => { x with retryBar := false })).announce r .quiescing .drained := rfl

theorem State.port_drain (v : State) (r z : PortId) :
    (v.drain r).port z = if r = z then { Port.cut .off (v.port r) with retryBar := false } else (v.dropLink r .off).port z := by
  rw [State.drain_eq, State.port_congr (State.announce_frame _ _ _ _).2.2.2.2.2.1, State.port_modPort,
    (v.unlinked_dropLink r (entered := .off) (by simp)).port]

theorem State.port_drain_other (v : State) {r z : PortId} (hz : z ≠ r) :
    (v.drain r).port z = { v.port z with pendingTraces := ((v.drain r).port z).pendingTraces } := by
  rw [State.port_drain, if_neg (Ne.symm hz)]
  exact (v.unlinked_dropLink r (entered := .off) (by simp)).others z hz

theorem State.cell_drain_other (v : State) {r z : PortId} (hz : z ≠ r) (y : Nat) : (v.drain r).cell y z = v.cell y z := by
  have hcell : (v.drain r).cell = (v.dropLink r .off).cell := State.cell_congr (by simp [State.drain_eq])
  rw [hcell, (v.unlinked_dropLink r (entered := .off) (by simp)).cells, if_neg fun h => hz h.1]

/-- The drain of a port changes no count of cables: a report after it finds what the one before it found (R134, R142). -/
theorem State.reportedBy.drain (h : s.reportedBy v) (htime : v.timeBase = s.timeBase) (hquiet : (v.port r).state = .quiescing) :
    s.reportedBy (v.drain r) := by
  have hcount : (v.drain r).countAllCables = v.countAllCables := State.countAllCables_of_port hquiet
    (by rw [State.port_drain, if_pos rfl]; rfl) fun z hz =>
      ⟨by rw [v.port_drain_other hz], by rw [v.port_drain_other hz], fun y => v.cell_drain_other hz y⟩
  rw [State.drain_eq]
  refine State.reportedBy.again (t := v) (u := ((v.dropLink r .off).modPort r _).raise _) h (by simp) (by simp) ?_ (by simpa using htime)
  exact (State.countAllCables_congr (by simp [State.drain_eq]) (by simp [State.drain_eq])).symm.trans hcount

theorem State.after_drain (hrq : r ≠ q) (hoff : (v.port q).state ≠ .up) (hquiet : (v.port r).state = .quiescing) :
    v.After (v.drain r) q := by
  refine ⟨v.port_drain_other (Ne.symm hrq), ?_, fun y => v.cell_drain_other (Ne.symm hrq) y, (v.onward_drain r).offered, ?_, by simp,
    fun s htime hs => hs.drain htime hquiet⟩
  · have hout : (v.drain r).outstanding q = (v.dropLink r .off).outstanding q := by
      rw [State.outstanding, State.outstanding, State.drain_eq]
      simp
    rw [hout]
    exact (v.unlinked_dropLink r (entered := .off) (by simp)).shrinks q hoff
  · exact (State.Raises.of_eq (t := (v.dropLink r .off).modPort r _) (by simp) 0).trans (State.raises_announce _ _ _ _)

theorem HostLink.notices_of_counted {l m : HostLink} (h : l.counted = m.counted) : l.notices = m.notices := congrArg (·.notices) h

/-- An event has emptied the outstanding list of port q and of no other port (R72), and has reported no cable. -/
structure State.Empties (s u : State) (q : PortId) : Prop where
  faces : facesOf u.ports = facesOf s.ports
  reach : (u.port q).reach = (s.port q).reach
  before : s.outstanding q ≠ []
  out : u.outstanding q = []
  stays : ∀ r, r ≠ q → u.outstanding r = [] → s.outstanding r = []
  unreported : s.Unreported u
  raises : s.Raises u 1
  notices : u.link.notices = s.link.notices

/-- What the drain of a port is stated to leave at the end of the step (R72). -/
def State.drained (s t : State) (q : PortId) : Prop :=
  (t.port q).state = .off ∧ (t.port q).credits = 0 ∧ (t.port q).silenceEnds = none ∧ t.outstanding q = [] ∧ t.ready q = [] ∧
    .portLoss q s.timeBase ∈ t.failover.work ∧ (∀ x ∈ allTargets, x ∈ (s.port q).reach → (t.cell x q).state = .lost) ∧
    s.reportedBy t ∧ s.notifies t (.portChange q .quiescing .off (s.port q).identity .drained)

theorem State.ready_close_of_not_up (h : (s.port q).state ≠ .up) : s.close.ready q = [] := by
  have hno : ∀ i, (s.sendable i == some q) = false := fun i => beq_eq_false_iff_ne.2 fun hc => by
    obtain ⟨e, -, -, -, hup, -⟩ := (s.sendable_iff i q).1 hc
    exact h hup
  rw [State.ready_close]
  simp [hno]

theorem State.Empties.emptiedSince (h : s.Empties u q) (hquiet : (s.port q).state = .quiescing) (r : PortId) :
    s.emptiedSince u r = decide (r = q) := by
  unfold State.emptiedSince
  by_cases hr : r = q
  · subst hr
    rw [State.portState_of_faces h.faces, hquiet, h.out, List.isEmpty_eq_false_iff.2 h.before, decide_eq_true rfl]
    rfl
  · rw [decide_eq_false hr, Bool.and_assoc, Bool.and_eq_false_iff]
    refine .inr (Bool.eq_false_iff.2 fun hc => ?_)
    obtain ⟨hempty, hwas⟩ := Bool.and_eq_true_iff.1 hc
    rw [h.stays r hr (List.isEmpty_iff.1 hempty)] at hwas
    cases hwas

theorem allPorts_split (q : PortId) : ∃ l m, allPorts = l ++ q :: m ∧ q ∉ l ∧ q ∉ m :=
  match q with
  | 0 => ⟨[], [1, 2, 3], by decide⟩
  | 1 => ⟨[0], [2, 3], by decide⟩
  | 2 => ⟨[0, 1], [3], by decide⟩
  | 3 => ⟨[0, 1, 2], [], by decide⟩

/-- The drains at the close of the step: port q's first, and others after it if the hand-back of a trace has emptied them. -/
theorem State.Empties.drainEmptied (h : s.Empties u q) (hquiet : (s.port q).state = .quiescing) :
    (u.drain q).After (s.drainEmptied u) q := by
  have hoff : ((u.drain q).port q).state = .off := by
    rw [State.port_drain, if_pos rfl]
    rfl
  have hbefore : ∀ l : List PortId, q ∉ l → l.foldl (fun v r => if s.emptiedSince v r then v.drain r else v) u = u := fun l hl => by
    induction l with
    | nil => rfl
    | cons r l ih =>
      rw [List.mem_cons, not_or] at hl
      rw [List.foldl_cons, h.emptiedSince hquiet, decide_eq_false (Ne.symm hl.1), if_neg (by simp), ih hl.2]
  have hafter : ∀ (l : List PortId), q ∉ l → (u.drain q).After (l.foldl (fun v r => if s.emptiedSince v r then v.drain r else v) (u.drain q)) q :=
    fun l hl => List.foldlRecOn (motive := fun v => (u.drain q).After v q) l _ (.refl _ q) fun v hv r hr => by
      split
      next hemptied =>
        have hrq : r ≠ q := fun heq => hl (heq ▸ hr)
        have hrquiet : (v.port r).state = .quiescing := by
          unfold State.emptiedSince at hemptied
          rw [Bool.and_eq_true, Bool.and_eq_true] at hemptied
          exact beq_iff_eq.1 hemptied.1.1
        exact hv.trans (State.after_drain hrq (by rw [hv.port, hoff]; simp) hrquiet)
      next => exact hv
  obtain ⟨l, m, hlm, hl, hm⟩ := allPorts_split q
  unfold State.drainEmptied
  rw [hlm, List.foldl_append, hbefore l hl, List.foldl_cons, h.emptiedSince hquiet, decide_eq_true rfl, if_pos rfl]
  exact hafter m hm

theorem State.Empties.drained (h : s.Empties u q) (hr : s.raised = []) (hquiet : (s.port q).state = .quiescing) :
    s.drained (s.closeFrom u) q := by
  have hcut := u.unlinked_dropLink q (entered := .off) (by simp)
  have hafter := h.drainEmptied hquiet
  have hquietu : (u.port q).state ≠ .up := by
    rw [State.portState_of_faces h.faces, hquiet]
    simp
  have hidentity : (u.port q).identity = (s.port q).identity := congrArg Prod.fst (congrFun h.faces q)
  have hport : (u.drain q).port q = { Port.cut .off (u.port q) with retryBar := false } := by
    rw [State.port_drain, if_pos rfl]
  have hcell : (u.drain q).cell = (u.dropLink q .off).cell := State.cell_congr (by simp [State.drain_eq])
  have hout : (u.drain q).outstanding q ⊆ u.outstanding q := by
    have heq : (u.drain q).outstanding q = (u.dropLink q .off).outstanding q := by
      rw [State.outstanding, State.outstanding, State.drain_eq]
      simp
    rw [heq]
    exact hcut.shrinks q hquietu
  have hreport : s.reportedBy (u.drain q) := by
    rw [State.drain_eq]
    exact ((h.unreported.trans hcut.unreported).trans (State.unreported_modPort _ q _)).announce q _ _
  have hnotice := State.notifies_announced (s := s) (u := s.drainEmptied u)
    (x := (u.dropLink q .off).modPort q (fun x => { x with retryBar := false })) (p := q) (left := .quiescing) (cause := .drained) hr
    (h.raises.trans (.of_eq (by simp) 1)) (by simpa using h.unreported.time) (by rw [← State.drain_eq]; exact hafter.raises)
    ((HostLink.notices_of_counted (by simp)).trans h.notices)
  rw [State.port_modPort_self, hcut.port] at hnotice
  have hfinal : (s.drainEmptied u).port q = { (u.drain q).port q with pendingTraces := ((s.drainEmptied u).port q).pendingTraces } := hafter.port
  rw [hport] at hfinal
  have hstate : ((s.drainEmptied u).port q).state = .off := by rw [hfinal]; rfl
  unfold State.closeFrom State.drained
  rw [State.port_close, State.outstanding_close, State.cell_close]
  refine ⟨hstate, by rw [hfinal]; rfl, by rw [hfinal]; rfl, ?_, State.ready_close_of_not_up (by rw [hstate]; simp), ?_, fun x hx hreach => ?_,
    (hafter.reported s ?_ hreport).close, ?_⟩
  · exact List.subset_nil.1 fun x hx => h.out ▸ hout (hafter.outstanding hx)
  · obtain ⟨later, hmem, hlater⟩ := hafter.offered.portLoss q u.timeBase (by
      have hwork : (u.drain q).failover = (u.dropLink q .off).failover := by simp [State.drain_eq]
      rw [hwork]
      exact hcut.item)
    have htime : later = s.timeBase := hlater.elim (fun heq => heq.trans h.unreported.time) fun heq => by
      rw [heq]
      simpa [State.drain_eq] using h.unreported.time
    rw [← htime]
    simpa using hmem
  · rw [hafter.cells, hcell, hcut.cells, if_pos ⟨rfl, by rw [h.reach]; exact hreach, hx⟩]
    rfl
  · simpa [State.drain_eq] using h.unreported.time
  · rw [← hidentity]
    exact hnotice

/-- The event's own exchange leaves the port that it empties (R72). -/
theorem State.HandsOn.empties {kept : Option PortId} (h : s.HandsOn u i kept) (hkept : some q ≠ kept) (hquiet : (s.port q).state = .quiescing)
    (hout : s.outstanding q = [i]) (honly : ∀ r, r ≠ q → i ∉ s.outstanding r) (hreach : (u.port q).reach = (s.port q).reach)
    (hfrom : s.Unreported u) (hraises : s.Raises u 1) (hnotices : u.link.notices = s.link.notices) : s.Empties u q where
  faces := h.faces
  reach := hreach
  before := by rw [hout]; simp
  out := List.subset_nil.1 fun x hx => by
    have hmem := h.outstanding q (by rw [hquiet]; simp) hkept hx
    rw [hout] at hmem
    simp at hmem
  stays r hr hnone := List.eq_nil_iff_forall_not_mem.2 fun j hj => by
    have hji : j ≠ i := fun heq => honly r hr (heq ▸ hj)
    have hmem := ((h.beside j hji).outstanding r).2 hj
    rw [hnone] at hmem
    cases hmem
  unreported := hfrom
  raises := hraises
  notices := hnotices

end

end Sys2Proof.Machine

namespace Sys2Proof.Machine
open Sys2Proof

/-! #### The events that empty a list -/

section
variable {s t u v w : State} {i j : Slot} {e x : Exchange} {p q r : PortId} {a : Word32} {y : Nat} {kept : Option PortId}

theorem tagSlot_tagOf (i : Slot) (g : Fin 128) : tagSlot (tagOf i g) = i := by
  have hi := i.isLt
  have hg := g.isLt
  refine Fin.ext ?_
  simp only [tagSlot, tagOf, BitVec.toNat_ofNat]
  omega

theorem tagGeneration_tagOf (i : Slot) (g : Fin 128) : tagGeneration (tagOf i g) = g.val := by
  have hi := i.isLt
  have hg := g.isLt
  simp only [tagGeneration, tagOf, BitVec.toNat_ofNat]
  omega

theorem State.HandsOn.neutral (h : s.HandsOn u i kept) (hex : v.ex = u.ex) (hports : v.ports = u.ports) : s.HandsOn v i kept := by
  have hout : ∀ q, v.outstanding q = u.outstanding q := fun q => by rw [State.outstanding, State.outstanding, hex]
  refine ⟨fun j hj => (h.beside j hj).trans (.of_eq hex fun q => by rw [State.port_congr hports]), fun q hq hkept => ?_, fun q hq => ?_, ?_⟩
  · rw [hout]
    exact h.outstanding q hq hkept
  · rw [State.port_congr hports]
    exact h.traces q hq
  · rw [hports]
    exact h.faces

theorem State.SameBut.handsOn_dueResend (h : s.SameBut u i) (hoff : u.Off i) (hlive : u.live i = some e)
    (hfaces : facesOf u.ports = facesOf s.ports) (x : Exchange) : s.HandsOn (u.dueResend i x) i := by
  unfold State.dueResend
  split
  · split
    · exact (h.setPhase hoff hlive rfl).handsOn_off hfaces rfl
    · exact (h.hold hoff hlive .resend).handsOn_off (by simp [hfaces]) rfl
  · exact h.handsOn_decideResult hlive hfaces .timedOut []

theorem State.SameBut.handsOn_becomeSent (h : s.SameBut u i) (hoff : u.Off i) (hlive : u.live i = some e)
    (hfaces : facesOf u.ports = facesOf s.ports) (p : PortId) : s.HandsOn (u.becomeSent i p) i (some p) :=
  (h.becomeSent hoff hlive p).handsOn (by simp [hfaces]) (fun q _ hkept heq => hkept (by
    injection heq with hpq
    rw [hpq])) fun q d at_ heq => by cases heq

theorem State.outstanding_replacePair_of_not_up (s : State) (a : Word32) (y : Nat) (hq : (s.port q).state ≠ .up) :
    (s.replacePair a y).outstanding q = s.outstanding q := by
  have hplaced : ∀ named, (s.placePair a y named).outstanding q = s.outstanding q := fun named => by
    rw [State.outstanding, State.outstanding, (State.placePair_frame _ _ _ _).2.2.2.2.1]
  cases hnamed : s.selectFor a y with
  | some r =>
    have hne : r ≠ q := fun heq => hq (heq ▸ State.eligible_up (State.eligible_of_selectFor hnamed))
    rw [State.replacePair_of_some hnamed, State.returnHeld_eq, ← hplaced (some r)]
    refine foldl_keeps (·.outstanding q) _ (fun u i => ?_) _ _
    unfold State.returnOne
    split
    · rw [State.outstanding_placeTrace, if_neg hne, List.append_nil]
    · rfl
    · rfl
  | none =>
    rw [State.replacePair_of_none hnamed, State.holdWaiting_eq, ← hplaced none]
    refine foldl_keeps (·.outstanding q) _ (fun u i => ?_) _ _
    unfold State.holdOne
    split
    next action _ =>
      rw [State.outstanding, (u.hold_ex i action).1]
      rfl
    next => rfl

theorem State.outstanding_unplacedFrom (s : State) (p : PortId) (e : Exchange) (hq : (s.port q).state ≠ .up) :
    (s.unplacedFrom p e).outstanding q = s.outstanding q := by
  unfold State.unplacedFrom
  split
  · exact s.outstanding_replacePair_of_not_up _ _ hq
  · rfl

theorem State.reach_of_bares (h : baresOf t.ports = baresOf s.ports) (q : PortId) : (t.port q).reach = (s.port q).reach := by
  rw [State.port_of_bares h]

theorem State.reach_heard (s : State) (p q : PortId) : ((s.heard p).port q).reach = (s.port q).reach := by
  unfold State.heard
  split
  · rw [State.port_modPort]
    split
    next heq => rw [← heq]
    next => rfl
  · rfl

theorem State.unreported_exchangeMiss (hquiet : (s.port q).state = .quiescing) (y : Nat) (since : Time) :
    s.Unreported (s.exchangeMiss y q since) ∧ s.Raises (s.exchangeMiss y q since) 1 ∧
    ((s.exchangeMiss y q since).port q).reach = (s.port q).reach := by
  by_cases hcounts : s.missCounts y q since
  · have hmiss := State.missCounted hcounts.1
    rw [State.exchangeMiss_of_counts hcounts]
    have hreport := hmiss.report
    unfold State.lostnessReported at hreport
    rw [if_neg (by rw [hquiet]; simp)] at hreport
    obtain ⟨l, hl⟩ := hmiss.port q
    exact ⟨⟨hreport.1, hreport.2, by simp, by simp, by simp⟩, hmiss.raises, by rw [hl]⟩
  · rw [State.exchangeMiss_of_not_counts hcounts]
    exact ⟨.refl s, .refl s 1, rfl⟩

/-- What an event must leave for the drain of the port that its exchange leaves (R72). -/
theorem State.Empties.of_outstanding (hquiet : (s.port q).state = .quiescing) (hout : s.outstanding q = [i])
    (honly : ∀ r, r ≠ q → i ∉ s.outstanding r) (hfaces : facesOf u.ports = facesOf s.ports) (hempty : u.outstanding q = [])
    (hothers : ∀ r, ∀ j, j ≠ i → j ∈ s.outstanding r → j ∈ u.outstanding r) (hreach : (u.port q).reach = (s.port q).reach)
    (hfrom : s.Unreported u) (hraises : s.Raises u 1) (hcounted : u.link.counted = s.link.counted) : s.Empties u q where
  faces := hfaces
  reach := hreach
  before := by rw [hout]; simp
  out := hempty
  stays r hr hnone := List.eq_nil_iff_forall_not_mem.2 fun j hj => by
    have hmem := hothers r j (fun heq => honly r hr (heq ▸ hj)) hj
    rw [hnone] at hmem
    cases hmem
  unreported := hfrom
  raises := hraises
  notices := HostLink.notices_of_counted hcounted

/-- A drain that follows the taking of a control request, seen from before it. -/
theorem State.drained_pushReply {f : HostFrame} {rest : List HostFrame} (hhead : s.link.ingress = f :: rest)
    (h : s.popIngress.drained t q) (reply : Reply) : s.drained (t.pushReply reply) q := by
  have hpop := State.popIngress_eq hhead
  rw [hpop] at h
  obtain ⟨hstate, hcredits, hsilence, hout, hready, hwork, hcells, hreport, hnotice⟩ := h
  have hreport' : s.reportedBy t := hreport.before (v := s) ⟨rfl, rfl, rfl, rfl, rfl⟩
  exact ⟨hstate, hcredits, hsilence, hout, hready, hwork, hcells, hreport'.keep rfl rfl (State.countAllCables_congr rfl rfl), hnotice⟩

theorem State.Beside.sub (h : ∀ j, j ≠ i → s.Beside u j) (r : PortId) (j : Slot) (hj : j ≠ i) (hmem : j ∈ s.outstanding r) :
    j ∈ u.outstanding r := ((h j hj).outstanding r).2 hmem

theorem State.HandsOn.out (h : s.HandsOn u i kept) (hkept : some q ≠ kept) (hquiet : (s.port q).state = .quiescing)
    (hout : s.outstanding q = [i]) : u.outstanding q = [] := List.subset_nil.1 fun x hx => by
  have hmem := h.outstanding q (by rw [hquiet]; simp) hkept hx
  rw [hout] at hmem
  simp at hmem

/-- The events that put their exchange where port q does not hold it (R72). -/
theorem State.HandsOn.drained (h : s.HandsOn u i kept) (hkept : some q ≠ kept) (hr : s.raised = [])
    (hquiet : (s.port q).state = .quiescing) (hout : s.outstanding q = [i]) (honly : ∀ r, r ≠ q → i ∉ s.outstanding r)
    (hreach : (u.port q).reach = (s.port q).reach) (hfrom : s.Unreported u) (hraises : s.Raises u 1)
    (hcounted : u.link.counted = s.link.counted) : s.drained (s.closeFrom u) q :=
  (State.Empties.of_outstanding hquiet hout honly h.faces (h.out hkept hquiet hout)
    (fun r j hj hmem => State.Beside.sub h.beside r j hj hmem) hreach hfrom hraises hcounted).drained hr hquiet

theorem State.drained_end (hr : s.raised = []) (hquiet : (s.port q).state = .quiescing) (hout : s.outstanding q = [i])
    (honly : ∀ r, r ≠ q → i ∉ s.outstanding r) (hlive : s.live i = some e) :
    s.drained (s.closeFrom (s.decideResult i .cancelled [])) q :=
  ((State.SameBut.refl s i).handsOn_decideResult hlive rfl .cancelled []).drained (by simp) hr hquiet hout honly
    (State.reach_of_bares (by simp) q) ⟨by simp, by simp, by simp, by simp, by simp⟩ (.of_eq (by simp) 1) (by simp)

theorem State.drained_cancel (hr : s.raised = []) (hquiet : (s.port q).state = .quiescing) (hout : s.outstanding q = [i])
    (honly : ∀ r, r ≠ q → i ∉ s.outstanding r) (e : Exchange) :
    s.drained (s.closeFrom (((s.detach i).leavePair i e).freeSlot i)) q := by
  have hleft := (State.SameBut.refl s i).leavePair e
  obtain ⟨-, -, -, hwout, -⟩ := State.freeSlot_table ((s.detach i).leavePair i e) i
  have hout' : ∀ r, (((s.detach i).leavePair i e).freeSlot i).outstanding r = (s.outstanding r).filter (· != i) := fun r =>
    (hwout r).trans (hleft.outstanding r)
  refine (State.Empties.of_outstanding hquiet hout honly (facesOf_of_bares (by simp)) (by rw [hout', hout]; simp) (fun r j hj hmem => ?_)
    (State.reach_of_bares (by simp) q) ⟨by simp, by simp, by simp, by simp, by simp⟩ (.of_eq (by simp) 1) (by simp)).drained hr hquiet
  rw [hout']
  exact (mem_filter_ne hj).2 hmem

theorem State.drained_walkOne (hr : s.raised = []) (hquiet : (s.port q).state = .quiescing) (hout : s.outstanding q = [i])
    (honly : ∀ r, r ≠ q → i ∉ s.outstanding r) (hlive : s.live i = some e) (hport : e.phase.port.isSome = true) :
    s.drained (s.closeFrom (s.walkOne q i e)) q := by
  obtain ⟨-, -, hbares, hsub⟩ := s.unplacedFrom_frame q e
  have hhands := State.handsOn_walkOne hlive hport q
  have hquietm : ((s.unplacedFrom q e).port q).state = .quiescing := (State.states_of_bares hbares q).trans hquiet
  have hempty := hhands.out (by simp) hquietm ((s.outstanding_unplacedFrom q e (by rw [hquiet]; simp)).trans hout)
  have hreach : ((s.walkOne q i e).port q).reach = (s.port q).reach := by
    have hwalk : baresOf (s.walkOne q i e).ports = baresOf s.ports := by
      rw [State.walkOne_eq]
      cases e.phase <;> simp [hbares]
    exact State.reach_of_bares hwalk q
  exact (State.Empties.of_outstanding hquiet hout honly (hhands.faces.trans (facesOf_of_bares hbares)) hempty
    (fun r j hj hmem => State.Beside.sub hhands.beside r j hj (hsub r hmem)) hreach
    ⟨by simp, by simp, by simp, by simp, by simp⟩ (.of_eq (by simp) 1) (by simp)).drained hr hquiet

end

/-- Settles O32, event by event. -/
theorem drainedPortsEnterOff : Obligations.DrainedPortsEnterOff := by
  intro s q i e hr hquiet hout honly hlive hsent tag drains
  have hslot : tagSlot tag = i := tagSlot_tagOf i _
  have hgeneration : tagGeneration tag = (s.record i).generation.val := tagGeneration_tagOf i _
  have hquietup : (s.port q).state ≠ .up := by rw [hquiet]; simp
  have hreachheard : ∀ p, ((s.heard p).port q).reach = (s.port q).reach := fun p => s.reach_heard p q
  have hliveheard : ∀ p, (s.heard p).live i = some e := fun p => (congrFun (State.live_congr (by simp)) i).trans hlive
  have hfacesheard : ∀ p, facesOf (s.heard p).ports = facesOf s.ports := fun p => by simp
  /- The close of an event that has put its exchange where port q does not hold it. -/
  have hclose : ∀ {c : Instr} {u : State} {kept : Option PortId}, exec c s = .next (s.closeFrom u) → s.HandsOn u i kept → some q ≠ kept →
      (u.port q).reach = (s.port q).reach → s.Unreported u → s.Raises u 1 → u.link.counted = s.link.counted → drains c :=
    fun hexec hhands hkept hreach hfrom hraises hcounted =>
      ⟨_, hexec, hhands.drained hkept hr hquiet hout honly hreach hfrom hraises hcounted⟩
  have hdetached := (s.sameBut_detach i).handsOn_seekFate (s.off_detach i) (facesOf_of_bares (by simp)) (some q)
  have hfinding : ∀ (p : PortId) d at_ (attempt : Byte) (finding : Finding) (payload : List Byte), e.phase = .tracing q d at_ →
      (s.port p).state.linked = true → finding = .done ∨ payload = [] → payload.length ≤ 512 → finding = .done ∨ attempt.toNat = e.attempt →
      ∃ u, exec (.traceReplyArrival p tag attempt finding payload) s = .next (s.closeFrom (u.takeFinding p i e payload finding)) ∧
        s.InHand u i e ∧ (u.port q).reach = (s.port q).reach ∧ s.Unreported u ∧ s.Raises u 1 ∧ u.link.counted = s.link.counted :=
    fun p d at_ attempt finding payload hph hlinked hempty hlen hattempt => by
      have haccepted : s.replyAccepted tag attempt finding = true := (s.replyAccepted_iff tag attempt finding).2
        ⟨e, by rw [hslot]; exact ⟨hlive, hgeneration, ⟨q, d, at_, hph⟩, hattempt⟩⟩
      refine ⟨((s.heard p).detach i).alive e.target p, ?_, .replied hlive p e.target, ?_, ⟨by simp, by simp, by simp, by simp, by simp⟩,
        .of_eq (by simp) 1, by simp⟩
      · have hrun : exec (.traceReplyArrival p tag attempt finding payload) s = execTraceReplyArrival p tag attempt finding payload s := rfl
        rw [hrun, execTraceReplyArrival, if_neg, hlinked, haccepted, hslot, hlive]
        · rfl
        · rw [Bool.or_eq_true, decide_eq_true_eq, Bool.and_eq_true, not_or]
          refine ⟨Nat.not_lt.2 hlen, fun ⟨hne, hsome⟩ => ?_⟩
          rcases hempty with rfl | rfl
          · cases hne
          · cases hsome
      · rw [State.port_congr (State.alive_frame _ _ _).2.2.2.2.2.2.1, State.port_detach, hreachheard]
  refine ⟨fun p attempt payload hopen hlinked hlen => ?_, fun d at_ hph hdue => ?_, fun d at_ hph hdue => ?_,
    fun p d at_ attempt payload hph hlinked hlen => ?_, fun p d at_ attempt hph hlinked hattempt => ?_, fun rest hhead hcls hopen => ?_,
    fun scope horizon d at_ hup hcurrent hscope hph hcovers hbefore => ?_⟩
  · have haccepted : s.answerAccepted tag = true := (s.answerAccepted_iff tag).2 ⟨e, by rw [hslot]; exact ⟨hlive, hgeneration, hsent, hopen⟩⟩
    have hexec : exec (.answerArrival p tag attempt payload) s =
        .next (s.closeFrom (((s.heard p).decideResult i .completed payload).alive e.target p)) := by
      have hrun : exec (.answerArrival p tag attempt payload) s = execAnswerArrival p tag attempt payload s := rfl
      rw [hrun, execAnswerArrival, if_neg (show ¬ Config.payloadLimit < payload.length from Nat.not_lt.2 hlen), hlinked, haccepted, hslot,
        hlive]
      rfl
    exact hclose hexec (((s.sameBut_heard p i).handsOn_decideResult (hliveheard p) (hfacesheard p) .completed payload).neutral
      (by simp) (by simp)) (by simp) (by
        rw [State.port_congr (State.alive_frame _ _ _).2.2.2.2.2.2.1, State.reach_of_bares (State.decideResult_baresOf _ _ _ _), hreachheard])
      ⟨by simp, by simp, by simp, by simp, by simp⟩ (.of_eq (by simp) 1) (by simp)
  · have hexec : exec (.answerWaitExpiry i) s = .next (s.closeFrom (if e.repeatable
        then ((s.detach i).exchangeMiss e.target q at_).dueResend i e else ((s.detach i).exchangeMiss e.target q at_).seekFate i (some q))) := by
      simp only [exec, execAnswerWaitExpiry, hlive, hph, hdue, if_true]
    have hhand := (State.InHand.of_detach hlive).exchangeMiss e.target q at_
    have hmiss := State.unreported_exchangeMiss (s := s.detach i) (q := q) (by rw [State.port_detach]; exact hquiet) e.target at_
    obtain ⟨hfrom, hraises, hreach⟩ := hmiss
    have hcounted : ((s.detach i).exchangeMiss e.target q at_).link.counted = s.link.counted := by simp
    generalize (s.detach i).exchangeMiss e.target q at_ = u at *
    rw [State.port_detach] at hreach
    have hdetach : s.Unreported (s.detach i) := ⟨rfl, rfl, rfl, rfl, rfl⟩
    have hraised : s.Raises (s.detach i) 1 := .of_eq rfl 1
    cases hrep : e.repeatable with
    | true =>
      rw [hrep, if_pos rfl] at hexec
      exact hclose hexec (hhand.same.handsOn_dueResend hhand.off hhand.live hhand.faces e) (by simp)
        ((State.reach_of_bares (by simp) q).trans hreach) ((hdetach.trans hfrom).trans ⟨by simp, by simp, by simp, by simp, by simp⟩)
        ((hraised.trans hraises).trans (.of_eq (by simp) 1)) (by simp [hcounted])
    | false =>
      rw [hrep, if_neg (by simp)] at hexec
      exact hclose hexec (hhand.same.handsOn_seekFate hhand.off hhand.faces (some q)) (by simp)
        ((State.reach_of_bares (by simp) q).trans hreach) ((hdetach.trans hfrom).trans ⟨by simp, by simp, by simp, by simp, by simp⟩)
        ((hraised.trans hraises).trans (.of_eq (by simp) 1)) (by simp [hcounted])
  · have hexec : exec (.traceWaitExpiry i) s = .next (s.closeFrom ((s.detach i).seekFate i (some q))) := by
      simp only [exec, execTraceWaitExpiry, State.phase_of_live hlive, hph, hdue, if_true]
      rfl
    exact hclose hexec hdetached (by simp) (State.reach_of_bares (by simp) q) ⟨by simp, by simp, by simp, by simp, by simp⟩
      (.of_eq (by simp) 1) (by simp)
  · have hreply := hfinding p d at_ attempt .done payload hph hlinked (.inl rfl) hlen (.inl rfl)
    obtain ⟨u, hexec, hhand, hreach, hfrom, hraises, hcounted⟩ := hreply
    exact hclose hexec (hhand.same.handsOn_decideResult hhand.live hhand.faces .completed payload) (by simp)
      ((State.reach_of_bares (by simp) q).trans hreach) (hfrom.trans ⟨by simp, by simp, by simp, by simp, by simp⟩)
      (hraises.trans (.of_eq (by simp) 1)) (by simp [hcounted])
  · refine ⟨?_, fun hne => ?_⟩
    · obtain ⟨u, hexec, hhand, hreach, hfrom, hraises, hcounted⟩ :=
        hfinding p d at_ attempt .notSeen [] hph hlinked (.inr rfl) (Nat.zero_le 512) (.inr hattempt)
      have hzero := hhand.modLive (fun x => { x with traces := 0 })
      exact hclose hexec (hzero.same.handsOn_dueResend hzero.off hzero.live hzero.faces _) (by simp)
        ((State.reach_of_bares (by simp [State.takeFinding]) q).trans hreach)
        (hfrom.trans ⟨by simp, by simp, by simp, by simp, by simp⟩) (hraises.trans (.of_eq (by simp) 1)) (by simp [hcounted])
    · obtain ⟨u, hexec, hhand, hreach, hfrom, hraises, hcounted⟩ :=
        hfinding p d at_ attempt .working [] hph hlinked (.inr rfl) (Nat.zero_le 512) (.inr hattempt)
      exact hclose hexec (hhand.same.handsOn_becomeSent hhand.off hhand.live hhand.faces p) (by simpa using Ne.symm hne)
        ((State.reach_of_bares (by simp [State.takeFinding]) q).trans hreach)
        (hfrom.trans ⟨by simp, by simp, by simp, by simp, by simp⟩) (hraises.trans (.of_eq (by simp) 1)) (by simp [hcounted])
  · obtain ⟨after, horder⟩ : ∃ after, s.ex.order = [] ++ i :: after := by
      cases horder : s.ex.order with
      | nil => rw [horder] at hhead; cases hhead
      | cons j l => rw [horder] at hhead; cases hhead; exact ⟨l, rfl⟩
    have hread := argsHostRef_bytesOf e.hostRef
    /- The owner's step, from the state with the request's frame taken. -/
    have howner : ∀ {code : Byte} {args : List Byte}, s.RequestAtHead code args rest → ∀ act : Slot → Exchange → State → State,
        endWith act e.hostRef s.popIngress = ⟨s.popIngress.closeFrom (act i e s.popIngress), .done, .none⟩ ∧
        s.popIngress.raised = [] ∧ (s.popIngress.port q).state = .quiescing ∧ s.popIngress.outstanding q = [i] ∧
        (∀ r, r ≠ q → i ∉ s.popIngress.outstanding r) ∧ s.popIngress.live i = some e := fun hrequest act => by
      rw [State.popIngress_eq hrequest.head]
      refine ⟨?_, hr, hquiet, hout, honly, hlive⟩
      have hfind : (s.setLink (s.poppedLink rest)).openUnder e.hostRef = some i :=
        State.openUnder_eq (s := s.setLink (s.poppedLink rest)) horder (fun _ hj => nomatch hj) hlive rfl
      have hlive' : (s.setLink (s.poppedLink rest)).live i = some e := hlive
      rw [endWith, hfind]
      dsimp only
      rw [hlive']
      dsimp only
      rw [(Exchange.mayEnd_iff e).2 (.inl hcls)]
      rfl
    refine ⟨fun hrequest => ?_, fun hrequest => ?_⟩
    · obtain ⟨hdone, hr', hquiet', hout', honly', hlive'⟩ := howner hrequest (fun i _ u => u.decideResult i .cancelled [])
      have hexec : exec .endExchange s = _ := hrequest.onRequest_eq hread ownEnd
      rw [ownEnd, hdone] at hexec
      exact ⟨_, hexec, State.drained_pushReply hrequest.head (State.drained_end hr' hquiet' hout' honly' hlive') _⟩
    · obtain ⟨hdone, hr', hquiet', hout', honly', hlive'⟩ := howner hrequest (fun i e u => ((u.detach i).leavePair i e).freeSlot i)
      have hexec : exec .cancel s = _ := hrequest.onRequest_eq hread ownCancel
      rw [ownCancel, hdone] at hexec
      exact ⟨_, hexec, State.drained_pushReply hrequest.head (State.drained_cancel hr' hquiet' hout' honly' e) _⟩
  · have hport : e.phase.port.isSome = true := by
      rcases hph with hph | hph <;> rw [hph] <;> rfl
    have hslotport : s.slotPort i = some q := by
      rw [State.slotPort, State.phase_of_live hlive]
      rcases hph with hph | hph <;> rw [hph] <;> rfl
    have hexec := State.execWalkStep_eq hup hcurrent
    have hqualifies : s.qualifies scope horizon i = true :=
      (State.qualifies_iff hslotport).2 ⟨e, at_, hlive, hcovers, hbefore, d, hph⟩
    rw [hscope, hout, List.find?_cons_of_pos hqualifies] at hexec
    dsimp only at hexec
    rw [hlive] at hexec
    exact ⟨_, hexec, State.drained_walkOne hr hquiet hout honly hlive hport⟩

end Sys2Proof.Machine

namespace Sys2Proof.Machine
open Sys2Proof

/-! ### O34: links that are lost -/

section
variable {s t u v w : State} {i j : Slot} {e : Exchange} {x : Port} {p q r : PortId} {y : Nat} {entered : PortState}

theorem State.Unlinked.lost (h : s.Unlinked u p entered) (hset : u.PortSet t p x) (hcredits : x.credits = 0) (hsilence : x.silenceEnds = none)
    (hprobes : x.pendingProbes = []) (htraces : x.pendingTraces = []) (hkept : x.identity = (s.port p).identity ∧ x.reach = (s.port p).reach)
    (hfailover : t.failover = u.failover) (hreport : s.reportedBy t) (hready : t.ready p = []) : s.LinkLost t p := by
  have hcell : t.cell = u.cell := State.cell_congr hset.routes
  have hrecord : t.record = u.record := funext fun i => by rw [State.record, State.record, hset.table.slots]
  have hout : ∀ q, t.outstanding q = u.outstanding q := fun q => by rw [State.outstanding, State.outstanding, hset.table.outstanding]
  refine ⟨by rw [hset.port, hcredits], by rw [hset.port, hsilence], by rw [hset.port, hprobes], by rw [hset.port, htraces],
    by rw [hset.port]; exact hkept, fun q hq => ?_, fun z hz => ?_, fun z q hq => ?_, fun i hi => ⟨?_, ?_, ?_⟩, fun hnodup => ?_, hreport,
    hready, by rw [hfailover]; exact h.item, by rw [hfailover]; exact h.offered.current⟩
  · rw [hset.others q hq]
    exact h.others q hq
  · rw [hcell, h.cells]
    exact if_congr (by simp [hz]) rfl rfl
  · rw [hcell, h.cells, if_neg fun hc => hq hc.1]
  · rw [hrecord, (h.beside i hi).record]
  · rw [hout, (h.beside i hi).outstanding]
  · rw [hset.table.order, (h.beside i hi).order]
  · refine (h.handed hnodup).congr hset.table fun q => ?_
    by_cases hq : q = p
    · subst hq
      rw [hset.port, htraces, h.port]
      rfl
    · rw [hset.others q hq]

theorem State.notifies.before {b : NoticeBody} (h : u.notifies t b) (hnotices : u.link.notices = s.link.notices)
    (htime : u.timeBase = s.timeBase) : s.notifies t b := by
  unfold State.notifies at h ⊢
  rwa [hnotices, htime] at h

theorem State.modPort_id (s : State) (p : PortId) : s.modPort p id = s := by
  simp [State.modPort, State.setPort, State.port]

/-- The loss of a link, followed by the port's own changes and reported: PORT OFF, RESET PORT and a drain (R70, R72, R73). -/
theorem State.cut_announced (s : State) (p : PortId) (hentered : entered ≠ .up) (f : Port → Port)
    (hf : ∀ x, (f x).credits = x.credits ∧ (f x).silenceEnds = x.silenceEnds ∧ (f x).pendingProbes = x.pendingProbes ∧
      (f x).pendingTraces = x.pendingTraces ∧ (f x).identity = x.identity ∧ (f x).reach = x.reach)
    (hoff : ∀ x, x.state = entered → (f x).state ≠ .up) (left : PortState) (cause : PortCause) :
    let t := (((s.dropLink p entered).modPort p f).announce p left cause).close
    s.LinkLost t p ∧ t.port p = f (Port.cut entered (s.port p)) := by
  have hcut := s.unlinked_dropLink p hentered
  have hset := (s.dropLink p entered).portSet_announced p f left cause
  have hreport := (((hcut.unreported.trans (State.unreported_modPort _ p f)).announce p left cause)).close
  rw [hcut.port] at hset
  obtain ⟨hcredits, hsilence, hprobes, htraces, hidentity, hreach⟩ := hf (Port.cut entered (s.port p))
  exact ⟨hcut.lost hset.close hcredits hsilence hprobes htraces ⟨hidentity, hreach⟩ (by simp) hreport
    (State.ready_close_of_not_up (by rw [hset.port]; exact hoff _ rfl)), hset.close.port⟩

theorem State.lost_announced (hr : s.raised = []) (p : PortId) (hentered : entered ≠ .up) (f : Port → Port)
    (hf : ∀ x, (f x).credits = x.credits ∧ (f x).silenceEnds = x.silenceEnds ∧ (f x).pendingProbes = x.pendingProbes ∧
      (f x).pendingTraces = x.pendingTraces ∧ (f x).identity = x.identity ∧ (f x).reach = x.reach)
    (hoff : ∀ x, x.state = entered → (f x).state ≠ .up) (left : PortState) (cause : PortCause) :
    let t := (((s.dropLink p entered).modPort p f).announce p left cause).close
    s.LinkLost t p ∧ t.port p = f (Port.cut entered (s.port p)) ∧
    s.notifies t (.portChange p left (f (Port.cut entered (s.port p))).state (s.port p).identity cause) := by
  have hcut := s.unlinked_dropLink p hentered
  obtain ⟨-, -, -, hnotice⟩ := State.announced (s := s.dropLink p entered) (by simp [hr]) p f left cause
  obtain ⟨hlost, hport⟩ := s.cut_announced p hentered f hf hoff left cause
  obtain ⟨-, -, -, -, hidentity, -⟩ := hf (Port.cut entered (s.port p))
  rw [hcut.port, hidentity] at hnotice
  exact ⟨hlost, hport, hnotice.before (HostLink.notices_of_counted hcut.link) hcut.unreported.time⟩

/-- A link lost to DOWN, with the detection that follows where signal is present and the bar clear (R60, R67). -/
theorem State.lost_to_down (hr : s.raised = []) (p : PortId) (cause : PortCause) :
    let t := (s.loseLink p cause).close
    s.LinkLost t p ∧ t.port p = (if (s.port p).signal = true ∧ (s.port p).retryBar = false
      then { Port.cut .down (s.port p) with state := .training, trainingEnds := some (s.timeBase + ms (trainingWait s.config)) }
      else Port.cut .down (s.port p)) ∧
    s.notifies t (.portChange p (s.port p).state .down (s.port p).identity cause) := by
  have hcut := s.unlinked_dropLink p (entered := .down) (by simp)
  have hspec := State.announced_detected (s := s.dropLink p .down) (by simp [hr]) p id (s.port p).state cause (by rw [hcut.port]; rfl)
  rw [State.modPort_id, hcut.port, hcut.unreported.time, hcut.unreported.config] at hspec
  obtain ⟨hfailover, hset, hreport, hnotice⟩ := hspec
  have hloses : (s.loseLink p cause).close = (((s.dropLink p .down).announce p (s.port p).state cause).detect p).close := rfl
  rw [← hloses] at hfailover hset hreport hnotice
  have hport := hset.port
  rw [State.port_close] at hport
  refine ⟨hcut.lost hset ?_ ?_ ?_ ?_ ⟨?_, ?_⟩ hfailover (hreport.before hcut.unreported) (State.ready_close_of_not_up ?_), hset.port,
    hnotice.before (HostLink.notices_of_counted hcut.link) hcut.unreported.time⟩
  iterate 6 (split <;> rfl)
  rw [hport]
  split <;> simp [Port.cut]

/-- The loss of a link, seen from a state before that differs in what the event did to the port first. -/
theorem State.LinkLost.before (h : u.LinkLost t p) (hex : u.ex = s.ex) (hothers : ∀ q, q ≠ p → u.port q = s.port q)
    (htraces : (u.port p).pendingTraces = (s.port p).pendingTraces) (hreach : (u.port p).reach = (s.port p).reach)
    (hidentity : (u.port p).identity = (s.port p).identity) (hroutes : u.routes = s.routes) (hconfig : u.config = s.config)
    (htime : u.timeBase = s.timeBase) (hcurrent : u.failover.current = s.failover.current) (hreport : s.reportedBy t) : s.LinkLost t p := by
  have hcell : u.cell = s.cell := State.cell_congr hroutes
  have hrecord : u.record = s.record := State.record_of_ex hex
  have hout : ∀ q, u.outstanding q = s.outstanding q := fun q => by rw [State.outstanding, State.outstanding, hex]
  have helig : ∀ y q, q ≠ p → u.eligible y q = s.eligible y q := fun y q hq =>
    State.eligible_eq_of (by rw [hothers q hq]) (by rw [hcell])
  refine ⟨h.credits, h.silence, h.probes, h.traces, ⟨h.kept.1.trans hidentity, h.kept.2.trans hreach⟩, fun q hq => ?_, fun z hz => ?_,
    fun z q hq => ?_, fun i hi => ?_, fun hnodup => ?_, hreport, h.ready, htime ▸ h.item, h.current.trans hcurrent⟩
  · rw [h.others q hq, hothers q hq]
  · rw [h.cells z hz, hreach, hcell]
  · rw [h.otherCells z q hq, hcell]
  · have hi := h.exchanges i (htraces ▸ hi)
    rwa [hrecord, hout, hex] at hi
  · have hhanded := h.handed (htraces ▸ hnodup)
    intro i hi e hlive
    have hone := hhanded i (htraces ▸ hi) e ((congrFun (State.live_congr hex) i).trans hlive)
    have hexists : (∃ q, q ≠ p ∧ u.eligible e.target q = true) ↔ ∃ q, q ≠ p ∧ s.eligible e.target q = true :=
      exists_congr fun q => and_congr_right fun hq => by rw [helig e.target q hq]
    have hheld : u.heldNow = s.heldNow := funext fun action => by rw [State.heldNow, State.heldNow, htime, hconfig]
    dsimp only at hone ⊢
    rw [hconfig, hrecord, htime, hheld] at hone
    split at hone
    next hlimit => rw [if_pos hlimit]; exact hone
    next hlimit =>
      rw [if_neg hlimit]
      split at hone
      next hsome =>
        rw [if_pos (hexists.1 hsome)]
        obtain ⟨q, hqp, hq, hrest⟩ := hone
        exact ⟨q, hqp, (helig e.target q hqp) ▸ hq, hrest⟩
      next hnone =>
        rw [if_neg fun hc => hnone (hexists.2 hc)]
        exact hone

/-- The loss that follows a change of the port that keeps its link's fields. -/
theorem State.LinkLost.of_modPort {f : Port → Port} (h : (s.modPort p f).LinkLost t p)
    (hf : (f (s.port p)).pendingTraces = (s.port p).pendingTraces ∧ (f (s.port p)).reach = (s.port p).reach ∧
      (f (s.port p)).identity = (s.port p).identity) : s.LinkLost t p := by
  obtain ⟨htraces, hreach, hidentity⟩ := hf
  have hport := s.port_modPort_self p f
  exact h.before rfl (fun q hq => by rw [State.port_modPort, if_neg (Ne.symm hq)]) (by rw [hport, htraces]) (by rw [hport, hreach])
    (by rw [hport, hidentity]) rfl rfl rfl rfl (h.report.before (s.unreported_modPort p f))

end

/-- Settles O34: one trace handed back in its turn, then the three losses. -/
theorem linksAreLost : Obligations.LinksAreLost := by
  refine ⟨fun s p entered before after i e hsplit hnodup hlive => ?_, fun s p hr hlinked => ?_⟩
  · intro u t traces
    rw [hsplit] at hnodup
    obtain ⟨-, hafter, hdisjoint⟩ := List.nodup_append.1 hnodup
    have hbefore : i ∉ before := fun h => hdisjoint i h i List.mem_cons_self rfl
    have hex : (s.cutLink p entered).ex = s.ex := by rw [State.cutLink_eq]; simp
    have hlivecut : (s.cutLink p entered).live i = some e := (congrFun (State.live_congr hex) i).trans hlive
    have hliveu : u.live i = some e := (State.beside_foldl_handBack p before _ hbefore).live.trans hlivecut
    have hconfig : u.config = s.config := (foldl_keeps (·.config) _ (by simp) _ _).trans (by rw [State.cutLink_eq]; simp)
    have htime : u.timeBase = s.timeBase := (foldl_keeps (·.timeBase) _ (by simp) _ _).trans (by rw [State.cutLink_eq]; simp)
    have hfate := State.handBack_fate hliveu p
    rw [hconfig, htime, State.heldNow, hconfig, htime, ← State.heldNow] at hfate
    refine ⟨?_, ?_⟩
    · have hdrop : (s.dropLink p entered).record i = (after.foldl (State.handBack p) (State.handBack p u i)).record i := by
        have hexd : (s.dropLink p entered).ex = (after.foldl (State.handBack p) (State.handBack p u i)).ex := by
          rw [State.dropLink, hsplit, List.foldl_append, List.foldl_cons]
          simp
          rfl
        exact congrFun (State.record_of_ex hexd) i
      rw [hdrop, (State.beside_foldl_handBack p after _ (List.nodup_cons.1 hafter).1).record, State.record_close]
    · by_cases hlimit : traceLimit s.config ≤ traces
      · rw [if_pos hlimit] at hfate ⊢
        exact hfate.close
      · rw [if_neg hlimit] at hfate ⊢
        cases hchoice : (u.detach i).traceChoice e.target (some p) with
        | some q => rw [hchoice] at hfate; exact hfate.close
        | none => rw [hchoice] at hfate; exact hfate.close
  · intro x falls
    /- A loss to DOWN after a change of the port that keeps its link's fields. -/
    have hfalls : ∀ {c : Instr} {cause : PortCause} (f : Port → Port), exec c s = .next ((s.modPort p f).loseLink p cause).close →
        (f x).pendingTraces = x.pendingTraces ∧ (f x).reach = x.reach ∧ (f x).identity = x.identity → (f x).state = x.state →
        ((f x).signal = true → (f x).retryBar = x.retryBar) → falls c cause (f x).signal := fun {c cause} f hexec hkeeps hstate hbar => by
      obtain ⟨hlost, hport, hnotice⟩ := State.lost_to_down (s := s.modPort p f) hr p cause
      rw [s.port_modPort_self p f] at hport hnotice
      obtain ⟨-, -, hidentity⟩ := id hkeeps
      rw [show (f (s.port p)).state = x.state from hstate, show (f (s.port p)).identity = x.identity from hidentity] at hnotice
      refine ⟨_, hexec, hlost.of_modPort hkeeps, ?_, fun hup => ?_, fun hno => ?_, hnotice⟩
      · rw [hport]
        split <;> rfl
      · rw [hport, if_pos ⟨hup.1, (hbar hup.1).trans hup.2⟩]
        exact ⟨rfl, rfl⟩
      · rw [hport, if_neg]
        · rfl
        · rintro ⟨hsignal, hclear⟩
          rcases hno with hno | hno
          · rw [show (f (s.port p)).signal = true from hsignal] at hno
            cases hno
          · rw [← hbar hsignal, show (f x).retryBar = false from hclear] at hno
            cases hno
    have hstate : x.state = .up ∨ x.state = .quiescing := by
      have h : ((s.port p).state == .up || (s.port p).state == .quiescing) = true := hlinked
      simpa using h
    refine ⟨?_, fun hdue => ?_, fun hdue => ?_, fun hburst => ?_⟩
    · refine hfalls (fun x => { x with signal := false, retryBar := false }) ?_ ⟨rfl, rfl, rfl⟩ rfl (fun h => by cases h)
      rcases hstate with h | h <;> simp only [exec, execSignalLost, show (s.port p).state = _ from h]
    · refine hfalls id ?_ ⟨rfl, rfl, rfl⟩ rfl (fun _ => rfl)
      rw [State.modPort_id]
      exact if_pos (by rw [hlinked, show expired s.timeBase (s.port p).silenceEnds = true from hdue]; rfl)
    · exact if_neg (by rw [show expired s.timeBase (s.port p).silenceEnds = false from hdue]; simp)
    · refine hfalls (fun y => { y with history := x.history.filter (fun at_ => (elapsed s.timeBase at_).toNat ≤ 10000) }) ?_ ⟨rfl, rfl, rfl⟩ rfl
        (fun _ => rfl)
      have hexec : exec (.damagedFrame p) s = .next (s.takeDamaged p).close := rfl
      rw [hexec, State.takeDamaged, if_pos hlinked]
      exact congrArg (fun u : State => Host.Outcome.next u.close) (if_pos hburst)

end Sys2Proof.Machine

namespace Sys2Proof.Machine
open Sys2Proof

/-! ### O23 and O24: the host's control of a port -/

section
variable {s t u v : State} {x : Port} {p q : PortId} {l : HostLink} {left : PortState} {cause : PortCause} {rest : List HostFrame}

/-! What an owner leaves, seen from before its request left the ingress queue and after its reply has joined the replies. -/

theorem State.popIngress_port (s : State) : s.popIngress.port = s.port := State.port_congr (by simp)

theorem State.unreported_popIngress (s : State) : s.Unreported s.popIngress := ⟨by simp, by simp, by simp, by simp, by simp⟩

theorem State.reportedBy.answered (h : s.popIngress.reportedBy t) (r : Reply) : s.reportedBy (t.pushReply r) :=
  (h.before s.unreported_popIngress).keep rfl rfl (State.countAllCables_congr rfl rfl)

theorem State.PortSet.answered (h : s.popIngress.PortSet t p x) (r : Reply) : s.PortSet (t.pushReply r) p x :=
  ((State.PortSet.of_same (by simp) (by simp) (.of_ex (by simp)) (.of_cache (by simp)) : s.PortSet s.popIngress p _).trans h).trans
    (h.port ▸ .of_same rfl rfl (.of_ex rfl) (.of_cache rfl))

theorem State.notifies.answered {b : NoticeBody} {f : HostFrame} (h : s.popIngress.notifies t b) (hhead : s.link.ingress = f :: rest) (r : Reply) :
    s.notifies (t.pushReply r) b :=
  State.notifies.before (u := s.popIngress) (t := t.pushReply r) h (by rw [State.popIngress_link hhead]; rfl) (by simp)

theorem State.LinkLost.answered (h : s.popIngress.LinkLost t p) (r : Reply) : s.LinkLost (t.pushReply r) p :=
  have hsame : s.popIngress.LinkLost (t.pushReply r) p :=
    ⟨h.credits, h.silence, h.probes, h.traces, h.kept, h.others, h.cells, h.otherCells, h.exchanges, h.handed, h.report, h.ready, h.item,
      h.current⟩
  hsame.before (by simp) (fun _ _ => by rw [s.popIngress_port]) (by rw [s.popIngress_port]) (by rw [s.popIngress_port])
    (by rw [s.popIngress_port]) (by simp) (by simp) (by simp) (by simp) (h.report.answered r)

/-- A PORT OFF request goes to the owner of its mode (R71, R73). -/
theorem State.RequestAtHead.execPortOffImmediate_eq (h : s.RequestAtHead 14 [BitVec.ofNat 8 p.val, 1#8] rest) :
    exec .portOffImmediate s = .next ((ownPortOffImmediate (p, true) s.popIngress).state.pushReply
      ⟨14, (ownPortOffImmediate (p, true) s.popIngress).status, (ownPortOffImmediate (p, true) s.popIngress).body⟩) := by
  have hexec : exec .portOffImmediate s = execPortOffImmediate s := rfl
  have hread : argsPortOff [BitVec.ofNat 8 p.val, 1#8] = some (p, true) := by
    rw [argsPortOff, portIndex_ofNat]
    rfl
  rw [hexec, execPortOffImmediate, h.controlHead_eq]
  dsimp only
  rw [if_pos ⟨rfl, rfl⟩, State.takeControl, hread]

theorem State.RequestAtHead.execPortOffGraceful_eq (h : s.RequestAtHead 14 [BitVec.ofNat 8 p.val, 0#8] rest) :
    exec .portOffGraceful s = .next ((ownPortOffGraceful (p, false) s.popIngress).state.pushReply
      ⟨14, (ownPortOffGraceful (p, false) s.popIngress).status, (ownPortOffGraceful (p, false) s.popIngress).body⟩) := by
  have hexec : exec .portOffGraceful s = execPortOffGraceful s := rfl
  have hread : argsPortOff [BitVec.ofNat 8 p.val, 0#8] = some (p, false) := by
    rw [argsPortOff, portIndex_ofNat]
    rfl
  rw [hexec, execPortOffGraceful, h.controlHead_eq]
  dsimp only
  rw [if_pos ⟨rfl, rfl⟩, State.takeControl, hread]

/-- The answer of an owner that has done what it was asked. -/
theorem exec_of_done {c : Instr} {code : Byte} {a : Answered} (h : exec c s = .next (a.state.pushReply ⟨code, a.status, a.body⟩))
    (hown : a = doneWith .none u) : exec c s = .next (u.pushReply ⟨code, .done, .none⟩) := by
  subst hown
  exact h

/-- The answer of an owner that has refused: the request leaves the queue and nothing else changes. -/
theorem exec_of_refused {c : Instr} {code : Byte} {a : Answered} {args : List Byte} {status : ReplyStatus}
    (hhead : s.RequestAtHead code args rest) (h : exec c s = .next (a.state.pushReply ⟨code, a.status, a.body⟩))
    (hown : a = refusedWith status s.popIngress) : exec c s = .next (s.setLink (s.answeredLink rest ⟨code, status, .none⟩)) := by
  subst hown
  exact h.trans (congrArg _ (State.popIngress_pushReply_eq hhead.head _))

/-! ### The work of a port -/

theorem State.offerIfWork_cond (s : State) (p : PortId) :
    (!(s.outstanding p).isEmpty || !(s.placesWith (fun e => e.port == some p)).isEmpty) = true ↔ s.hasWork p := by
  have hplaces : s.placesWith (fun e => e.port == some p) ≠ [] ↔ ∃ pl e, s.entryAt pl = some e ∧ e.port = some p := by
    rw [State.placesWith, Ne, List.filter_eq_nil_iff]
    simp [mem_allPlaces, Option.any_eq_true]
  rw [State.hasWork, ← hplaces]
  simp

theorem State.offerIfWork_of_hasWork (h : s.hasWork p) : s.offerIfWork p = s.offerPortLoss p :=
  if_pos ((s.offerIfWork_cond p).2 h)

theorem State.offerIfWork_of_not_hasWork (h : ¬ s.hasWork p) : s.offerIfWork p = s :=
  if_neg fun hc => h ((s.offerIfWork_cond p).1 hc)

/-- A port without a link is put off or reset: its port-loss item is offered if it has work, and the change is reported (R70, R73). -/
theorem State.unlinked_announced (hr : s.raised = []) (p : PortId) (f : Port → Port) (left : PortState) (cause : PortCause) :
    let t := (((s.modPort p f).offerIfWork p).announce p left cause).close
    s.PortSet t p (f (s.port p)) ∧ (s.hasWork p → .portLoss p s.timeBase ∈ t.failover.work) ∧
    (¬ s.hasWork p → t.failover = s.failover) ∧ s.reportedBy t ∧
    s.notifies t (.portChange p left (f (s.port p)).state (f (s.port p)).identity cause) := by
  have hset := s.portSet_modPort p f
  have hoffer : (s.modPort p f).PortSet ((s.modPort p f).offerIfWork p) p ((s.modPort p f).port p) :=
    .of_same (by simp) (by simp) (.of_ex (by simp)) (.of_cache (by simp))
  rw [hset.port] at hoffer
  have hannounce := State.portSet_announce ((s.modPort p f).offerIfWork p) p left cause
  rw [hoffer.port] at hannounce
  have hnotice := State.notifies_announced (s := s) (x := (s.modPort p f).offerIfWork p) (p := p) (left := left) (cause := cause) hr
    (.of_eq (by simp) 1) (by simp) (.refl _ 0) (by simp)
  rw [hoffer.port] at hnotice
  refine ⟨((hset.trans hoffer).trans hannounce).close, fun h => ?_, fun h => ?_, ?_, hnotice⟩
  · rw [State.offerIfWork_of_hasWork (s := s.modPort p f) h]
    simpa using State.mem_offerPortLoss (s.modPort p f) p
  · rw [State.offerIfWork_of_not_hasWork (s := s.modPort p f) h]
    simp
  · exact (State.Unreported.announce ⟨by simp, by simp, by simp, by simp, by simp⟩ p left cause).close

/-! ### Quiescing (R71, R72, R74) -/

/-- The first part of PORT OFF graceful in UP, before the drain (R35, R71). -/
def State.quiesced (s : State) (p : PortId) : State :=
  ((s.modPort p (fun x => { x with state := .quiescing })).setQuiesceMarks p).announce p .up .quiesceRequested

theorem State.quiesce_eq (s : State) (p : PortId) :
    s.quiesce p = if s.outstanding p = [] then (s.quiesced p).drain p else s.quiesced p := by
  have hout : (s.quiesced p).outstanding p = s.outstanding p := by
    rw [State.outstanding, State.outstanding, State.quiesced]
    simp
  have hquiesce : s.quiesce p = if ((s.quiesced p).outstanding p).isEmpty then (s.quiesced p).drain p else s.quiesced p := rfl
  rw [hquiesce, hout]
  exact if_congr List.isEmpty_iff rfl rfl

/-- A port has changed to the record x with its link kept, the marks of its entries have changed by g, and the cable is reported (R35,
R75). -/
structure State.Marked (s t : State) (p : PortId) (x : Port) (g : Entry → Entry) : Prop where
  port : t.port p = x
  others : s.otherPorts t p
  routes : t.routes = s.routes
  table : s.sameTable t
  entries : ∀ pl, (t.entryAt pl).map (fun e => { e with verdictMark := none }) =
    ((s.entryAt pl).map g).map (fun e => { e with verdictMark := none })
  report : s.reportedBy t

theorem State.marked_announced (s : State) (p : PortId) (f : Port → Port) (g : Entry → Entry) (left : PortState) (cause : PortCause) :
    s.Marked (((s.modPort p f).mapEntries g).announce p left cause) p (f (s.port p)) g := by
  have hset := s.portSet_modPort p f
  have hannounce := State.portSet_announce ((s.modPort p f).mapEntries g) p left cause
  refine ⟨hannounce.port.trans hset.port, fun q hq => (hannounce.others q hq).trans (hset.others q hq), by simp, .of_ex (by simp),
    fun pl => ?_, State.Unreported.announce ⟨by simp, by simp, by simp, by simp, by simp⟩ p left cause⟩
  rw [hannounce.entries pl, State.entryAt_mapEntries]
  rfl

theorem State.Marked.close {g : Entry → Entry} (h : s.Marked t p x g) : s.Marked t.close p x g where
  port := (t.portSet_close p).port.trans h.port
  others q hq := ((t.portSet_close p).others q hq).trans (h.others q hq)
  routes := (t.portSet_close p).routes.trans h.routes
  table := h.table.trans (t.portSet_close p).table
  entries pl := ((t.portSet_close p).entries pl).trans (h.entries pl)
  report := h.report.close

theorem State.Marked.answered {g : Entry → Entry} (h : s.popIngress.Marked t p x g) (r : Reply) : s.Marked (t.pushReply r) p x g where
  port := h.port
  others q hq := (h.others q hq).trans (by rw [s.popIngress_port])
  routes := h.routes.trans (by simp)
  table := (State.sameTable.of_ex (by simp)).trans ⟨h.table.slots, h.table.free, h.table.order, h.table.results, h.table.outstanding⟩
  entries pl := by
    rw [← State.entryAt_congr s.popIngress_cache]
    exact h.entries pl
  report := h.report.answered r

theorem State.Marked.offerPlacements {g : Entry → Entry} (h : s.Marked t p x g) (l : List Nat) :
    s.Marked (l.foldl State.offerPlacement t) p x g := by
  have hports := State.port_congr (foldl_keeps (·.ports) State.offerPlacement (by simp) l t)
  have hroutes := foldl_keeps (·.routes) State.offerPlacement (by simp) l t
  refine ⟨by rw [hports, h.port], fun q hq => by rw [hports, h.others q hq], hroutes.trans h.routes,
    h.table.trans (.of_ex (foldl_keeps (·.ex) _ (by simp) _ _)), fun pl => ?_,
    h.report.keep (foldl_keeps (·.view) _ (by simp) _ _) (foldl_keeps (·.row) _ (by simp) _ _)
      (State.countAllCables_congr (foldl_keeps (·.ports) _ (by simp) _ _) hroutes)⟩
  rw [State.entryAt_congr (foldl_keeps (·.cache) _ (by simp) _ _)]
  exact h.entries pl

/-- An entry as the quiescing of port p marks it (R35). -/
def quiesceMarked (p : PortId) (e : Entry) : Entry := if e.port = some p then { e with quiesceMark := true } else e

theorem State.marked_quiesced (s : State) (p : PortId) :
    s.Marked (s.quiesced p) p { s.port p with state := .quiescing } (quiesceMarked p) := State.marked_announced _ _ _ _ _ _

/-- The PORT CHANGE notice of a port put into QUIESCING comes first, whatever the drain adds (R75). -/
theorem State.notifies_quiesced (hr : s.raised = []) (hu : (s.quiesced p).Raises u 0) (hlink : u.link.notices = s.link.notices) :
    s.notifies u.close (.portChange p .up .quiescing (s.port p).identity .quiesceRequested) := by
  have hport : ((s.modPort p (fun x => { x with state := .quiescing })).setQuiesceMarks p).port p = { s.port p with state := .quiescing } := by
    have hports : ((s.modPort p (fun x => { x with state := .quiescing })).setQuiesceMarks p).ports =
        (s.modPort p (fun x => { x with state := .quiescing })).ports := by simp
    rw [State.port_congr hports, State.port_modPort_self]
  have hnotice := State.notifies_announced (x := (s.modPort p (fun x => { x with state := .quiescing })).setQuiesceMarks p) (p := p)
    hr (.of_eq (by simp) 1) (by simp) hu hlink
  rwa [hport] at hnotice

theorem State.RequestAtHead.quiesced_answered {code : Byte} {args : List Byte} (hhead : s.RequestAtHead code args rest) (hr : s.raised = [])
    (r : Reply) :
    let t := (s.popIngress.quiesced p).close.pushReply r
    s.Marked t p { s.port p with state := .quiescing } (quiesceMarked p) ∧ t.failover = s.failover ∧ t.ready p = [] ∧
    s.notifies t (.portChange p .up .quiescing (s.port p).identity .quiesceRequested) := by
  have hmarked := (s.popIngress.marked_quiesced p).close
  have hfailover : (s.popIngress.quiesced p).close.failover = s.failover := by simp [State.quiesced]
  have hready : (s.popIngress.quiesced p).close.ready p = [] :=
    State.ready_close_of_not_up (by rw [(s.popIngress.marked_quiesced p).port]; simp)
  have hnotice := State.notifies_quiesced (p := p) (by simpa using hr) (.refl (s.popIngress.quiesced p) 0) (by simp [State.quiesced])
  rw [s.popIngress_port] at hmarked hnotice
  generalize (s.popIngress.quiesced p).close = v at *
  exact ⟨hmarked.answered r, hfailover, hready, hnotice.answered hhead.head r⟩

/-- A port with nothing outstanding passes through QUIESCING into OFF (R71, R72). -/
theorem State.RequestAtHead.emptied_answered {code : Byte} {args : List Byte} (hhead : s.RequestAtHead code args rest) (hr : s.raised = [])
    (r : Reply) :
    let t := ((s.popIngress.quiesced p).drain p).close.pushReply r
    s.LinkLost t p ∧ (t.port p).state = .off ∧ (t.port p).retryBar = false ∧
    s.notifies t (.portChange p .up .quiescing (s.port p).identity .quiesceRequested) := by
  have hmarked := s.popIngress.marked_quiesced p
  have hquiet : ((s.popIngress.quiesced p).port p).state = .quiescing := by rw [hmarked.port]
  obtain ⟨hlost, hport⟩ := (s.popIngress.quiesced p).cut_announced p (entered := .off) (by simp) (fun x => { x with retryBar := false })
    (fun _ => ⟨rfl, rfl, rfl, rfl, rfl, rfl⟩) (by simp +contextual) .quiescing .drained
  rw [← State.drain_eq] at hlost hport
  have hnotice := State.notifies_quiesced (s := s.popIngress) (p := p) (u := (s.popIngress.quiesced p).drain p) (by simpa using hr)
    ((State.Raises.of_eq (t := ((s.popIngress.quiesced p).dropLink p .off).modPort p _) (by simp) 0).trans (State.raises_announce _ _ _ _))
    (HostLink.notices_of_counted (by simp [State.quiesced]))
  have hfrom := hlost.before (s := s.popIngress) (by simp [State.quiesced]) (fun q hq => hmarked.others q hq) (by rw [hmarked.port])
    (by rw [hmarked.port]) (by rw [hmarked.port]) hmarked.routes (by simp [State.quiesced]) (by simp [State.quiesced]) (by simp [State.quiesced])
    (hmarked.report.drain (by simp [State.quiesced]) hquiet).close
  rw [s.popIngress_port] at hnotice
  generalize ((s.popIngress.quiesced p).drain p).close = v at *
  exact ⟨hfrom.answered r, congrArg Port.state hport, congrArg Port.retryBar hport, hnotice.answered hhead.head r⟩

theorem State.mem_foldl_offerPlacement (l : List Nat) (s : State) :
    (∀ w ∈ s.failover.work, w ∈ (l.foldl State.offerPlacement s).failover.work) ∧
    ∀ y ∈ l, .placement y ∈ (l.foldl State.offerPlacement s).failover.work := by
  have hkeep : ∀ (u : State) y, ∀ w ∈ u.failover.work, w ∈ (u.offerPlacement y).failover.work := fun u y w hw => by
    rw [State.offerPlacement]
    split
    · exact hw
    · exact List.mem_append_left _ hw
  induction l generalizing s with
  | nil => exact ⟨fun _ => id, fun _ h => absurd h List.not_mem_nil⟩
  | cons y l ih =>
    obtain ⟨hwork, hoffered⟩ := ih (s.offerPlacement y)
    refine ⟨fun w hw => hwork w (hkeep s y w hw), fun z hz => ?_⟩
    rcases List.mem_cons.1 hz with rfl | hz
    · exact hwork _ (s.mem_offerPlacement z)
    · exact hoffered z hz


theorem State.portOff_unlinked (s : State) (p : PortId)
    (h : (s.port p).state = .down ∨ (s.port p).state = .training ∨ (s.port p).state = .reset) :
    s.portOff p = ((s.modPort p (fun x => { x with state := .off, retryBar := false, trainingEnds := none, holdEnds := none })).offerIfWork
      p).announce p (s.port p).state .offRequested := by
  rcases h with h | h | h <;> simp only [State.portOff, h]

theorem State.portOff_linked (s : State) (p : PortId) (h : (s.port p).state = .up ∨ (s.port p).state = .quiescing) :
    s.portOff p = ((s.dropLink p .off).modPort p (fun x =>
      { x with state := .off, retryBar := false, trainingEnds := none, holdEnds := none })).announce p (s.port p).state .offRequested := by
  rcases h with h | h <;> simp only [State.portOff, h]

/-- A port without a link put off or reset on request, as seen from before the request left the ingress queue (R70, R73). -/
theorem State.RequestAtHead.unlinked_answered {code : Byte} {args : List Byte} (hhead : s.RequestAtHead code args rest) (hr : s.raised = [])
    {f : Port → Port} (hput : u = ((s.popIngress.modPort p f).offerIfWork p).announce p left cause) (r : Reply) :
    let t := u.close.pushReply r
    (t.link.ingress = rest ∧ t.link.replies = s.link.replies ++ [r]) ∧ s.PortSet t p (f (s.port p)) ∧
    (s.hasWork p → .portLoss p s.timeBase ∈ t.failover.work) ∧ (¬ s.hasWork p → t.failover = s.failover) ∧ s.reportedBy t ∧
    s.notifies t (.portChange p left (f (s.port p)).state (f (s.port p)).identity cause) := by
  have hanswer := hhead.answered (u := u) (by rw [hput]; simp) r
  obtain ⟨hset, hwork, hnone, hreport, hnotice⟩ := State.unlinked_announced (s := s.popIngress) (by simpa using hr) p f left cause
  rw [← hput] at hset hwork hnone hreport hnotice
  generalize u.close = v at *
  rw [s.popIngress_port] at hset hnotice
  have hhas : s.popIngress.hasWork p ↔ s.hasWork p := by
    simp only [State.hasWork, State.outstanding, s.popIngress_ex, State.entryAt_congr s.popIngress_cache]
  rw [hhas, s.popIngress_timeBase] at hwork
  rw [hhas, s.popIngress_failover] at hnone
  exact ⟨hanswer, hset.answered r, hwork, hnone, hreport.answered r, hnotice.answered hhead.head r⟩

/-- A working link lost on request, as seen from before the request left the ingress queue (R70, R73). -/
theorem State.RequestAtHead.lost_answered {code : Byte} {args : List Byte} (hhead : s.RequestAtHead code args rest) (hr : s.raised = [])
    {entered : PortState} {f : Port → Port} (hput : u = ((s.popIngress.dropLink p entered).modPort p f).announce p left cause)
    (hentered : entered ≠ .up) (hf : ∀ x, (f x).credits = x.credits ∧ (f x).silenceEnds = x.silenceEnds ∧ (f x).pendingProbes = x.pendingProbes ∧
      (f x).pendingTraces = x.pendingTraces ∧ (f x).identity = x.identity ∧ (f x).reach = x.reach)
    (hoff : ∀ x, x.state = entered → (f x).state ≠ .up) (r : Reply) :
    let t := u.close.pushReply r
    (t.link.ingress = rest ∧ t.link.replies = s.link.replies ++ [r]) ∧ s.LinkLost t p ∧ t.port p = f (Port.cut entered (s.port p)) ∧
    s.notifies t (.portChange p left (f (Port.cut entered (s.port p))).state (s.port p).identity cause) := by
  have hanswer := hhead.answered (u := u) (by rw [hput]; simp) r
  obtain ⟨hlost, hport, hnotice⟩ := State.lost_announced (s := s.popIngress) (by simpa using hr) p hentered f hf hoff left cause
  rw [← hput] at hlost hport hnotice
  generalize u.close = v at *
  rw [s.popIngress_port] at hport hnotice
  exact ⟨hanswer, hlost.answered r, hport, hnotice.answered hhead.head r⟩

theorem ownPortOffImmediate_of_off (h : (u.port p).state = .off) : ownPortOffImmediate (p, true) u = refusedWith .wrongState u := if_pos h

theorem ownPortOffImmediate_of_ne_off (h : (u.port p).state ≠ .off) :
    ownPortOffImmediate (p, true) u = doneWith .none (u.portOff p).close := if_neg h

end

/-- Settles O23, mode by mode and by the state of the port. -/
theorem portOffRequests : Obligations.PortOffRequests := by
  intro s p rest hr x refused answered unlinkedOff
  have hport : (s.popIngress.port p).state = x.state := by rw [s.popIngress_port]
  /- A port without a link is put off at once, in either mode. -/
  have hunlinked : ∀ {c : Instr} {args : List Byte}, s.RequestAtHead 14 args rest →
      exec c s = .next ((s.popIngress.portOff p).close.pushReply ⟨14, .done, .none⟩) →
      x.state = .down ∨ x.state = .training ∨ x.state = .reset → unlinkedOff c := fun {c args} hhead hexec hstate => by
    have hput := s.popIngress.portOff_unlinked p (by rwa [hport])
    rw [hport] at hput
    have hanswer := hhead.unlinked_answered hr hput ⟨14, .done, .none⟩
    generalize (s.popIngress.portOff p).close.pushReply ⟨14, .done, .none⟩ = t at hanswer hexec
    exact ⟨t, hexec, hanswer⟩
  refine ⟨fun hhead => ?_, fun hhead => ?_⟩
  · have hexec := hhead.execPortOffImmediate_eq
    have hdone := fun h => exec_of_done hexec (ownPortOffImmediate_of_ne_off h)
    refine ⟨fun hoff => exec_of_refused hhead hexec (ownPortOffImmediate_of_off (hport.trans hoff)), fun hstate => ?_, fun hstate => ?_⟩
    · refine hunlinked hhead (hdone ?_) hstate
      rw [hport]
      rcases hstate with h | h | h <;> simp [h]
    · have hput := s.popIngress.portOff_linked p (by rwa [hport])
      rw [hport] at hput
      obtain ⟨hanswer, hlost, hset, hnotice⟩ := hhead.lost_answered hr hput (by simp) (fun _ => ⟨rfl, rfl, rfl, rfl, rfl, rfl⟩) (by simp)
        ⟨14, .done, .none⟩
      have hexec := hdone (by rw [hport]; rcases hstate with h | h <;> simp [h])
      generalize (s.popIngress.portOff p).close.pushReply ⟨14, .done, .none⟩ = t at hanswer hlost hset hnotice hexec
      exact ⟨t, hexec, hanswer, hlost, by rw [hset], by rw [hset], by rw [hset], by rw [hset], hnotice⟩
  · have hexec := hhead.execPortOffGraceful_eq
    refine ⟨fun hstate => ?_, fun hstate => ?_, fun hup hout => ?_, fun hup hout => ?_⟩
    · refine exec_of_refused hhead hexec ?_
      rcases hstate with h | h <;> simp only [ownPortOffGraceful, hport, h]
    · refine hunlinked hhead (exec_of_done hexec ?_) hstate
      rcases hstate with h | h | h <;> simp only [ownPortOffGraceful, hport, h]
    · have hown : ownPortOffGraceful (p, false) s.popIngress = doneWith .none (s.popIngress.quiesced p).close := by
        simp only [ownPortOffGraceful, hport, hup]
        rw [State.quiesce_eq, if_neg (by rwa [State.outstanding, s.popIngress_ex])]
      have hexec := exec_of_done hexec hown
      have hanswer := hhead.answered (u := s.popIngress.quiesced p) (by simp [State.quiesced]) ⟨14, .done, .none⟩
      obtain ⟨hmarked, hfailover, hready, hnotice⟩ := hhead.quiesced_answered (p := p) hr ⟨14, .done, .none⟩
      generalize (s.popIngress.quiesced p).close.pushReply ⟨14, .done, .none⟩ = t at hexec hanswer hmarked hfailover hready hnotice
      refine ⟨t, hexec, hanswer, hmarked.port, hmarked.others, hmarked.routes, hmarked.table, hready, hfailover, fun pl => ?_, hmarked.report,
        hnotice⟩
      rw [hmarked.entries pl]
      cases s.entryAt pl with
      | none => rfl
      | some e => by_cases he : e.port = some p <;> simp [quiesceMarked, he]
    · have hown : ownPortOffGraceful (p, false) s.popIngress = doneWith .none ((s.popIngress.quiesced p).drain p).close := by
        simp only [ownPortOffGraceful, hport, hup]
        rw [State.quiesce_eq, if_pos (by rwa [State.outstanding, s.popIngress_ex])]
      have hexec := exec_of_done hexec hown
      have hanswer := hhead.answered (u := (s.popIngress.quiesced p).drain p) (by simp [State.quiesced]) ⟨14, .done, .none⟩
      have hlost := hhead.emptied_answered (p := p) hr ⟨14, .done, .none⟩
      generalize ((s.popIngress.quiesced p).drain p).close.pushReply ⟨14, .done, .none⟩ = t at hexec hanswer hlost
      exact ⟨t, hexec, hanswer, hlost⟩

end Sys2Proof.Machine

namespace Sys2Proof.Machine
open Sys2Proof

section
variable {s t u v : State} {x : Port} {p q : PortId} {left : PortState} {cause : PortCause} {rest : List HostFrame}

/-! ### O24: PORT ON and RESET PORT -/

/-- The enterings of PORT ON in OFF, as seen from before the request left the ingress queue (R74). -/
theorem State.RequestAtHead.switchedOn_answered {code : Byte} {args : List Byte} (hhead : s.RequestAtHead code args rest)
    (hr : s.raised = []) (r : Reply) :
    let t := (s.popIngress.switchOn p).close.pushReply r
    (t.link.ingress = rest ∧ t.link.replies = s.link.replies ++ [r]) ∧ t.failover = s.failover ∧
    s.PortSet t p (if (s.port p).signal = true ∧ (s.port p).retryBar = false
      then { s.port p with state := .training, trainingEnds := some (s.timeBase + ms (trainingWait s.config)) }
      else { s.port p with state := .down }) ∧
    s.reportedBy t ∧ s.notifies t (.portChange p .off .down (s.port p).identity .onRequested) := by
  have hanswer := hhead.answered (u := s.popIngress.switchOn p) (by simp [State.switchOn]) r
  obtain ⟨hfailover, hset, hreport, hnotice⟩ := State.announced_detected (s := s.popIngress) (by simpa using hr) p
    (fun x => { x with state := .down }) .off .onRequested rfl
  rw [s.popIngress_port] at hset hnotice
  rw [s.popIngress_timeBase, s.popIngress_config] at hset
  rw [s.popIngress_failover] at hfailover
  have hswitch : s.popIngress.switchOn p = ((s.popIngress.modPort p _).announce p .off .onRequested).detect p := rfl
  rw [← hswitch] at hfailover hset hreport hnotice
  generalize (s.popIngress.switchOn p).close = v at *
  exact ⟨hanswer, hfailover, hset.answered r, hreport.answered r, hnotice.answered hhead.head r⟩

/-! ### The return from QUIESCING -/

/-- The first part of PORT ON in QUIESCING, before its placement items (R35, R74). -/
def State.resumed (s : State) (p : PortId) : State :=
  ((s.modPort p (fun x => { x with state := .up })).clearQuiesceMarks p).announce p .quiescing .onRequested

/-- An entry as the return of port p to UP leaves it (R35). -/
def quiesceCleared (p : PortId) (e : Entry) : Entry := if e.port = some p then { e with quiesceMark := false } else e

theorem State.marked_resumed (s : State) (p : PortId) : s.Marked (s.resumed p) p { s.port p with state := .up } (quiesceCleared p) :=
  State.marked_announced _ _ _ _ _ _

theorem State.resume_eq (s : State) (p : PortId) : s.resume p =
    (allTargets.filter (fun y => (s.cell y p).state == .good && s.someHeld y)).foldl State.offerPlacement (s.resumed p) := by
  have hcell : (s.resumed p).cell = s.cell := State.cell_congr (by simp [State.resumed])
  have hheld : ∀ y, (s.resumed p).someHeld y = s.someHeld y := State.someHeld_congr (by simp [State.resumed])
  have hresume : s.resume p =
    (allTargets.filter (fun y => ((s.resumed p).cell y p).state == .good && (s.resumed p).someHeld y)).foldl State.offerPlacement
      (s.resumed p) := rfl
  simp only [hresume, hcell, hheld]

theorem State.RequestAtHead.resumed_answered {code : Byte} {args : List Byte} (hhead : s.RequestAtHead code args rest) (hr : s.raised = [])
    (r : Reply) :
    let t := (s.popIngress.resume p).close.pushReply r
    (t.link.ingress = rest ∧ t.link.replies = s.link.replies ++ [r]) ∧ s.Marked t p { s.port p with state := .up } (quiesceCleared p) ∧
    (∀ y ∈ allTargets, (s.cell y p).state = .good → s.someHeld y = true → .placement y ∈ t.failover.work) ∧
    s.notifies t (.portChange p .quiescing .up (s.port p).identity .onRequested) := by
  have hcell : s.popIngress.cell = s.cell := State.cell_congr (by simp)
  have hheld : ∀ y, s.popIngress.someHeld y = s.someHeld y := State.someHeld_congr (by simp)
  have hports : ((s.popIngress.modPort p (fun x => { x with state := .up })).clearQuiesceMarks p).port p = { s.port p with state := .up } := by
    have hports : ((s.popIngress.modPort p (fun x => { x with state := .up })).clearQuiesceMarks p).ports =
        (s.popIngress.modPort p (fun x => { x with state := .up })).ports := by simp
    rw [State.port_congr hports, State.port_modPort_self, s.popIngress_port]
  have hlist : ∀ y, y ∈ allTargets.filter (fun y => (s.cell y p).state == .good && s.someHeld y) ↔
      y ∈ allTargets ∧ (s.cell y p).state = .good ∧ s.someHeld y = true := fun y => by simp [List.mem_filter]
  rw [State.resume_eq, hcell]
  simp only [hheld]
  generalize allTargets.filter (fun y => (s.cell y p).state == .good && s.someHeld y) = l at hlist
  have hmem := (State.mem_foldl_offerPlacement l (s.popIngress.resumed p)).2
  have hmarked := ((s.popIngress.marked_resumed p).offerPlacements l).close
  have hlink := foldl_keeps (·.link) State.offerPlacement (by simp) l (s.popIngress.resumed p)
  have hanswer := hhead.answered (u := l.foldl State.offerPlacement (s.popIngress.resumed p)) (by rw [hlink]; simp [State.resumed]) r
  have hnotice := State.notifies_announced (s := s.popIngress)
    (x := (s.popIngress.modPort p (fun x => { x with state := .up })).clearQuiesceMarks p) (p := p) (by simpa using hr) (.of_eq (by simp) 1)
    (by simp) (.of_eq (foldl_keeps (·.raised) State.offerPlacement (by simp) l (s.popIngress.resumed p)) 0)
    (by rw [hlink]; simp [State.resumed])
  rw [hports] at hnotice
  rw [s.popIngress_port] at hmarked
  have hfailover : (l.foldl State.offerPlacement (s.popIngress.resumed p)).close.failover =
    (l.foldl State.offerPlacement (s.popIngress.resumed p)).failover := by simp
  rw [← hfailover] at hmem
  generalize (l.foldl State.offerPlacement (s.popIngress.resumed p)).close = v at *
  exact ⟨hanswer, hmarked.answered r, fun y hy hgood hsome => hmem y ((hlist y).2 ⟨hy, hgood, hsome⟩), hnotice.answered hhead.head r⟩

/-! ### RESET PORT -/

/-- The port's own part of RESET PORT (R70). -/
def Port.held (ends : Option Time) (x : Port) : Port := { x with state := .reset, retryBar := false, trainingEnds := none, holdEnds := ends }

theorem State.resetPort_unlinked (s : State) (p : PortId)
    (h : (s.port p).state = .off ∨ (s.port p).state = .down ∨ (s.port p).state = .training) :
    s.resetPort p = ((s.modPort p (Port.held (some (s.timeBase + ms (portResetHold s.config))))).offerIfWork p).announce p (s.port p).state
      .resetRequested := by
  rcases h with h | h | h <;> simp only [State.resetPort, h] <;> rfl

theorem State.resetPort_linked (s : State) (p : PortId) (h : (s.port p).state = .up ∨ (s.port p).state = .quiescing) :
    s.resetPort p = ((s.dropLink p .reset).modPort p (Port.held (some (s.timeBase + ms (portResetHold s.config))))).announce p
      (s.port p).state .resetRequested := by
  rcases h with h | h <;> simp only [State.resetPort, h] <;> rfl

theorem State.resetPort_reset (s : State) (p : PortId) (h : (s.port p).state = .reset) :
    s.resetPort p = s.modPort p (Port.held (some (s.timeBase + ms (portResetHold s.config)))) := by
  simp only [State.resetPort, h] <;> rfl

end

/-- Settles O24, request by request and by the state of the port. -/
theorem portOnAndResetRequests : Obligations.PortOnAndResetRequests := by
  refine ⟨fun s p rest hr hhead => ?_, fun s p rest hr hhead => ?_⟩
  · intro x answered
    have hport : (s.popIngress.port p).state = x.state := by rw [s.popIngress_port]
    have hexec : exec .portOn s = .next ((ownPortOn p s.popIngress).state.pushReply
        ⟨15, (ownPortOn p s.popIngress).status, (ownPortOn p s.popIngress).body⟩) := hhead.onRequest_eq (argsPort_ofNat p) ownPortOn
    refine ⟨fun hoff => ?_, fun hquiet => ?_, fun hoff hquiet => ?_⟩
    · have hexec := exec_of_done hexec (u := (s.popIngress.switchOn p).close) (by simp only [ownPortOn, hport, hoff])
      have hon := hhead.switchedOn_answered (p := p) hr ⟨15, .done, .none⟩
      generalize (s.popIngress.switchOn p).close.pushReply ⟨15, .done, .none⟩ = t at hexec hon
      exact ⟨t, hexec, hon⟩
    · have hexec := exec_of_done hexec (u := (s.popIngress.resume p).close) (by simp only [ownPortOn, hport, hquiet])
      obtain ⟨hanswer, hmarked, hitems, hnotice⟩ := hhead.resumed_answered (p := p) hr ⟨15, .done, .none⟩
      generalize (s.popIngress.resume p).close.pushReply ⟨15, .done, .none⟩ = t at hexec hanswer hmarked hitems hnotice
      refine ⟨t, hexec, hanswer, hmarked.port, hmarked.others, hmarked.routes, hmarked.table, fun pl => ?_, hitems, hmarked.report, hnotice⟩
      rw [hmarked.entries pl]
      cases s.entryAt pl with
      | none => rfl
      | some e => by_cases he : e.port = some p <;> simp [quiesceCleared, he]
    · refine exec_of_refused hhead hexec ?_
      cases h : x.state with
      | off => exact absurd h hoff
      | quiescing => exact absurd h hquiet
      | up => simp only [ownPortOn, hport, h]
      | down => simp only [ownPortOn, hport, h]
      | training => simp only [ownPortOn, hport, h]
      | reset => simp only [ownPortOn, hport, h]
  · intro x hold entered answered
    have hport : (s.popIngress.port p).state = x.state := by rw [s.popIngress_port]
    have hexec : exec .resetPort s = .next ((s.popIngress.resetPort p).close.pushReply ⟨16, .done, .none⟩) :=
      hhead.onRequest_eq (argsPort_ofNat p) (fun p u => doneWith .none (u.resetPort p).close)
    have hlinked := s.popIngress.resetPort_linked p
    have hunlinked := s.popIngress.resetPort_unlinked p
    have hreset := s.popIngress.resetPort_reset p
    rw [hport, s.popIngress_timeBase, s.popIngress_config] at hlinked hunlinked hreset
    refine ⟨fun hstate => ?_, fun hstate => ?_, fun hstate => ?_⟩
    · obtain ⟨hanswer, hlost, hset, hnotice⟩ := hhead.lost_answered hr (hlinked hstate) (by simp) (fun _ => ⟨rfl, rfl, rfl, rfl, rfl, rfl⟩)
        (by simp [Port.held]) ⟨16, .done, .none⟩
      generalize (s.popIngress.resetPort p).close.pushReply ⟨16, .done, .none⟩ = t at hexec hanswer hlost hset hnotice
      exact ⟨t, hexec, hanswer, hlost, by rw [hset]; rfl, by rw [hset]; rfl, by rw [hset]; rfl, by rw [hset]; rfl, hnotice⟩
    · obtain ⟨hanswer, hset, hwork, hnone, hreport, hnotice⟩ := hhead.unlinked_answered hr (hunlinked hstate) ⟨16, .done, .none⟩
      generalize (s.popIngress.resetPort p).close.pushReply ⟨16, .done, .none⟩ = t at hexec hanswer hset hwork hnone hreport hnotice
      exact ⟨t, hexec, hanswer, hset, hreport, hwork, hnone, hnotice⟩
    · obtain ⟨hset, honly⟩ := State.closed_modPort (s := s.popIngress) (by simpa using hr) p
        (Port.held (some (s.timeBase + ms (portResetHold s.config))))
      rw [← hreset hstate] at hset honly
      rw [s.popIngress_port] at hset
      have hlink : (s.popIngress.resetPort p).close.link = s.popIngress.link := honly .link (by simp)
      have hfailover : (s.popIngress.resetPort p).close.failover = s.popIngress.failover := honly .failover (by simp)
      have hrow : (s.popIngress.resetPort p).close.row = s.popIngress.row := honly .row (by simp)
      have hview : (s.popIngress.resetPort p).close.view = s.popIngress.view := honly .view (by simp)
      rw [s.popIngress_failover] at hfailover
      rw [s.popIngress_row] at hrow
      rw [s.popIngress_view] at hview
      generalize (s.popIngress.resetPort p).close = v at *
      exact ⟨_, hexec, hhead.link_answered hlink _, hset.answered _, hfailover, hrow, hview⟩

end Sys2Proof.Machine

namespace Sys2Proof.Machine
open Sys2Proof

/-! ### The cells of a list (R63, R78) -/

section
variable {s t u : State} {p q : PortId} {y z : Nat} {i : Slot}

/-- A cell that has just entered UNTESTED, with its probe due (R78, R81). -/
def Cell.testing (now : Time) (x : Cell) : Cell := ⟨.untested, 0, 0, 0, 0, x.probeNumber, none, true, none, some now, none⟩

/-- A cell that has just entered ABSENT (R78). -/
def Cell.unlisted (x : Cell) : Cell := ⟨.absent, 0, 0, 0, 0, x.probeNumber, none, false, none, none, none⟩

theorem State.cell_enterUntested (s : State) (p q : PortId) (z : Nat) (hy : y ∈ allTargets) :
    (s.enterUntested y p).cell z q = if y = z ∧ p = q then (s.cell y p).testing s.timeBase else s.cell z q := by
  rw [State.enterUntested, State.joinProbe, State.cell_congr (State.modPort_routes _ _ _), State.modCell_modCell, State.cell_modCell s _ _ _ _ _ hy]
  rfl

theorem State.cell_enterAbsent (s : State) (p q : PortId) (z : Nat) (hy : y ∈ allTargets) :
    (s.enterAbsent y p).cell z q = if y = z ∧ p = q then (s.cell y p).unlisted else s.cell z q := by
  rw [State.enterAbsent, State.cell_congr (State.modPort_routes _ _ _), State.cell_modCell s _ _ _ _ _ hy]
  rfl

theorem State.port_enterUntested (s : State) (y : Nat) (p : PortId) : (s.enterUntested y p).port p = (s.port p).probing y := by
  rw [State.enterUntested, State.port_joinProbe, State.port_modCell]

/-- What the entry of a list of targets into UNTESTED or ABSENT, in turn, leaves of the port and its cells. -/
theorem State.foldl_trainCells (p : PortId) (listed : Nat → Bool) (l : List Nat) (hl : ∀ y ∈ l, y ∈ allTargets) (honce : l.Nodup) (s : State)
    (hnew : ∀ y ∈ l, y ∉ (s.port p).pendingProbes) :
    let t := l.foldl (fun u y => if listed y then u.enterUntested y p else u.enterAbsent y p) s
    t.port p = { s.port p with pendingProbes := (s.port p).pendingProbes ++ l.filter listed } ∧
    ∀ z, t.cell z p = if z ∈ l then (if listed z then (s.cell z p).testing s.timeBase else (s.cell z p).unlisted) else s.cell z p := by
  induction l generalizing s with
  | nil => exact ⟨by simp, fun z => by simp⟩
  | cons y l ih =>
    obtain ⟨hy, honce⟩ := List.nodup_cons.1 honce
    have hyt := hl y List.mem_cons_self
    have hynew := hnew y List.mem_cons_self
    rw [List.foldl_cons]
    have hfirst : ((if listed y then s.enterUntested y p else s.enterAbsent y p).port p =
        { s.port p with pendingProbes := (s.port p).pendingProbes ++ (if listed y then [y] else []) }) ∧
        (∀ z, (if listed y then s.enterUntested y p else s.enterAbsent y p).cell z p =
          if y = z then (if listed y then (s.cell y p).testing s.timeBase else (s.cell y p).unlisted) else s.cell z p) ∧
        (if listed y then s.enterUntested y p else s.enterAbsent y p).timeBase = s.timeBase := by
      split
      · refine ⟨?_, fun z => by rw [State.cell_enterUntested s p p z hyt]; simp, by simp⟩
        rw [State.port_enterUntested, Port.probing, if_neg (by simpa using hynew)]
      · refine ⟨?_, fun z => by rw [State.cell_enterAbsent s p p z hyt]; simp, by simp⟩
        rw [State.port_enterAbsent, List.append_nil, List.filter_eq_self.2 fun z hz => by simpa using fun h : z = y => hynew (h ▸ hz)]
    generalize (if listed y then s.enterUntested y p else s.enterAbsent y p) = u at hfirst
    obtain ⟨hport, hcells, htime⟩ := hfirst
    obtain ⟨hports, hrest⟩ := ih (fun z hz => hl z (List.mem_cons_of_mem y hz)) honce u (fun z hz hmem => by
      rw [hport] at hmem
      rcases List.mem_append.1 hmem with h | h
      · exact hnew z (List.mem_cons_of_mem y hz) h
      · split at h
        · exact hy (List.mem_singleton.1 h ▸ hz)
        · cases h)
    refine ⟨?_, fun z => ?_⟩
    · rw [hports, hport, List.filter_cons]
      split <;> simp
    · rw [hrest, hcells, htime]
      by_cases hyz : y = z
      · subst hyz
        simp [hy]
      · simp [hyz, Ne.symm hyz]

/-! ### O36: LINK OFFER -/

/-- The port's own part of a training (R61, R62, R63). -/
def Port.trained (ends : Time) (identity grant : Byte) (reachList : BitVec 64) (accept : FabricFrame) (x : Port) : Port :=
  { x with
    state := .up, identity := some identity.toNat, reach := reachTargets reachList, credits := grant.toNat - 1, history := []
    trainingEnds := none, silenceEnds := some ends, lastSent := some accept }

theorem State.comeUp_eq (s : State) (p : PortId) (identity grant : Byte) (reachList : BitVec 64) : s.comeUp p identity grant reachList =
    ((s.modPort p (Port.trained (s.timeBase + ms (linkSilence s.config)) identity grant reachList
      (.linkAccept (BitVec.ofNat 8 s.station.id.val)))).trainCells p (reachTargets reachList)).announce p .training .trained := rfl

theorem contains_reachTargets (reachList : BitVec 64) (hy : y ∈ allTargets) : (reachTargets reachList).contains y = reachList.getLsbD y := by
  rw [Bool.eq_iff_iff, List.contains_iff_mem, reachTargets, List.mem_filter]
  exact and_iff_right hy

theorem State.sendable_close (s : State) : s.close.sendable = s.sendable := rfl

theorem State.ready_close_of_empty (h : s.ready p = []) : s.close.ready p = s.close.ex.order.filter (fun i => decide (s.close.sendable i = some p)) := by
  rw [State.ready_close, h, State.sendable_close]
  simp only [List.filter_nil, List.nil_append, List.contains_nil, Bool.not_false, Bool.and_true]
  exact List.filter_congr fun i _ => beq_eq_decide _ _

theorem State.onPort_trainCells (s : State) (p : PortId) (l : List Nat) : s.OnPort p (s.trainCells p l) :=
  List.foldlRecOn (motive := fun u => s.OnPort p u) _ _ (.refl s) fun u hu y _ => by
    split
    · exact hu.trans (u.onPort_enterUntested y p)
    · exact hu.trans (u.onPort_enterAbsent y p)

/-- All that a training leaves at the end of the step (R61 to R63). -/
theorem State.trained_close (s : State) (p : PortId) (identity grant : Byte) (reachList : BitVec 64) (hprobes : (s.port p).pendingProbes = []) :
    let t := (s.comeUp p identity grant reachList).close
    s.Trained t p identity grant reachList ∧ (t.port p).pendingTraces = (s.port p).pendingTraces ∧ s.otherPorts t p ∧ s.sameTable t ∧
    s.samePlacements t ∧ t.failover = s.failover ∧ s.reportedBy t := by
  generalize hm : s.modPort p (Port.trained (s.timeBase + ms (linkSilence s.config)) identity grant reachList
    (.linkAccept (BitVec.ofNat 8 s.station.id.val))) = m
  have hmport : m.port p = _ := hm ▸ s.port_modPort_self p _
  have hmcell : m.cell = s.cell := hm ▸ s.cell_modPort p _
  have hmonly : s.OnPort p m := hm ▸ s.onPort_modPort p _
  have hup : s.comeUp p identity grant reachList = (m.trainCells p (reachTargets reachList)).announce p .training .trained := by
    rw [State.comeUp_eq, hm]
  obtain ⟨hport, hcells⟩ := State.foldl_trainCells p (reachTargets reachList).contains allTargets (fun _ => id) (List.nodup_range' ..) m
    (fun y _ => by rw [hmport]; simp [Port.trained, hprobes])
  have honly := hmonly.trans (m.onPort_trainCells p (reachTargets reachList))
  rw [← reachTargets_eq_filter, hmport, show (Port.trained _ identity grant reachList _ (s.port p)).pendingProbes = [] from hprobes,
    List.nil_append] at hport
  have hwport : ((m.trainCells p (reachTargets reachList)).announce p .training .trained).close.port = (m.trainCells p (reachTargets reachList)).port := by
    rw [State.port_close, State.port_congr (State.announce_frame _ _ _ _).2.2.2.2.2.1]
  have hwcell : ((m.trainCells p (reachTargets reachList)).announce p .training .trained).close.cell = (m.trainCells p (reachTargets reachList)).cell := by
    rw [State.cell_close]
    exact State.cell_congr (by simp)
  have hset := ((m.trainCells p (reachTargets reachList)).portSet_announce p .training .trained).close
  have hex : (m.trainCells p (reachTargets reachList)).ex = s.ex := by rw [← hm]; simp
  have hcache : (m.trainCells p (reachTargets reachList)).cache = s.cache := by rw [← hm]; simp
  have hfailover : ((m.trainCells p (reachTargets reachList)).announce p .training .trained).close.failover = s.failover := by rw [← hm]; simp
  have hreport : s.reportedBy ((m.trainCells p (reachTargets reachList)).announce p .training .trained).close :=
    (State.Unreported.announce (by rw [← hm]; exact ⟨by simp, by simp, by simp, by simp, by simp⟩) p .training .trained).close
  have htime : m.timeBase = s.timeBase := by rw [← hm]; simp
  have hunfold : allTargets.foldl (fun u y => if (reachTargets reachList).contains y = true then u.enterUntested y p else u.enterAbsent y p) m =
      m.trainCells p (reachTargets reachList) := rfl
  rw [hunfold] at hport hcells
  rw [hup]
  generalize ((m.trainCells p (reachTargets reachList)).announce p .training .trained).close = t at *
  generalize m.trainCells p (reachTargets reachList) = w at *
  refine ⟨⟨?_, fun y hy => ?_, fun y q hq => ?_⟩, ?_, fun q hq => ?_, (State.sameTable.of_ex hex).trans hset.table,
    (State.samePlacements.of_cache hcache).trans hset.entries, hfailover, hreport⟩
  · rw [hwport, hport]
    rfl
  · rw [hwcell, hcells, if_pos hy, contains_reachTargets reachList hy, hmcell, htime]
    rfl
  · rw [hwcell, honly.cell q hq]
  · rw [hwport, hport]
    rfl
  · rw [hwport, honly.port q hq]

theorem State.ready_settleReady_of_not_up (h : (s.port p).state ≠ .up) : s.settleReady.ready p = [] := State.ready_close_of_not_up h

/-- Training is for the row view what DOWN is: the detection changes no count of cables (R134). -/
theorem State.countAllCables_detect (s : State) (p : PortId) : (s.detect p).countAllCables = s.countAllCables := by
  unfold State.detect
  split
  next h =>
    refine Eq.trans ?_ (State.countAllCables_modPort (s := s) (p := p)
      (fun x => { x with state := .training, trainingEnds := some (s.timeBase + ms (trainingWait s.config)) }) rfl ⟨h.1, rfl⟩)
    exact State.countAllCables_congr (by simp) (by simp)
  · rfl

theorem State.countAllCables_dropLink (s : State) (p : PortId) (entered : PortState) :
    (s.dropLink p entered).countAllCables = (s.cutLink p entered).countAllCables := by
  refine State.countAllCables_of_states (facesOf_of_bares ?_) (congrArg cellStatesOf ?_)
  · have hports : (s.dropLink p entered).ports = ((s.port p).pendingTraces.foldl (State.handBack p) (s.cutLink p entered)).ports := by
      simp [State.dropLink]
    rw [hports]
    exact State.foldl_handBack_bares p _ _
  · rw [State.dropLink, (State.offerPortLoss_frame _ p).2.2.2.2.2.2.2.1, State.foldl_handBack_routes]

/-- Two states reported from one, with the same counts of cables, hold the same view and row bus (R75, R135, R142). -/
theorem State.reportedBy.same (h : s.reportedBy t) (g : s.reportedBy u) (hcount : u.countAllCables = t.countAllCables) :
    u.view = t.view ∧ u.row = t.row := by
  obtain ⟨hview, hrow⟩ := State.reportedBy_iff.1 h
  obtain ⟨hview', hrow'⟩ := State.reportedBy_iff.1 g
  rw [hcount, ← hview] at hview'
  rw [hcount, ← hrow] at hrow'
  exact ⟨hview', hrow'⟩

theorem State.PortSet.settleReady {x : Port} (h : s.PortSet t p x) : s.PortSet t.settleReady p x :=
  ⟨h.port, h.others, h.routes, ⟨h.table.slots, h.table.free, h.table.order, h.table.results, h.table.outstanding⟩, h.entries⟩

/-- The link of a port lost to a switch restart, with the detection that makes the port ready for the restart's own offer (R60, R67). -/
theorem State.restarting (s : State) (p : PortId) (cause : PortCause) (hsignal : (s.port p).signal = true) (hbar : (s.port p).retryBar = false) :
    let w := (s.loseLink p cause).settleReady
    (s.dropLink p .down).PortSet w p
      { Port.cut .down (s.port p) with state := .training, trainingEnds := some (s.timeBase + ms (trainingWait s.config)) } ∧
    (s.cutLink p .down).reportCables.Unreported w ∧ w.ready p = [] ∧ w.failover = (s.dropLink p .down).failover ∧
    ((s.dropLink p .down).announce p (s.port p).state cause).Raises w 0 := by
  have hcut := s.unlinked_dropLink p (entered := .down) (by simp)
  generalize hv : (s.dropLink p .down).announce p (s.port p).state cause = v
  have hlose : (s.loseLink p cause).settleReady = (v.detect p).settleReady := by rw [← hv]; rfl
  rw [hlose]
  have hset : (s.dropLink p .down).PortSet v p (Port.cut .down (s.port p)) := by
    rw [← hcut.port, ← hv]
    exact State.portSet_announce _ _ _ _
  obtain ⟨hdetected, hraises, hagain⟩ := v.detect_spec p (by rw [hset.port]; rfl)
  have hframe : v.timeBase = s.timeBase ∧ v.config = s.config ∧ v.station = s.station ∧ v.failover = (s.dropLink p .down).failover := by
    rw [← hv]
    simp
  obtain ⟨htime, hconfig, hstation, hfailover⟩ := hframe
  rw [hset.port, htime, hconfig, if_pos ⟨hsignal, hbar⟩] at hdetected
  have hreport : s.reportedBy (v.detect p) := hagain s htime (hv ▸ hcut.unreported.announce p _ _)
  have hfirst : s.reportedBy (s.cutLink p .down).reportCables :=
    State.Unreported.report (by rw [State.cutLink_eq]; exact ⟨by simp, by simp, by simp, by simp, by simp⟩)
  have hcount : (v.detect p).countAllCables = (s.cutLink p .down).reportCables.countAllCables := by
    rw [State.countAllCables_detect, ← hv]
    calc ((s.dropLink p .down).announce p (s.port p).state cause).countAllCables
        = (s.dropLink p .down).countAllCables := State.countAllCables_congr (by simp) (by simp)
      _ = (s.cutLink p .down).countAllCables := s.countAllCables_dropLink p .down
      _ = (s.cutLink p .down).reportCables.countAllCables := (State.countAllCables_congr (by simp) (by simp)).symm
  obtain ⟨hview, hrow⟩ := hfirst.same hreport hcount
  refine ⟨(hset.trans hdetected).settleReady, ⟨hview, hrow, ?_, ?_, ?_⟩, ?_, ?_, hraises⟩
  · rw [State.cutLink_eq]
    simp [hconfig]
  · rw [State.cutLink_eq]
    simp [htime]
  · rw [State.cutLink_eq]
    simp [hstation]
  · exact State.ready_settleReady_of_not_up (by rw [hdetected.port]; simp)
  · simp [hfailover]

theorem offerValid_iff (identity grant : Byte) : offerValid identity grant = true ↔
    1 ≤ identity.toNat ∧ identity.toNat ≤ 15 ∧ 1 ≤ grant.toNat ∧ grant.toNat ≤ 64 := by
  simp [offerValid, and_assoc]

theorem State.notifies_trained (hr : s.raised = []) (p : PortId) (identity grant : Byte) (reachList : BitVec 64)
    (hprobes : (s.port p).pendingProbes = []) :
    s.notifies (s.comeUp p identity grant reachList).close (.portChange p .training .up (some identity.toNat) .trained) := by
  obtain ⟨htrained, -⟩ := s.trained_close p identity grant reachList hprobes
  have hport := htrained.port
  rw [State.comeUp_eq] at hport ⊢
  generalize hm : s.modPort p _ = m at hport ⊢
  have hframe : m.raised = s.raised ∧ m.timeBase = s.timeBase ∧ m.link = s.link := by
    rw [← hm]
    exact ⟨rfl, rfl, rfl⟩
  obtain ⟨hraised, htime, hlink⟩ := hframe
  rw [State.port_close, State.port_congr (State.announce_frame _ _ _ _).2.2.2.2.2.1] at hport
  have hnotice := State.notifies_announced (s := s) (x := m.trainCells p (reachTargets reachList)) (p := p) (left := .training)
    (cause := .trained) hr (.of_eq (by simp [hraised]) 1) (by simp [htime]) (.refl _ 0) (by simp [hlink])
  rw [hport] at hnotice
  exact hnotice

theorem State.raises_comeUp (s : State) (p : PortId) (identity grant : Byte) (reachList : BitVec 64) :
    s.Raises (s.comeUp p identity grant reachList) 0 := by
  rw [State.comeUp_eq]
  exact (State.Raises.of_eq (t := (s.modPort p _).trainCells p _) (by simp) 0).trans (State.raises_announce _ _ _ _)

/-- A switch restart: the link is lost, and the offer is the first of the new training (R61, R67). -/
theorem State.restarted (hr : s.raised = []) (p : PortId) (identity grant : Byte) (reachList : BitVec 64)
    (hsignal : (s.port p).signal = true) (hbar : (s.port p).retryBar = false) :
    let t := ((s.loseLink p .switchRestart).settleReady.comeUp p identity grant reachList).close
    s.Trained t p identity grant reachList ∧ (t.port p).pendingTraces = [] ∧ .portLoss p s.timeBase ∈ t.failover.work ∧
    (∀ i, i ∉ (s.port p).pendingTraces → t.record i = s.record i ∧ (i ∈ t.outstanding p ↔ i ∈ s.outstanding p)) ∧
    ((s.port p).pendingTraces.Nodup → s.HandedBack t p) ∧ (s.cutLink p .down).reportCables.reportedBy t ∧
    t.ready p = t.ex.order.filter (fun i => decide (t.sendable i = some p)) ∧
    s.notifies t (.portChange p (s.port p).state .down (s.port p).identity .switchRestart) := by
  have hcut := s.unlinked_dropLink p (entered := .down) (by simp)
  obtain ⟨hset, hunreported, hready, hfailover, hraises⟩ := s.restarting p .switchRestart hsignal hbar
  have hframe : (s.loseLink p .switchRestart).settleReady.timeBase = s.timeBase ∧ (s.loseLink p .switchRestart).settleReady.config = s.config ∧
      (s.loseLink p .switchRestart).settleReady.station = s.station ∧
      (s.loseLink p .switchRestart).settleReady.link.counted = s.link.counted := by simp [State.loseLink]
  have hnotice := State.notifies_announced (s := s) (x := s.dropLink p .down) (p := p) hr (.of_eq hcut.raised 1) hcut.unreported.time
    (hraises.trans (State.raises_comeUp _ p identity grant reachList))
    (HostLink.notices_of_counted (Eq.trans (by rw [State.comeUp_eq]; simp) hframe.2.2.2))
  rw [hcut.port] at hnotice
  generalize (s.loseLink p .switchRestart).settleReady = w at *
  obtain ⟨htime, hconfig, hstation, -⟩ := hframe
  obtain ⟨htrained, htraces, hothers, htable, -, hfailover', hreport⟩ := w.trained_close p identity grant reachList (by rw [hset.port]; rfl)
  have hinorder := State.ready_close_of_empty (s := w.comeUp p identity grant reachList) (p := p) (by
    have hex : (w.comeUp p identity grant reachList).ex = w.ex := by
      rw [State.comeUp_eq]
      simp
    rw [State.ready, hex]
    exact hready)
  generalize (w.comeUp p identity grant reachList).close = t at *
  have hrecord : t.record = (s.dropLink p .down).record := funext fun i => by
    rw [State.record, State.record, htable.slots, hset.table.slots]
  have hout : t.outstanding p = (s.dropLink p .down).outstanding p := by
    rw [State.outstanding, State.outstanding, htable.outstanding, hset.table.outstanding]
  have hcell : w.cell = (s.dropLink p .down).cell := State.cell_congr hset.routes
  have hnumber : ∀ y q, ((s.dropLink p .down).cell y q).probeNumber = (s.cell y q).probeNumber := fun y q => by
    rw [hcut.cells]
    split <;> rfl
  refine ⟨⟨?_, fun y hy => ?_, fun y q hq => ?_⟩, by rw [htraces, hset.port]; rfl, ?_, fun i hi => ⟨?_, ?_⟩, fun hnodup => ?_,
    hreport.before hunreported, hinorder, hnotice⟩
  · rw [htrained.port, hset.port, htime, hconfig, hstation]
    rfl
  · rw [htrained.cells y hy, hcell, hnumber, htime]
  · rw [htrained.otherCells y q hq, hcell, hcut.cells, if_neg fun h => hq h.1]
  · rw [hfailover', hfailover]
    exact hcut.item
  · rw [hrecord]
    exact (hcut.beside i hi).record
  · rw [hout]
    exact (hcut.beside i hi).outstanding p
  · refine (hcut.handed hnodup).congr (hset.table.trans htable) fun q => ?_
    by_cases hq : q = p
    · subst hq
      rw [htraces, hset.port, hcut.port]
    · rw [hothers q hq, hset.others q hq]

end

/-- Settles O36, by the state of the port. -/
theorem linkOffersTrainPorts : Obligations.LinkOffersTrainPorts := by
  intro s p identity grant reachList hr x c inOrder valid
  have hvalid : offerValid identity grant = true ↔ valid := offerValid_iff identity grant
  have hexec : exec c s = execLinkOffer p identity grant reachList s := rfl
  refine ⟨fun hstate hv hprobes => ?_, fun hstate hv => ?_, fun hstate hv hsignal hbar => ?_, fun hstate hv => ?_, fun hstate => ?_⟩
  · obtain ⟨htrained, htraces, hothers, htable, hplaced, hfailover, hreport⟩ := s.trained_close p identity grant reachList hprobes
    have hnotice := State.notifies_trained hr p identity grant reachList hprobes
    have hinorder := fun hready : (s.comeUp p identity grant reachList).ready p = [] => State.ready_close_of_empty hready
    have hready : (s.comeUp p identity grant reachList).ready p = s.ready p := by
      have hex : (s.comeUp p identity grant reachList).ex = s.ex := by
        rw [State.comeUp_eq]
        simp
      rw [State.ready, hex]
      rfl
    rw [hready] at hinorder
    have hexec : exec c s = .next (s.comeUp p identity grant reachList).close := by
      simp only [hexec, execLinkOffer, show (s.port p).state = .training from hstate, if_pos (hvalid.2 hv)]
    generalize (s.comeUp p identity grant reachList).close = t at *
    exact ⟨t, hexec, htrained, htraces, hothers, htable, hplaced, hfailover, hreport, hinorder, hnotice⟩
  · simp only [hexec, execLinkOffer, show (s.port p).state = .training from hstate, if_neg fun h => hv (hvalid.1 h)]
  · have hrestarted := State.restarted hr p identity grant reachList hsignal hbar
    have htraining : ((s.loseLink p .switchRestart).settleReady.port p).state = .training := by
      rw [(s.restarting p .switchRestart hsignal hbar).1.port]
    have hexec : exec c s = .next ((s.loseLink p .switchRestart).settleReady.comeUp p identity grant reachList).close := by
      rcases hstate with h | h <;>
        simp only [hexec, execLinkOffer, show (s.port p).state = _ from h, if_pos (hvalid.2 hv), if_pos htraining]
    generalize ((s.loseLink p .switchRestart).settleReady.comeUp p identity grant reachList).close = t at *
    exact ⟨t, hexec, hrestarted⟩
  · have hheard : exec c s = .next (s.heard p) := by
      rcases hstate with h | h <;> simp only [hexec, execLinkOffer, show (s.port p).state = _ from h, if_neg fun h => hv (hvalid.1 h)]
    rw [hheard, State.heard_of_linked]
    rcases hstate with h | h <;> rw [show (s.port p).state = _ from h] <;> rfl
  · rcases hstate with h | h | h <;> simp only [hexec, execLinkOffer, show (s.port p).state = _ from h]

end Sys2Proof.Machine

namespace Sys2Proof.Machine
open Sys2Proof

/-! ### O37: REACH -/

section
variable {s t u v : State} {p q : PortId} {y z : Nat} {old new : List Nat} {l m : List Nat}

/-- The cell of a target that a REACH adds to the list, drops from it, or leaves (R63, R78). -/
def Cell.reached (now : Time) (old new : List Nat) (y : Nat) (x : Cell) : Cell :=
  if y ∈ new ∧ y ∉ old then x.testing now else if y ∈ old ∧ y ∉ new then x.unlisted else x

/-- What a REACH has done for the targets of l (R63, R78, R89, R94). -/
structure State.Reached (s t : State) (p : PortId) (old new l : List Nat) : Prop where
  cells : ∀ z q, t.cell z q = if q = p ∧ z ∈ l then (s.cell z p).reached s.timeBase old new z else s.cell z q
  port : t.port p = { s.port p with pendingProbes := (t.port p).pendingProbes }
  added : ∀ z ∈ l, z ∈ new → z ∉ old → z ∈ (t.port p).pendingProbes
  dropped : ∀ z ∈ l, z ∈ old → z ∉ new → z ∉ (t.port p).pendingProbes
  probes : ∀ z, z ∉ l → (z ∈ (t.port p).pendingProbes ↔ z ∈ (s.port p).pendingProbes)
  others : s.otherPorts t p
  ex : t.ex = s.ex
  time : t.timeBase = s.timeBase
  work : ∀ w ∈ s.failover.work, w ∈ t.failover.work
  stands : t.portLossStands p = s.portLossStands p
  items : ∀ z ∈ l, z ∈ old → z ∉ new → (s.cell z p).state = .good ∨ s.carries z p = true →
    .cellLoss z p ∈ t.failover.work ∨ s.portLossStands p = true
  raises : s.Raises t 1
  quiet : (∀ z ∈ l, z ∈ old → z ∈ new) → t.raised = s.raised

theorem State.Reached.refl (s : State) (p : PortId) (old new : List Nat) : s.Reached s p old new [] :=
  ⟨fun _ _ => (if_neg fun h => List.not_mem_nil h.2).symm, rfl, fun _ h => absurd h List.not_mem_nil, fun _ h => absurd h List.not_mem_nil,
    fun _ _ => .rfl, fun _ _ => rfl, rfl, rfl, fun _ => id, rfl, fun _ h => absurd h List.not_mem_nil, .refl s 1, fun _ => rfl⟩

theorem State.Reached.trans (h : s.Reached t p old new l) (g : t.Reached u p old new m) (hdisjoint : ∀ z ∈ l, z ∉ m) :
    s.Reached u p old new (l ++ m) where
  cells z q := by
    rw [g.cells, h.cells, h.cells, h.time]
    by_cases hq : q = p
    · subst hq
      by_cases hl : z ∈ l
      · simp [hl, hdisjoint z hl]
      · simp [hl]
    · simp [hq]
  port := by rw [g.port, h.port]
  added z hz hnew hold := by
    by_cases hm : z ∈ m
    · exact g.added z hm hnew hold
    · exact (g.probes z hm).2 (h.added z ((List.mem_append.1 hz).resolve_right hm) hnew hold)
  dropped z hz hold hnew := by
    by_cases hm : z ∈ m
    · exact g.dropped z hm hold hnew
    · exact fun hc => h.dropped z ((List.mem_append.1 hz).resolve_right hm) hold hnew ((g.probes z hm).1 hc)
  probes z hz := by
    rw [List.mem_append, not_or] at hz
    exact (g.probes z hz.2).trans (h.probes z hz.1)
  others q hq := (g.others q hq).trans (h.others q hq)
  ex := g.ex.trans h.ex
  time := g.time.trans h.time
  work w hw := g.work w (h.work w hw)
  stands := g.stands.trans h.stands
  items z hz hold hnew hcarried := by
    by_cases hl : z ∈ l
    · exact (h.items z hl hold hnew hcarried).imp_left (g.work _)
    · rw [← h.stands]
      refine g.items z ((List.mem_append.1 hz).resolve_left hl) hold hnew ?_
      have hcell : t.cell z p = s.cell z p := by rw [h.cells, if_neg fun hc => hl hc.2]
      have hcarries : t.carries z p = s.carries z p := by simp only [State.carries, State.outstanding, h.ex, State.live_congr h.ex]
      rwa [hcell, hcarries]
  raises := h.raises.trans g.raises
  quiet hnone := (g.quiet fun z hz => hnone z (List.mem_append_right l hz)).trans (h.quiet fun z hz => hnone z (List.mem_append_left m hz))

theorem State.reachTarget_of_added (hnew : y ∈ new) (hold : y ∉ old) (s : State) : State.reachTarget p old new s y = s.enterUntested y p :=
  if_pos (by simp [hnew, hold])

theorem State.reachTarget_of_same (h : y ∈ old ↔ y ∈ new) (s : State) : State.reachTarget p old new s y = s := by
  unfold State.reachTarget
  by_cases hold : y ∈ old
  · simp [hold, h.1 hold]
  · have hnew : y ∉ new := fun hc => hold (h.2 hc)
    simp [hold, hnew]

/-- The notice of a dropped cell, and its cell-loss item (R89, R94). -/
def State.dropReported (s : State) (p : PortId) (y : Nat) (v : State) : State :=
  let u := if (s.cell y p).state = .absent then v else v.raiseCell y p (s.cell y p).state .dropped
  if (s.cell y p).state = .good ∨ s.carries y p = true then u.offerCellLoss y p else u

theorem State.reachTarget_of_dropped (hold : y ∈ old) (hnew : y ∉ new) (s : State) :
    State.reachTarget p old new s y = s.dropReported p y (s.enterAbsent y p) := by
  unfold State.reachTarget
  rw [if_neg (by simp [hnew]), if_pos (by simp [hold, hnew])]
  rfl

theorem State.dropReported_frame (s : State) (p : PortId) (y : Nat) (v : State) :
    (s.dropReported p y v).ports = v.ports ∧ (s.dropReported p y v).routes = v.routes ∧ (s.dropReported p y v).ex = v.ex ∧
    (s.dropReported p y v).timeBase = v.timeBase := by
  unfold State.dropReported
  dsimp only
  split <;> split <;> simp

theorem State.dropReported_work (s : State) (p : PortId) (y : Nat) (v : State) :
    (∀ w ∈ v.failover.work, w ∈ (s.dropReported p y v).failover.work) ∧ (s.dropReported p y v).portLossStands p = v.portLossStands p ∧
    ((s.cell y p).state = .good ∨ s.carries y p = true →
      .cellLoss y p ∈ (s.dropReported p y v).failover.work ∨ v.portLossStands p = true) := by
  unfold State.dropReported
  dsimp only
  generalize hu : (if (s.cell y p).state = .absent then v else v.raiseCell y p (s.cell y p).state .dropped) = u
  have hfailover : u.failover = v.failover := by rw [← hu]; split <;> simp
  have hstands : u.portLossStands p = v.portLossStands p := by rw [State.portLossStands, State.portLossStands, hfailover]
  split
  next h =>
    obtain ⟨-, hkept, hwork⟩ := u.offerCellLoss_steady y p
    rw [hfailover] at hwork
    refine ⟨hwork, hkept.trans hstands, fun _ => ?_⟩
    have hmem := u.mem_offerCellLoss y p
    rwa [hkept, hstands] at hmem
  next h => exact ⟨fun w hw => hfailover ▸ hw, hstands, fun hc => absurd hc h⟩

/-- The drop of a cell other than ABSENT is noticed (R89). -/
theorem State.dropReported_raised (s : State) (p : PortId) (y : Nat) (v : State) : (s.dropReported p y v).raised =
    if (s.cell y p).state = .absent then v.raised else
      v.raised ++ [⟨v.timeBase, .cellChange y p (s.cell y p).state (v.cell y p).state .dropped (v.cell y p).step (v.cell y p).misses⟩] := by
  unfold State.dropReported
  dsimp only
  have hoffer : ∀ u : State, (if (s.cell y p).state = .good ∨ s.carries y p = true then u.offerCellLoss y p else u).raised = u.raised :=
    fun u => by split <;> simp
  rw [hoffer]
  split <;> rfl

theorem State.reached_same (h : y ∈ old ↔ y ∈ new) (s : State) : s.Reached s p old new [y] where
  cells z q := by
    by_cases hc : q = p ∧ z ∈ [y]
    · rw [if_pos hc, Cell.reached, List.mem_singleton.1 hc.2, if_neg fun hn => hn.2 (h.2 hn.1), if_neg fun hn => hn.2 (h.1 hn.1), hc.1]
    · rw [if_neg hc]
  port := rfl
  added z hz hnew hold := absurd (List.mem_singleton.1 hz ▸ hnew) fun hc => hold (List.mem_singleton.1 hz ▸ h.2 hc)
  dropped z hz hold hnew := absurd (List.mem_singleton.1 hz ▸ hold) fun hc => hnew (List.mem_singleton.1 hz ▸ h.1 hc)
  probes _ _ := .rfl
  others _ _ := rfl
  ex := rfl
  time := rfl
  work _ := id
  stands := rfl
  items z hz hold hnew := absurd (List.mem_singleton.1 hz ▸ hold) fun hc => hnew (List.mem_singleton.1 hz ▸ h.1 hc)
  raises := .refl s 1
  quiet _ := rfl

theorem State.reached_added (hy : y ∈ allTargets) (hnew : y ∈ new) (hold : y ∉ old) (s : State) :
    s.Reached (s.enterUntested y p) p old new [y] where
  cells z q := by
    rw [State.cell_enterUntested s p q z hy]
    by_cases hc : q = p ∧ z ∈ [y]
    · rw [if_pos hc, if_pos ⟨(List.mem_singleton.1 hc.2).symm, hc.1.symm⟩, Cell.reached, List.mem_singleton.1 hc.2, if_pos ⟨hnew, hold⟩]
    · rw [if_neg hc, if_neg fun h => hc ⟨h.2.symm, List.mem_singleton.2 h.1.symm⟩]
  port := by
    obtain ⟨probes, hprobes⟩ := (s.port p).probing_eq y
    rw [State.port_enterUntested, hprobes]
  added z hz _ _ := by
    rw [State.port_enterUntested, Port.mem_probing]
    exact .inr (List.mem_singleton.1 hz)
  dropped z hz hin := absurd (List.mem_singleton.1 hz ▸ hin) hold
  probes z hz := by
    rw [State.port_enterUntested, Port.mem_probing]
    exact or_iff_left fun h => hz (List.mem_singleton.2 h)
  others q hq := (s.onPort_enterUntested y p).port q hq
  ex := by simp
  time := by simp
  work w hw := by simpa using hw
  stands := by simp [State.portLossStands]
  items z hz hin := absurd (List.mem_singleton.1 hz ▸ hin) hold
  raises := .of_eq (by simp) 1
  quiet _ := by simp

theorem State.reached_dropped (hy : y ∈ allTargets) (hold : y ∈ old) (hnew : y ∉ new) (s : State) :
    s.Reached (s.dropReported p y (s.enterAbsent y p)) p old new [y] := by
  obtain ⟨hports, hroutes, hex, htime⟩ := s.dropReported_frame p y (s.enterAbsent y p)
  obtain ⟨hwork, hstands, hitem⟩ := s.dropReported_work p y (s.enterAbsent y p)
  have hraised := s.dropReported_raised p y (s.enterAbsent y p)
  have hport := State.port_congr hports
  have hkept : (s.enterAbsent y p).portLossStands p = s.portLossStands p := by simp [State.portLossStands]
  refine ⟨fun z q => ?_, by rw [hport, State.port_enterAbsent], fun z hz hin => absurd (List.mem_singleton.1 hz ▸ hin) hnew,
    fun z hz _ _ => ?_, fun z hz => ?_, fun q hq => ?_, hex.trans (by simp), htime.trans (by simp), fun w hw => hwork w (by simpa using hw),
    hstands.trans hkept, fun z hz _ _ => ?_, ?_, fun hnone => absurd (hnone y (List.mem_singleton.2 rfl) hold) hnew⟩
  · rw [State.cell_congr hroutes, State.cell_enterAbsent s p q z hy]
    by_cases hc : q = p ∧ z ∈ [y]
    · rw [if_pos hc, if_pos ⟨(List.mem_singleton.1 hc.2).symm, hc.1.symm⟩, Cell.reached, List.mem_singleton.1 hc.2,
        if_neg fun h => hnew h.1, if_pos ⟨hold, hnew⟩]
    · rw [if_neg hc, if_neg fun h => hc ⟨h.2.symm, List.mem_singleton.2 h.1.symm⟩]
  · rw [hport, State.port_enterAbsent, List.mem_singleton.1 hz]
    simp
  · rw [hport, State.port_enterAbsent]
    have hzy : z ≠ y := fun h => hz (List.mem_singleton.2 h)
    simp [hzy]
  · rw [hport, (s.onPort_enterAbsent y p).port q hq]
  · rw [List.mem_singleton.1 hz]
    exact hkept ▸ hitem
  · by_cases habsent : (s.cell y p).state = .absent
    · rw [if_pos habsent] at hraised
      exact .of_eq (hraised.trans (by simp)) 1
    · rw [if_neg habsent] at hraised
      refine ⟨_, hraised.trans (congrArg (· ++ _) (by simp)), fun n hn => ?_⟩
      rw [List.mem_singleton.1 hn]
      rfl

theorem State.reached_step (hy : y ∈ allTargets) (s : State) : s.Reached (State.reachTarget p old new s y) p old new [y] := by
  by_cases hold : y ∈ old
  · by_cases hnew : y ∈ new
    · rw [State.reachTarget_of_same (by simp [hold, hnew])]
      exact State.reached_same (by simp [hold, hnew]) s
    · rw [State.reachTarget_of_dropped hold hnew]
      exact State.reached_dropped hy hold hnew s
  · by_cases hnew : y ∈ new
    · rw [State.reachTarget_of_added hnew hold]
      exact State.reached_added hy hnew hold s
    · rw [State.reachTarget_of_same (by simp [hold, hnew])]
      exact State.reached_same (by simp [hold, hnew]) s

theorem State.reached_foldl (l : List Nat) (hl : ∀ y ∈ l, y ∈ allTargets) (honce : l.Nodup) (s : State) :
    s.Reached (l.foldl (State.reachTarget p old new) s) p old new l := by
  induction l generalizing s with
  | nil => exact .refl s p old new
  | cons y l ih =>
    obtain ⟨hy, honce⟩ := List.nodup_cons.1 honce
    exact (State.reached_step (hl y List.mem_cons_self) s).trans (ih (fun z hz => hl z (List.mem_cons_of_mem y hz)) honce _)
      fun z hz => List.mem_singleton.1 hz ▸ hy

/-- The notice of the first target that a REACH drops, before any other the drop may cause (R89). -/
theorem State.notifies_dropped (hr : s.raised = []) (hu : u.raised = []) (htime : u.timeBase = s.timeBase) (hy : y ∈ allTargets) (hold : y ∈ old)
    (hnew : y ∉ new) (hpresent : (u.cell y p).state ≠ .absent) (hfirst : ∀ z ∈ allTargets, z < y → z ∈ old → z ∈ new)
    (hlater : (allTargets.foldl (State.reachTarget p old new) u).Raises v 1) (hlink : v.link.notices = s.link.notices) :
    s.notifies v.close (.cellChange y p (u.cell y p).state .absent .dropped 0 0) := by
  obtain ⟨before, after, hsplit⟩ := List.append_of_mem hy
  have honce : allTargets.Nodup := List.nodup_range' ..
  have hsorted : allTargets.Pairwise (· < ·) := List.pairwise_lt_range' ..
  have hmem : ∀ z, z ∈ before → z ∈ allTargets ∧ z < y := fun z hz => by
    rw [hsplit] at hsorted ⊢
    exact ⟨List.mem_append_left _ hz, (List.pairwise_append.1 hsorted).2.2 z hz y List.mem_cons_self⟩
  rw [hsplit] at honce
  obtain ⟨hbefore, hcons, -⟩ := List.nodup_append.1 honce
  have hreached := State.reached_foldl (p := p) (old := old) (new := new) before (fun z hz => (hmem z hz).1) hbefore u
  have hrest : ∀ z ∈ after, z ∈ allTargets := fun z hz => by rw [hsplit]; exact List.mem_append_right _ (List.mem_cons_of_mem y hz)
  rw [hsplit, List.foldl_append, List.foldl_cons, State.reachTarget_of_dropped hold hnew] at hlater
  have hquiet := hreached.quiet fun z hz => hfirst z (hmem z hz).1 (hmem z hz).2
  have hcell : (before.foldl (State.reachTarget p old new) u).cell y p = u.cell y p := by
    rw [hreached.cells, if_neg fun h => absurd (hmem y h.2).2 (lt_irrefl y)]
  have htime' := hreached.time
  generalize before.foldl (State.reachTarget p old new) u = w at hlater hquiet hcell htime'
  have hraised := w.dropReported_raised p y (w.enterAbsent y p)
  rw [hcell, if_neg hpresent, State.cell_enterAbsent w p p y hy, if_pos ⟨rfl, rfl⟩] at hraised
  have hstep : (w.raise (.cellChange y p (u.cell y p).state .absent .dropped 0 0)).Raises (w.dropReported p y (w.enterAbsent y p)) 1 :=
    .of_eq (hraised.trans (by simp [State.raise, Cell.unlisted])) 1
  have hafter := (State.reached_foldl (p := p) (old := old) (new := new) after hrest (List.nodup_cons.1 hcons).2
    (w.dropReported p y (w.enterAbsent y p))).raises
  exact State.notifies_of_raises (x := w) (u := v.settleReady) hr (.of_eq (hquiet.trans (hu.trans hr.symm)) 2) (htime'.trans htime)
    ((hstep.trans hafter).trans hlater) hlink

end

theorem mem_reachTargets (reachList : BitVec 64) {y : Nat} (hy : y ∈ allTargets) : y ∈ reachTargets reachList ↔ reachList.getLsbD y = true := by
  rw [reachTargets, List.mem_filter]
  exact and_iff_right hy

/-- Settles O37, from what the REACH does for each target in turn. -/
theorem reachReplacesTheList : Obligations.ReachReplacesTheList := by
  intro s p reachList hr hlinked x added dropped
  have hexec : exec (.reach p reachList) s = .next ((s.heard p).takeReach p (reachTargets reachList)).close := if_pos hlinked
  rw [State.heard_of_linked hlinked] at hexec
  have hnew : ∀ y ∈ allTargets, (y ∈ reachTargets reachList ↔ reachList.getLsbD y = true) := fun y hy => mem_reachTargets reachList hy
  have hgone : ∀ y ∈ allTargets, reachList.getLsbD y = false → y ∉ reachTargets reachList := fun y hy hlisted h => by
    rw [(hnew y hy).1 h] at hlisted
    cases hlisted
  generalize hm : (s.setPort p { s.port p with silenceEnds := some (s.timeBase + ms (linkSilence s.config)) }).modPort p
    (fun x => { x with reach := reachTargets reachList }) = m
  have hreached := State.reached_foldl (p := p) (old := x.reach) (new := reachTargets reachList) allTargets (fun _ => id) (List.nodup_range' ..) m
  have hmport : ∀ q, m.port q = if p = q then { x with reach := reachTargets reachList, silenceEnds := some (s.timeBase + ms (linkSilence s.config)) }
      else s.port q := fun q => by
    rw [← hm, State.port_modPort, State.port_setPort, State.port_setPort, if_pos rfl]
    split <;> rfl
  have hmframe : m.cell = s.cell ∧ m.ex = s.ex ∧ m.cache = s.cache ∧ m.timeBase = s.timeBase ∧ m.failover = s.failover ∧ m.raised = s.raised ∧
      m.link = s.link ∧ s.Unreported m := by
    rw [← hm]
    exact ⟨rfl, rfl, rfl, rfl, rfl, rfl, rfl, ⟨rfl, rfl, rfl, rfl, rfl⟩⟩
  obtain ⟨hmcell, hmex, hmcache, hmtime, hmfailover, hmraised, hmlink, hmfrom⟩ := hmframe
  have htake : (s.setPort p { s.port p with silenceEnds := some (s.timeBase + ms (linkSilence s.config)) }).takeReach p (reachTargets reachList) =
      State.reportIfLostness (s.allCellsLost p) p (allTargets.foldl (State.reachTarget p x.reach (reachTargets reachList)) m) := by
    have hold : ((s.setPort p { s.port p with silenceEnds := some (s.timeBase + ms (linkSilence s.config)) }).port p).reach = x.reach := by
      rw [State.port_setPort, if_pos rfl]
    rw [← hm, ← hold]
    rfl
  rw [htake] at hexec
  have hkeeps : ∀ {α : Type} (f : State → α), (∀ v y, f (State.reachTarget p x.reach (reachTargets reachList) v y) = f v) →
      f (allTargets.foldl (State.reachTarget p x.reach (reachTargets reachList)) m) = f m := fun f hf => foldl_keeps f _ hf _ _
  have hfrom : s.Unreported (allTargets.foldl (State.reachTarget p x.reach (reachTargets reachList)) m) :=
    hmfrom.trans ⟨hkeeps (·.view) (by simp), hkeeps (·.row) (by simp), hkeeps (·.config) (by simp), hkeeps (·.timeBase) (by simp),
      hkeeps (·.station) (by simp)⟩
  have hcache := hkeeps (·.cache) (by simp)
  have hlink := hkeeps (·.link) (by simp)
  have hnotice := fun y (hy : y ∈ allTargets) => State.notifies_dropped (s := s) (p := p) (old := x.reach) (new := reachTargets reachList) (y := y)
    (v := State.reportIfLostness (s.allCellsLost p) p (allTargets.foldl (State.reachTarget p x.reach (reachTargets reachList)) m)) hr
    (hmraised.trans hr) hmtime hy
  generalize allTargets.foldl (State.reachTarget p x.reach (reachTargets reachList)) m = u at *
  have hport := hreached.port
  have hreport := hfrom.lostness (p := p) (by rw [hport, hmport, if_pos rfl])
  have hclosed : s.lostnessReported (State.reportIfLostness (s.allCellsLost p) p u).close p :=
    hreport.keep (by simp) (by simp) (by simp) (by simp)
  have htport : (State.reportIfLostness (s.allCellsLost p) p u).close.port = u.port := by
    rw [State.port_close]
    exact State.port_congr (by simp)
  have htcell : (State.reportIfLostness (s.allCellsLost p) p u).close.cell = u.cell := by
    rw [State.cell_close]
    exact State.cell_congr (by simp)
  have htfailover : (State.reportIfLostness (s.allCellsLost p) p u).close.failover = u.failover := by simp
  have httable : s.sameTable (State.reportIfLostness (s.allCellsLost p) p u).close :=
    (State.sameTable.of_ex (by simp [hreached.ex, hmex])).trans (State.sameTable_close _)
  have htplaced : s.samePlacements (State.reportIfLostness (s.allCellsLost p) p u).close :=
    ((State.samePlacements.of_cache (hcache.trans hmcache)).trans (u.samePlacements_reportIfLostness _ p)).trans (State.portSet_close _ p).entries
  have hnotice := fun y (hy : y ∈ allTargets) (hold : y ∈ x.reach) (hdrop : y ∉ reachTargets reachList)
      (hpresent : (s.cell y p).state ≠ .absent) (hfirst : ∀ z ∈ allTargets, z < y → z ∈ x.reach → z ∈ reachTargets reachList) =>
    hnotice y hy hold hdrop (by rwa [hmcell]) hfirst ((u.raises_reportIfLostness _ p).mono (by simp))
      (by simpa using congrArg HostLink.notices (hlink.trans hmlink))
  rw [hmcell] at hnotice
  generalize (State.reportIfLostness (s.allCellsLost p) p u).close = t at *
  have hcarries : ∀ y, m.carries y p = s.carries y p := fun y => by
    simp only [State.carries, State.outstanding, hmex, State.live_congr hmex]
  have hstands : m.portLossStands p = s.portLossStands p := by rw [State.portLossStands, State.portLossStands, hmfailover]
  have hcells : ∀ y ∈ allTargets, t.cell y p = (s.cell y p).reached s.timeBase x.reach (reachTargets reachList) y := fun y hy => by
    rw [htcell, hreached.cells, if_pos ⟨rfl, hy⟩, hmcell, hmtime]
  refine ⟨t, hexec, httable, fun q hq => ?_, htplaced, hclosed, ?_, fun y hy => ⟨fun hadd => ?_, fun hdrop => ?_, fun hadd hdrop => ?_,
    fun hdrop hcarried => ?_⟩, fun y q hq => ?_, fun y hy hdrop hpresent hfirst => ?_⟩
  · rw [htport, hreached.others q hq, hmport, if_neg (Ne.symm hq)]
  · rw [htport, hport, hmport, if_pos rfl]
  · obtain ⟨hlisted, hold⟩ := hadd
    have hin := (hnew y hy).2 hlisted
    refine ⟨?_, by rw [htport]; exact hreached.added y hy hin hold⟩
    rw [hcells y hy, Cell.reached, if_pos ⟨hin, hold⟩]
    rfl
  · obtain ⟨hlisted, hold⟩ := hdrop
    have hout := hgone y hy hlisted
    refine ⟨?_, by rw [htport]; exact hreached.dropped y hy hold hout⟩
    rw [hcells y hy, Cell.reached, if_neg fun h => hout h.1, if_pos ⟨hold, hout⟩]
    rfl
  · rw [hcells y hy, Cell.reached, if_neg fun h => hadd ⟨(hnew y hy).1 h.1, h.2⟩, if_neg fun h => hdrop ⟨?_, h.1⟩]
    exact Bool.eq_false_iff.2 fun hc => h.2 ((hnew y hy).2 hc)
  · obtain ⟨hlisted, hold⟩ := hdrop
    have hout := hgone y hy hlisted
    have hitem := hreached.items y hy hold hout (by rwa [hmcell, hcarries])
    rwa [htfailover, ← hstands]
  · rw [htcell, hreached.cells, if_neg fun h => hq h.1, hmcell]
  · obtain ⟨hlisted, hold⟩ := hdrop
    have hout := hgone y hy hlisted
    refine hnotice y hy hold hout hpresent fun z hz hlt hzold => (hnew z hz).2 ?_
    exact (Bool.not_eq_false _).mp fun hc => hfirst z hz hlt ⟨hc, hzold⟩

end Sys2Proof.Machine

namespace Sys2Proof.Machine
open Sys2Proof

/-! ### O9: host resets -/

section
variable {s t u v : State} {p q : PortId} {y z : Nat} {n : Notice}

theorem queueNotice_eq (l : HostLink) (n : Notice) : ∃ more d, queueNotice l n = { l with notices := l.notices ++ more, dropped := d } := by
  unfold queueNotice
  split
  · exact ⟨[n], l.dropped, rfl⟩
  · exact ⟨[], true, by rw [List.append_nil]⟩

/-- The notices of a step join the tail of the queue, as far as there is room (R156). -/
theorem State.flush_link_appends (s : State) : ∃ more d, s.flush.link = { s.link with notices := s.link.notices ++ more, dropped := d } := by
  have hfold : ∀ (l : List Notice) (x : HostLink), ∃ more d, l.foldl queueNotice x = { x with notices := x.notices ++ more, dropped := d } :=
    fun l => by
      induction l with
      | nil => exact fun x => ⟨[], x.dropped, by rw [List.append_nil]; rfl⟩
      | cons n l ih =>
        intro x
        obtain ⟨first, d, hfirst⟩ := queueNotice_eq x n
        obtain ⟨more, d', hmore⟩ := ih (queueNotice x n)
        refine ⟨first ++ more, d', ?_⟩
        rw [List.foldl_cons, hmore, hfirst, List.append_assoc]
  exact hfold _ _

theorem State.flush_single (hraised : s.raised = [n]) (hroom : s.link.notices.length < 16) :
    s.flush.link = { s.link with notices := s.link.notices ++ [n] } := by
  have horder : orderNotices [n] = [n] := by
    obtain ⟨time, body⟩ := n
    cases body <;> rfl
  unfold State.flush
  rw [hraised, horder, List.foldl_cons, List.foldl_nil]
  exact if_pos hroom

/-- The notices that a host reset queues first (R137, R158). -/
def State.restartNotices (s : State) : List Notice :=
  ⟨s.timeBase, .started s.station.id ⟨false, false, true⟩ s.station.outcome⟩ ::
    if s.row.lineFault = .heldLow then [⟨s.timeBase, .rowFault .lineHeldLow none⟩] else []

theorem RowBus.lineFault_hostReset (r : RowBus) : r.hostReset.lineFault = r.lineFault := by
  unfold RowBus.hostReset
  dsimp only
  split <;> rfl

theorem State.link_queueRestart (s : State) : s.hostCleared.queueRestart.link =
    { HostLink.afterReset with lastSent := s.link.lastSent, notices := s.restartNotices } := by
  have hfirst := State.flush_single (s := s.hostCleared.raise (.started s.hostCleared.station.id s.hostCleared.station.resetKind
    s.hostCleared.station.outcome)) rfl (Nat.zero_lt_succ 15)
  generalize hu : (s.hostCleared.raise (.started s.hostCleared.station.id s.hostCleared.station.resetKind
    s.hostCleared.station.outcome)).flush = u at hfirst
  have hrestart : s.hostCleared.queueRestart = if u.row.lineFault = .heldLow then (u.raise (.rowFault .lineHeldLow none)).flush else u := by
    rw [← hu]
    rfl
  have hfault : u.row.lineFault = s.row.lineFault := hu ▸ RowBus.lineFault_hostReset s.row
  have htime : u.timeBase = s.timeBase := by rw [← hu]; simp
  have hraised : u.raised = [] := by rw [← hu]; simp
  have hlink : u.link = { HostLink.afterReset with
      lastSent := s.link.lastSent
      notices := [⟨s.timeBase, .started s.station.id ⟨false, false, true⟩ s.station.outcome⟩] } := by
    rw [hfirst, State.raise, s.hostCleared_frame.1]
    rfl
  rw [hrestart, hfault, State.restartNotices]
  split
  · rw [State.flush_single (s := u.raise _) (congrArg (· ++ _) hraised) (by rw [State.raise_link, hlink]; simp), State.raise_link, hlink, htime]
    rfl
  · exact hlink

/-- The host link after a host reset: empty but for the notices of the reset, its own first (R137, R158). -/
theorem State.link_hostReset (s : State) : ∃ more d, s.hostReset.link =
    { HostLink.afterReset with lastSent := s.link.lastSent, notices := s.restartNotices ++ more, dropped := d } := by
  have hlink : ∀ x : State, (s.portsReturned.foldl State.detect x).settleReady.link = x.link := fun x => by simp
  have hreset : s.hostReset = ((s.portsReturned.foldl State.detect
      (if s.portsReturned.isEmpty then s.hostCleared.queueRestart else s.hostCleared.queueRestart.reportCables)).settleReady).flush := rfl
  obtain ⟨more, d, hmore⟩ := ((s.portsReturned.foldl State.detect
    (if s.portsReturned.isEmpty then s.hostCleared.queueRestart else s.hostCleared.queueRestart.reportCables)).settleReady).flush_link_appends
  refine ⟨more, d, ?_⟩
  rw [hreset, hmore, hlink]
  have hsame : (if s.portsReturned.isEmpty then s.hostCleared.queueRestart else s.hostCleared.queueRestart.reportCables).link =
      s.hostCleared.queueRestart.link := by
    split
    · rfl
    · simp
  rw [hsame, State.link_queueRestart]

/-! #### The ports and the cells -/

/-- The detections that follow a return of ports to DOWN (R60). -/
theorem State.port_foldl_detect_of_down (l : List PortId) (hnodup : l.Nodup) (s : State) (hdown : ∀ p ∈ l, (s.port p).state = .down) (q : PortId) :
    (l.foldl State.detect s).port q = if q ∈ l ∧ (s.port q).signal = true ∧ (s.port q).retryBar = false
      then { s.port q with state := .training, trainingEnds := some (s.timeBase + ms (trainingWait s.config)) } else s.port q := by
  induction l generalizing s with
  | nil => simp
  | cons p l ih =>
    obtain ⟨hp, hnodup⟩ := List.nodup_cons.1 hnodup
    have hfirst := hdown p List.mem_cons_self
    have hother : ∀ q, q ≠ p → (s.detect p).port q = s.port q := fun q hq => by rw [State.port_detect, if_neg fun h => hq h.1.symm]
    have htime : (s.detect p).timeBase = s.timeBase := by simp
    have hconfig : (s.detect p).config = s.config := by simp
    rw [List.foldl_cons, ih hnodup (s.detect p) fun q hq => by
      rw [hother q fun h => hp (h ▸ hq)]
      exact hdown q (List.mem_cons_of_mem p hq)]
    rw [htime, hconfig]
    by_cases hq : q = p
    · subst hq
      rw [if_neg fun h => hp h.1, State.port_detect]
      simp [hfirst]
    · rw [hother q hq]
      simp [hq]

theorem State.reportedBy.foldl_detect (l : List PortId) (hnodup : l.Nodup) (h : s.reportedBy t) (htime : t.timeBase = s.timeBase)
    (hdown : ∀ p ∈ l, (t.port p).state = .down) : s.reportedBy (l.foldl State.detect t) := by
  induction l generalizing t with
  | nil => exact h
  | cons p l ih =>
    obtain ⟨hp, hnodup⟩ := List.nodup_cons.1 hnodup
    obtain ⟨-, -, hagain⟩ := t.detect_spec p (hdown p List.mem_cons_self)
    refine ih hnodup (hagain s htime h) (by simp [htime]) fun q hq => ?_
    have hpq : p ≠ q := fun h => hp (h ▸ hq)
    rw [State.port_detect, if_neg fun h => hpq h.1]
    exact hdown q (List.mem_cons_of_mem p hq)

theorem State.cell_foldl_loseCells_listed (l : List PortId) (s : State) (q : PortId) (hz : z ∈ allTargets) :
    (l.foldl State.loseCells s).cell z q = if q ∈ l ∧ z ∈ (s.port q).reach then (s.cell z q).cut else s.cell z q := by
  induction l generalizing s with
  | nil => simp
  | cons p l ih =>
    have hcell : (s.loseCells p).cell z q = if q = p ∧ z ∈ (s.port p).reach then (s.cell z q).cut else s.cell z q := by
      rw [State.loseCells_eq, State.foldl_cut_eq, State.cell_foldl_cut _ (fun y hy => by simpa using (List.mem_filter.1 hy).2)]
      simp [List.mem_filter, hz]
    rw [List.foldl_cons, ih, s.port_loseCells p, hcell]
    by_cases hq : q = p
    · subst hq
      by_cases hr : z ∈ (s.port q).reach <;> by_cases hl : q ∈ l <;> simp [hr, hl, Cell.cut_cut]
    · simp [hq]

/-- The ports a host reset takes into DOWN (R76). -/
theorem State.mem_portsReturned (s : State) (p : PortId) : p ∈ s.portsReturned ↔
    (s.port p).state = .off ∨ (s.port p).state = .quiescing ∨ (s.port p).state = .reset := by
  simp [State.portsReturned, List.mem_filter, PortState.beq_eq, or_assoc]

theorem State.nodup_portsReturned (s : State) : s.portsReturned.Nodup := List.Nodup.filter _ (by decide)

/-- The state in which a host reset makes its detections, with the cables reported where a port has returned (R76, R142). -/
def State.hostReported (s : State) : State :=
  if s.portsReturned.isEmpty then s.hostCleared.queueRestart else s.hostCleared.queueRestart.reportCables

theorem State.hostReset_eq (s : State) : s.hostReset = (s.portsReturned.foldl State.detect s.hostReported).close := rfl

theorem State.hostReported_frame (s : State) : s.hostReported.timeBase = s.timeBase ∧ s.hostReported.config = s.config ∧
    s.hostReported.ex = s.ex.hostReset ∧ s.hostReported.ports = s.ports.map Port.hostReset ∧
    s.hostReported.routes = s.loseQuiescingCells.routes ∧ s.hostReported.failover = Failover.empty := by
  obtain ⟨htime, -, hconfig, hex, -, hports, hroutes, hfailover, -⟩ := s.hostCleared.queueRestart_frame
  obtain ⟨htime', hconfig', -⟩ := s.hostCleared_frame
  unfold State.hostReported
  split
  · exact ⟨htime.trans htime', hconfig.trans hconfig', hex, hports, hroutes, hfailover⟩
  · simp only [State.reportCables_frame]
    exact ⟨htime.trans htime', hconfig.trans hconfig', hex, hports, hroutes, hfailover⟩

theorem State.port_hostReported (s : State) (p : PortId) : s.hostReported.port p = (s.port p).hostReset := by
  obtain ⟨-, -, -, hports, -⟩ := s.hostReported_frame
  simp [State.port, hports]

theorem State.port_hostReported_down (s : State) (p : PortId) (h : p ∈ s.portsReturned) : (s.hostReported.port p).state = .down := by
  rw [State.port_hostReported, Port.hostReset]
  rcases (s.mem_portsReturned p).1 h with h | h | h <;> rw [h]

theorem State.port_hostReset (s : State) (p : PortId) : s.hostReset.port p =
    if p ∈ s.portsReturned ∧ (s.port p).signal = true ∧ (s.port p).retryBar = false
    then { (s.port p).hostReset with state := .training, trainingEnds := some (s.timeBase + ms (trainingWait s.config)) }
    else (s.port p).hostReset := by
  obtain ⟨htime, hconfig, -⟩ := s.hostReported_frame
  have hkept : (s.port p).hostReset.signal = (s.port p).signal ∧ (s.port p).hostReset.retryBar = (s.port p).retryBar := by
    unfold Port.hostReset
    split <;> exact ⟨rfl, rfl⟩
  rw [State.hostReset_eq, State.port_close, State.port_foldl_detect_of_down _ s.nodup_portsReturned _ s.port_hostReported_down, s.port_hostReported, hkept.1, hkept.2,
    htime, hconfig]

theorem State.cell_hostReset (s : State) (hy : y ∈ allTargets) (p : PortId) : s.hostReset.cell y p =
    if (s.port p).state = .quiescing ∧ y ∈ (s.port p).reach then (s.cell y p).cut else s.cell y p := by
  obtain ⟨-, -, -, -, hroutes, -⟩ := s.hostReported_frame
  have hcell : s.hostReset.cell = s.loseQuiescingCells.cell := State.cell_congr (by simp [State.hostReset_eq, hroutes])
  rw [hcell, State.loseQuiescingCells, State.cell_foldl_loseCells_listed _ s p hy]
  simp [List.mem_filter, mem_allPorts, PortState.beq_eq]

/-! #### The table, the cache and the reports -/

theorem State.samePlacements_detect (s : State) (p : PortId) : s.samePlacements (s.detect p) := by
  unfold State.detect
  split
  · exact (s.portSet_announced p _ _ _).entries
  · exact .refl s

theorem State.entryAt_hostReset (s : State) (pl : Place) : s.hostReset.entryAt pl = none := by
  have hcleared : s.hostCleared.queueRestart.entryAt pl = none := by
    obtain ⟨-, -, -, -, hcache, -⟩ := s.hostCleared.queueRestart_frame
    rw [State.entryAt_congr hcache]
    simp [State.entryAt, State.cacheSet, State.hostCleared, CacheSet.empty]
  have hreported : s.hostCleared.queueRestart.samePlacements s.hostReported := by
    unfold State.hostReported
    split
    · exact .refl _
    · exact (State.reportCables_view _).2.2
  have hfold : s.hostReported.samePlacements (s.portsReturned.foldl State.detect s.hostReported) :=
    List.foldlRecOn (motive := fun t => s.hostReported.samePlacements t) _ State.detect (.refl _) fun t ht p _ => ht.trans (t.samePlacements_detect p)
  have hsame := (hreported.trans hfold) pl
  rw [hcleared] at hsame
  rw [State.hostReset_eq, State.entryAt_close]
  exact Option.map_eq_none_iff.1 hsame

theorem State.table_hostReset (s : State) : s.hostCleared.sameTable s.hostReset ∧ ∀ p, s.hostReset.ready p = [] := by
  obtain ⟨-, -, hex, -⟩ := s.hostReported_frame
  have hfold : (s.portsReturned.foldl State.detect s.hostReported).ex = s.hostCleared.ex := by simp [hex, State.hostCleared]
  refine ⟨(State.sameTable.of_ex hfold).trans (State.sameTable_close _), fun p => ?_⟩
  have hempty : s.hostCleared.ready p = [] ∧ s.hostCleared.ex.order = [] := by
    simp [State.ready, State.hostCleared, Exchanges.hostReset, Exchanges.empty]
  have hready : (s.portsReturned.foldl State.detect s.hostReported).ready p = [] := by
    rw [State.ready, hfold]
    exact hempty.1
  rw [State.hostReset_eq, State.ready_close, hready, hfold, hempty.2]
  rfl

theorem State.record_hostReset (s : State) (i : Slot) :
    s.hostReset.record i = if (s.live i).isSome then ⟨(s.record i).generation + 1, none⟩ else s.record i := by
  obtain ⟨hsame, -⟩ := s.table_hostReset
  have hrecord : s.hostReset.record i = s.hostCleared.record i := by rw [State.record, State.record, hsame.slots]
  rw [hrecord]
  simp [State.record, State.live, State.hostCleared, Exchanges.hostReset] <;> rfl

theorem RowBus.noteReport_withdrawn (now : Time) (own : Vector CableCount 15) (r : RowBus) : (r.noteReport now own).withdrawn = r.withdrawn := by
  unfold RowBus.noteReport RowBus.pendSighting
  dsimp only
  (repeat' split) <;> rfl

theorem State.queueRestart_kept (s : State) : s.hostCleared.queueRestart.timeBase = s.timeBase ∧
    s.hostCleared.queueRestart.station.id = s.station.id ∧ s.hostCleared.queueRestart.config = s.config ∧
    s.hostCleared.queueRestart.row = s.row.hostReset ∧ s.hostCleared.queueRestart.view = s.view := by
  obtain ⟨htime, hstation, hconfig, -, -, -, -, -, hrow, hview, -⟩ := s.hostCleared.queueRestart_frame
  obtain ⟨htime', hconfig', hview', -⟩ := s.hostCleared_frame
  exact ⟨htime.trans htime', by rw [hstation]; rfl, hconfig.trans hconfig', hrow, hview.trans hview'⟩

/-- What a host reset reports: nothing where no port has returned, and else the cables as they stand (R75, R76, R142). -/
theorem State.report_hostReset (s : State) :
    (s.portsReturned ≠ [] → ({ s with row := s.row.hostReset } : State).reportedBy s.hostReset) ∧
    (s.portsReturned = [] → s.hostReset.row = s.row.hostReset ∧ s.hostReset.view = s.view) := by
  obtain ⟨htime, hid, hconfig, hrow, hview⟩ := s.queueRestart_kept
  refine ⟨fun hsome => ?_, fun hnone => ?_⟩
  · have hreported : s.hostReported = s.hostCleared.queueRestart.reportCables := if_neg (by simpa [List.isEmpty_iff] using hsome)
    have hcount : s.hostCleared.queueRestart.reportCables.countAllCables = s.hostCleared.queueRestart.countAllCables :=
      State.countAllCables_congr (by simp) (by simp)
    have hfirst : ({ s with row := s.row.hostReset } : State).reportedBy s.hostReported := by
      rw [hreported, State.reportedBy_iff, hcount, State.reportCables_view_eq, State.reportCables_row, hrow, htime]
      generalize s.hostCleared.queueRestart = q at *
      exact ⟨State.viewWith_congr (s := { s with row := s.row.hostReset }) hview hconfig htime hid _, rfl⟩
    rw [State.hostReset_eq]
    exact (hfirst.foldl_detect _ s.nodup_portsReturned s.hostReported_frame.1 s.port_hostReported_down).close
  · have hreported : s.hostReported = s.hostCleared.queueRestart := if_pos (by rw [hnone]; rfl)
    rw [State.hostReset_eq, hnone, List.foldl_nil, hreported]
    simp only [State.close_frame]
    exact ⟨hrow, hview⟩

theorem State.failover_hostReset (s : State) : s.hostReset.failover = ⟨[], none⟩ := by
  obtain ⟨-, -, -, -, -, hfailover⟩ := s.hostReported_frame
  simp [State.hostReset_eq, hfailover, Failover.empty]

theorem State.viewWith_peers (s : State) (own : Vector CableCount 15) : (s.viewWith own).peers = s.view.peers :=
  (State.recomputeThose_view ({ s with view := { s.view with own := own } } : State) _).2

/-- The row bus and the peers that a host reset leaves, whatever it reports (R137). -/
theorem State.row_hostReset (s : State) : s.hostReset.row.withdrawn = false ∧ s.hostReset.row.phase = s.row.phase ∧
    s.hostReset.view.peers = s.view.peers := by
  obtain ⟨hreports, hsilent⟩ := s.report_hostReset
  obtain ⟨hphase, -, hwithdrawn, -⟩ := s.row.hostReset_eq
  by_cases hnone : s.portsReturned = []
  · obtain ⟨hrow, hview⟩ := hsilent hnone
    rw [hrow, hview]
    exact ⟨hwithdrawn, hphase, rfl⟩
  · obtain ⟨hview, hrow⟩ := State.reportedBy_iff.1 (hreports hnone)
    rw [hrow, hview, RowBus.noteReport_withdrawn, (RowBus.noteReport_pending _ _ _).1, State.viewWith_peers]
    exact ⟨hwithdrawn, hphase, rfl⟩

/-- The row bus after a host reset, as stated (R137). -/
theorem RowBus.hostReset_stated (r : RowBus) : r.hostReset = { r with
    withdrawn := false, driveFaultReported := false, lastConflict := none
    dueAtEnd := match r.phase with | .sending _ => true | _ => false
    pending := match r.phase with | .sending (.withdraw _) => .withdraw | _ => .sighting } := by
  unfold RowBus.hostReset
  cases hphase : r.phase with
  | sending f => cases f <;> rfl
  | _ => rfl

/-- The fields of a port's link that a host reset clears, where the port returns from QUIESCING or RESET (R76). -/
def Port.unheld (x : Port) : Port :=
  match x.state with
  | .quiescing => { x with credits := 0, silenceEnds := none, pendingProbes := [] }
  | .reset => { x with holdEnds := none }
  | _ => x

theorem Port.hostReset_of_returned {x : Port} (h : x.state = .off ∨ x.state = .quiescing ∨ x.state = .reset) :
    x.hostReset = { x.unheld with state := .down, pendingTraces := [] } := by
  unfold Port.hostReset Port.unheld
  rcases h with h | h | h <;> simp only [h]

theorem Port.hostReset_of_kept {x : Port} (h : ¬ (x.state = .off ∨ x.state = .quiescing ∨ x.state = .reset)) :
    x.hostReset = { x with pendingTraces := [] } := by
  unfold Port.hostReset
  cases hstate : x.state with
  | off => exact absurd (.inl hstate) h
  | quiescing => exact absurd (.inr (.inl hstate)) h
  | reset => exact absurd (.inr (.inr hstate)) h
  | down => rfl
  | training => rfl
  | up => rfl

end

/-- Settles O9: the same clearing for either form of the reset. -/
theorem hostResets : Obligations.HostResets := by
  intro s rest returns row clears
  have hclears : ∀ l : HostLink, clears [] (s.setLink l).hostReset := fun l => by
    have hreturns : ∀ p, p ∈ (s.setLink l).portsReturned ↔ returns p := fun p => (s.setLink l).mem_portsReturned p
    obtain ⟨htime, hconfig, -, hpending, -⟩ := (s.setLink l).hostReset_frame
    obtain ⟨htable, hready⟩ := (s.setLink l).table_hostReset
    obtain ⟨hreports, hsilent⟩ := (s.setLink l).report_hostReset
    obtain ⟨hwithdrawn, hphase, hpeers⟩ := (s.setLink l).row_hostReset
    obtain ⟨more, d, hlink⟩ := (s.setLink l).link_hostReset
    have hrow : (s.setLink l).row.hostReset = row := RowBus.hostReset_stated s.row
    have hempty : (s.setLink l).hostCleared.ex.free = List.finRange 512 ∧ (s.setLink l).hostCleared.ex.order = [] ∧
        (s.setLink l).hostCleared.ex.results = [] ∧ ∀ p, (s.setLink l).hostCleared.outstanding p = [] := by
      simp [State.hostCleared, Exchanges.hostReset, Exchanges.empty, State.outstanding]
    have hport := (s.setLink l).port_hostReset
    have hsome : (∃ p, returns p) ↔ (s.setLink l).portsReturned ≠ [] := by
      rw [Ne, List.eq_nil_iff_forall_not_mem, not_forall_not]
      exact exists_congr fun p => (hreturns p).symm
    have hreport : if ∃ p, returns p then ({ s with row := row } : State).reportedBy (s.setLink l).hostReset
        else (s.setLink l).hostReset.row = row ∧ (s.setLink l).hostReset.view = s.view := by
      rw [← hrow]
      split
      next h => exact State.reportedBy.before (hreports (hsome.1 h)) ⟨rfl, rfl, rfl, rfl, rfl⟩
      next h => exact hsilent (not_not.1 fun hc => h (hsome.2 hc))
    have hkept := (s.setLink l).record_hostReset
    have hentries := (s.setLink l).entryAt_hostReset
    have hfailover := (s.setLink l).failover_hostReset
    have hcells := fun y (hy : y ∈ allTargets) p => (s.setLink l).cell_hostReset hy p
    have hstation := (s.setLink l).hostReset_station
    generalize (s.setLink l).hostReset = t at *
    refine ⟨hstation, hconfig, htime, hpending, hkept, htable.free.trans hempty.1,
      htable.order.trans hempty.2.1, htable.results.trans hempty.2.2.1, fun p => ⟨?_, hready p⟩, hentries, hfailover, fun p => ?_, hcells, hreport,
      ?_⟩
    · rw [State.outstanding, htable.outstanding]
      exact hempty.2.2.2 p
    · intro x y
      have hsame : (s.setLink l).port p = x := rfl
      rw [hport, hsame]
      simp only [hreturns]
      by_cases hreturned : returns p
      · rw [if_pos hreturned, Port.hostReset_of_returned hreturned]
        exact if_congr (and_iff_right hreturned) rfl rfl
      · rw [if_neg hreturned, if_neg fun h => hreturned h.1]
        exact Port.hostReset_of_kept hreturned
    · rw [hlink]
      refine ⟨rfl, rfl, rfl, rfl, rfl, rfl, rfl, rfl, fun hheld => ?_, hwithdrawn, hphase, hpeers⟩
      dsimp only
      rw [State.restartNotices, if_pos (show (s.setLink l).row.lineFault = .heldLow from hheld)]
      rfl
  refine ⟨fun hup => ⟨_, ?_, hclears s.link⟩, fun hhead => ?_⟩
  · exact if_neg hup
  · have hexec : exec .hostReset s = .next (s.popIngress.hostReset.pushReply ⟨19, .done, .none⟩) := hhead.onRequest_eq (x := ()) rfl _
    rw [State.popIngress_eq hhead.head] at hexec
    obtain ⟨hstation, hconfig, htime, hpending, hkept, hfree, horder, hresults, hlists, hentries, hfailover, hports, hcells, hreport, hlink⟩ :=
      hclears (s.poppedLink rest)
    generalize (s.setLink (s.poppedLink rest)).hostReset = t at *
    obtain ⟨hingress, hwait, hfreed, hdue, hcredits, hrun, hreplies, hfirst, hsecond, hrest⟩ := hlink
    refine ⟨_, hexec, hstation, hconfig, htime, hpending, hkept, hfree, horder, hresults, hlists, hentries, hfailover, hports, hcells, ?_, hingress,
      hwait, hfreed, hdue, hcredits, hrun, ?_, hfirst, hsecond, hrest⟩
    · split at hreport
      next h => rw [if_pos h]; exact State.reportedBy.keep hreport rfl rfl (State.countAllCables_congr rfl rfl)
      next h => rw [if_neg h]; exact hreport
    · rw [State.pushReply_link, hreplies]
      rfl

end Sys2Proof.Machine

namespace Sys2Proof.Machine
open Sys2Proof

/-! ### O15: admissions -/

section
variable {s t u v : State} {a : Word32} {y : Nat} {pl pl' : Place} {c : Entry} {w : Fin 4} {i j : Slot} {b : Booking} {free : List Slot}
  {rest : List HostFrame}

/-- The pair's entry found or filled for an admission, at a place whose way has been used (R29 to R32). -/
structure State.Taken (s u : State) (a : Word32) (y : Nat) (pl : Place) (c : Entry) : Prop where
  same : s.sameButCache u
  place : u.findPlace a y = some pl
  entry : u.entryAt pl = some c
  others : ∀ pl', pl' ≠ pl → u.entryAt pl' = s.entryAt pl'
  pointers : (u.cacheSet pl.set).pointers = ((s.cacheSet pl.set).use pl.way).pointers
  sets : ∀ j, j ≠ pl.set → u.cacheSet j = s.cacheSet j

theorem CacheSet.pointers_use {x z : CacheSet} (h : x.pointers = z.pointers) (w : Fin 4) : (x.use w).pointers = (z.use w).pointers := by
  obtain ⟨hroot, hleft, hright⟩ : x.root = z.root ∧ x.left = z.left ∧ x.right = z.right := by simpa [CacheSet.pointers] using h
  unfold CacheSet.use
  (repeat' split) <;> simp [CacheSet.pointers, hroot, hleft, hright]

theorem State.taken_useWay (hsame : s.sameButCache v) (hplace : v.findPlace a y = some pl) (hentry : v.entryAt pl = some c)
    (hothers : ∀ pl', pl' ≠ pl → v.entryAt pl' = s.entryAt pl') (hpointers : (v.cacheSet pl.set).pointers = (s.cacheSet pl.set).pointers)
    (hsets : ∀ j, j ≠ pl.set → v.cacheSet j = s.cacheSet j) : s.Taken (v.useWay pl) a y pl c where
  same := hsame.trans (v.useWay_sameButCache pl)
  place := (State.findPlace_of_holds fun pl' => by rw [v.entryAt_useWay]).trans hplace
  entry := by rw [v.entryAt_useWay, hentry]
  others pl' h := by rw [v.entryAt_useWay, hothers pl' h]
  pointers := by
    rw [State.useWay, State.cacheSet_setCacheSet, if_pos rfl]
    exact CacheSet.pointers_use hpointers _
  sets j h := by rw [State.useWay, State.cacheSet_setCacheSet, if_neg (Ne.symm h), hsets j h]

theorem State.cacheSet_setEntryAt_other {j : Fin 64} (s : State) (e : Option Entry) (h : j ≠ pl.set) :
    (s.setEntryAt pl e).cacheSet j = s.cacheSet j := by
  rw [State.setEntryAt, State.cacheSet_setCacheSet, if_neg (Ne.symm h)]

theorem State.pointers_setEntryAt (s : State) (pl : Place) (e : Option Entry) (j : Fin 64) :
    ((s.setEntryAt pl e).cacheSet j).pointers = (s.cacheSet j).pointers := by
  rw [State.setEntryAt, State.cacheSet_setCacheSet]
  split
  next heq => rw [← heq]; rfl
  next => rfl

theorem State.set_of_findPlace (h : s.findPlace a y = some pl) : pl.set = setIndex a y := ((s.findPlace_eq_some_iff a y pl).1 h).1

theorem State.cacheSet_modEntryOf_other {j : Fin 64} (s : State) (a : Word32) (y : Nat) (f : Entry → Entry) (h : j ≠ setIndex a y) :
    (s.modEntryOf a y f).cacheSet j = s.cacheSet j := by
  unfold State.modEntryOf
  split
  next pl hpl => exact s.cacheSet_setEntryAt_other _ (by rwa [State.set_of_findPlace hpl])
  next => rfl

/-- An entry placed, or left unplaced, with its drain marks removed (R29, R34). -/
def Entry.placed (port : Option PortId) (e : Entry) : Entry := { e with port := port, quiesceMark := false, verdictMark := none }

theorem State.placePair_eq (s : State) (a : Word32) (y : Nat) (port : Option PortId) :
    s.placePair a y port = s.modEntryOf a y (Entry.placed port) := rfl

theorem State.findPlace_placePair (s : State) (a : Word32) (y : Nat) (port : Option PortId) : (s.placePair a y port).findPlace a y = s.findPlace a y :=
  s.findPlace_modEntryOf a y fun _ => rfl

/-- A hit (R29). -/
theorem State.taken_hit (hpl : s.findPlace a y = some pl) (hc : s.entryAt pl = some c) : ∃ u, s.takeEntry a y = some u ∧
    s.Taken u a y pl (if s.freshDue c then c.placed (s.selectFor a y) else c) := by
  have htake : s.takeEntry a y = some ((if s.freshDue c then s.placeBySelection a y else s).useWay pl) := by
    simp [State.takeEntry, hpl, hc]
  refine ⟨_, htake, ?_⟩
  split
  · have hentry : ∀ pl', (s.placeBySelection a y).entryAt pl' = if pl = pl' then some (c.placed (s.selectFor a y)) else s.entryAt pl' := fun pl' => by
      rw [State.placeBySelection, State.placePair_eq, State.entryAt_modEntryOf, hpl]
      by_cases h : pl = pl'
      · subst h
        simp [hc]
      · simp [h]
    refine State.taken_useWay (s.placeBySelection_sameButCache a y) ((s.findPlace_placePair a y _).trans hpl) (by rw [hentry, if_pos rfl])
      (fun pl' h => by rw [hentry, if_neg (Ne.symm h)]) (s.pointers_modEntryOf a y _ _) fun j h => s.cacheSet_modEntryOf_other a y _ ?_
    rwa [← State.set_of_findPlace hpl]
  · exact State.taken_useWay rfl hpl hc (fun _ _ => rfl) rfl fun _ _ => rfl

theorem State.findPlace_filled (hnone : s.findPlace a y = none) (c : Entry) (hc : c.session = a ∧ c.target = y) :
    (s.setEntryAt ⟨setIndex a y, w⟩ (some c)).findPlace a y = some ⟨setIndex a y, w⟩ := by
  cases hf : (s.setEntryAt ⟨setIndex a y, w⟩ (some c)).findPlace a y with
  | none =>
    refine absurd hc (State.not_holds_of_findPlace_none hf (pl := ⟨setIndex a y, w⟩) rfl ?_)
    rw [State.entryAt_setEntryAt, if_pos rfl]
  | some pl' =>
    by_cases h : (⟨setIndex a y, w⟩ : Place) = pl'
    · rw [h]
    · obtain ⟨c', hc', hholds⟩ := State.entryAt_of_findPlace hf
      rw [State.entryAt_setEntryAt, if_neg h] at hc'
      exact absurd hholds (State.not_holds_of_findPlace_none hnone (State.set_of_findPlace hf) hc')

/-- A miss with a way to take (R31). -/
theorem State.taken_miss (hnone : s.findPlace a y = none) (hw : (s.cacheSet (setIndex a y)).chooseWay = some w) :
    let pl : Place := ⟨setIndex a y, w⟩
    let port := (s.setEntryAt pl (some (Entry.fresh a y none))).selectFor a y
    ∃ u, s.takeEntry a y = some u ∧ s.Taken u a y pl (Entry.fresh a y port) := by
  intro pl port
  have htake : s.takeEntry a y = some (((s.setEntryAt pl (some (Entry.fresh a y none))).placeBySelection a y).useWay pl) := by
    simp only [State.takeEntry, hnone, hw, Option.map_some]
    rfl
  have hplace : (s.setEntryAt pl (some (Entry.fresh a y none))).findPlace a y = some pl := State.findPlace_filled hnone _ ⟨rfl, rfl⟩
  have hentry : ∀ pl', ((s.setEntryAt pl (some (Entry.fresh a y none))).placeBySelection a y).entryAt pl' =
      if pl = pl' then some (Entry.fresh a y port) else s.entryAt pl' := fun pl' => by
    rw [State.placeBySelection, State.placePair_eq, State.entryAt_modEntryOf, hplace, State.entryAt_setEntryAt]
    by_cases h : pl = pl'
    · subst h
      simp [Entry.placed, Entry.fresh, port]
    · simp [h]
  refine ⟨_, htake, State.taken_useWay ((s.setEntryAt_sameButCache pl _).trans (State.placeBySelection_sameButCache _ a y))
    ((State.findPlace_placePair _ a y _).trans hplace) (by rw [hentry, if_pos rfl]) (fun pl' h => by rw [hentry, if_neg (Ne.symm h)])
    ((State.pointers_modEntryOf _ a y _ _).trans (s.pointers_setEntryAt pl _ _)) fun j h => ?_⟩
  exact (State.cacheSet_modEntryOf_other _ a y _ h).trans (s.cacheSet_setEntryAt_other _ h)

/-! #### The entry of the exchange (R14) -/

/-- The admitted exchange's phase: WAITING where its pair has a port, HELD with a full HOLD LIMIT where it has none (R14). -/
def State.admittedPhase (s : State) (port : Option PortId) : Phase :=
  match port with
  | some _ => .waiting .firstSend
  | none => s.heldNow .firstSend

theorem State.pairPort_joined (hpl : u.findPlace b.session b.target.toNat = some pl) (hc : u.entryAt pl = some c) :
    (u.joined i free b).pairPort b.session b.target.toNat = c.port := by
  have hplace : (u.joined i free b).findPlace b.session b.target.toNat = some pl := by
    refine (State.findPlace_of_holds fun pl' => ?_).trans hpl
    rw [State.entryAt_joined, State.entryAt_raiseCount]
    split
    · cases u.entryAt pl' <;> rfl
    · rfl
  rw [State.pairPort, State.entryOf, hplace, Option.bind_some, State.entryAt_joined, State.entryAt_raiseCount, if_pos hpl, hc]
  rfl

theorem State.record_enter (hpl : u.findPlace b.session b.target.toNat = some pl) (hc : u.entryAt pl = some c) (j : Slot) :
    (u.enter i free b).record j = if i = j then ⟨(u.record i).generation, some (b.exchange (u.admittedPhase c.port))⟩ else u.record j := by
  rw [State.enter_eq, State.pairPort_joined hpl hc]
  cases c.port with
  | some p => exact u.record_joined i j free b
  | none =>
    dsimp only
    have hheld : (u.joined i free b).heldNow .firstSend = u.heldNow .firstSend := by simp [State.heldNow, State.joined]
    have hrecord : ((u.joined i free b).hold i .firstSend).record = ((u.joined i free b).setPhase i (u.heldNow .firstSend)).record :=
      State.record_of_ex (hheld ▸ ((u.joined i free b).hold_ex i .firstSend).1)
    rw [hrecord, State.record_setPhase, State.record_joined, State.record_joined, State.live_joined_self, if_pos rfl]
    split <;> rfl

theorem State.enter_rest (u : State) (i : Slot) (free : List Slot) (b : Booking) : (u.enter i free b).ex.free = free ∧
    (u.enter i free b).ex.order = u.ex.order ++ [i] ∧ (u.enter i free b).ex.results = u.ex.results ∧
    (u.enter i free b).ex.outstanding = u.ex.outstanding ∧ (u.enter i free b).link = u.link ∧ (u.enter i free b).config = u.config ∧
    (u.enter i free b).raised = u.raised ∧ (u.enter i free b).cache = (u.raiseCount b.session b.target.toNat).cache := by
  have hjoined : (u.joined i free b).ex.free = free ∧ (u.joined i free b).ex.order = u.ex.order ++ [i] ∧
      (u.joined i free b).ex.results = u.ex.results ∧ (u.joined i free b).ex.outstanding = u.ex.outstanding ∧
      (u.joined i free b).link = u.link ∧ (u.joined i free b).config = u.config ∧ (u.joined i free b).raised = u.raised ∧
      (u.joined i free b).cache = (u.raiseCount b.session b.target.toNat).cache := by
    have hcache : (u.joined i free b).cache = (u.raiseCount b.session b.target.toNat).cache := by
      have hfill : ∀ f : Entry → Entry, ((u.fillSlot i free (b.exchange (.waiting .firstSend))).modEntryOf b.session b.target.toNat f).cache =
          (u.modEntryOf b.session b.target.toNat f).cache := fun f => by
        have hplace : (u.fillSlot i free (b.exchange (.waiting .firstSend))).findPlace b.session b.target.toNat =
            u.findPlace b.session b.target.toNat := rfl
        unfold State.modEntryOf
        rw [hplace]
        split <;> rfl
      exact hfill _
    rw [State.joined_ex]
    exact ⟨rfl, rfl, rfl, rfl, by simp [State.joined, State.fillSlot], by simp [State.joined, State.fillSlot],
      by simp [State.joined, State.fillSlot], hcache⟩
  have hhold : ((u.joined i free b).hold i .firstSend).ex = { (u.joined i free b).ex with
      slots := ((u.joined i free b).hold i .firstSend).ex.slots } := by
    rw [((u.joined i free b).hold_ex i .firstSend).1]
    rfl
  rw [State.enter_eq]
  split
  · exact hjoined
  · rw [hhold]
    simpa using hjoined

theorem State.freshDue_iff (hpl : s.findPlace a y = some pl) (hc : s.entryAt pl = some c) : s.freshDue c = true ↔
    c.count = 0 ∧ (c.quiesceMark = true ∨ c.verdictMark.isSome = true ∨ c.port = none ∨
      ∃ p, c.port = some p ∧ ¬((s.port p).state = .up ∧ (s.cell y p).state = .good)) := by
  obtain ⟨c', hc', -, htarget⟩ := State.entryAt_of_findPlace hpl
  rw [hc] at hc'
  obtain rfl := Option.some.inj hc'
  rw [State.freshDue, htarget, Bool.and_eq_true, Entry.isIdle_eq_true, Bool.or_eq_true, Entry.marked, Bool.or_eq_true, or_assoc]
  refine and_congr_right fun _ => or_congr_right (or_congr_right ?_)
  cases c.port with
  | none => simp
  | some p => simp [← State.eligible_iff]

/-- The step of an admission whose pair has its entry (R14). -/
theorem State.admitted (hhead : s.BookingAtHead b rest) (hr : s.raised = []) (hfree : s.ex.free = i :: free) (hrefusal : s.refusal b = none)
    (htake : s.takeEntry b.session b.target.toNat = some u) (htaken : s.Taken u b.session b.target.toNat pl c) :
    ∃ t, exec .admission s = .next t ∧
      t.record i = ⟨(s.record i).generation, some (b.exchange (s.admittedPhase c.port))⟩ ∧
      (∀ j, j ≠ i → t.record j = s.record j) ∧ t.ex.free = free ∧ t.ex.order = s.ex.order ++ [i] ∧
      t.ex.results = s.ex.results ∧ t.ex.outstanding = s.ex.outstanding ∧ t.link = s.poppedLink rest ∧
      t.entryAt pl = some { c with count := c.count + 1 } ∧ (∀ pl', pl' ≠ pl → t.entryAt pl' = s.entryAt pl') ∧
      (t.cacheSet pl.set).pointers = ((s.cacheSet pl.set).use pl.way).pointers ∧ ∀ j, j ≠ pl.set → t.cacheSet j = s.cacheSet j := by
  have hexec : exec .admission s = .next (u.enter i free b).popIngress.close := by
    have hadmission : exec .admission s = execAdmission s := rfl
    rw [hadmission, hhead.execAdmission_eq, hfree]
    dsimp only
    rw [hrefusal]
    dsimp only
    rw [htake]
  obtain ⟨htime, -, hconfig, hlink, hex, -, -, -, -, -, hraised, -⟩ := State.takeEntry_frame htake
  obtain ⟨hfree', horder, hresults, hout, hlink', hconfig', hraised', hcache⟩ := u.enter_rest i free b
  have hrecord := State.record_enter (i := i) (free := free) htaken.place htaken.entry
  have hentries : ∀ pl', (u.enter i free b).entryAt pl' = (u.raiseCount b.session b.target.toNat).entryAt pl' := fun pl' => by
    rw [State.entryAt_congr hcache]
  have hpointers := u.pointers_modEntryOf b.session b.target.toNat (fun e => { e with count := e.count + 1 }) pl.set
  have hsets : ∀ j, j ≠ pl.set → (u.raiseCount b.session b.target.toNat).cacheSet j = u.cacheSet j := fun j h =>
    u.cacheSet_modEntryOf_other _ _ _ (by rwa [← State.set_of_findPlace htaken.place])
  have hphase : u.admittedPhase c.port = s.admittedPhase c.port := by simp only [State.admittedPhase, State.heldNow, htime, hconfig]
  rw [hphase] at hrecord
  have hurecord : u.record = s.record := State.record_of_ex hex
  generalize u.enter i free b = v at *
  have hpopped : v.popIngress.link = s.poppedLink rest := by
    rw [State.popIngress_link (f := .booking b) (rest := rest) (by rw [hlink', hlink, hhead.head]), State.poppedLink, hlink', hlink, hconfig',
      hconfig]
    rfl
  have htable := (State.sameTable.of_ex v.popIngress_ex).trans (State.sameTable_close v.popIngress)
  have htrecord : v.popIngress.close.record = v.record := by rw [State.record_close, State.record_of_ex v.popIngress_ex]
  have htentry : v.popIngress.close.entryAt = v.entryAt := by rw [State.entryAt_close, State.entryAt_congr v.popIngress_cache]
  have htset : v.popIngress.close.cacheSet = (u.raiseCount b.session b.target.toNat).cacheSet :=
    State.cacheSet_congr (by simp [hcache])
  have htlink : v.popIngress.close.link = s.poppedLink rest := by
    rw [State.close_link_of_raised_nil (by simp [hraised', hraised, hr]), hpopped]
  generalize v.popIngress.close = t at *
  refine ⟨t, hexec, ?_, fun j hj => ?_, htable.free.trans hfree', htable.order.trans (by rw [horder, hex]), htable.results.trans (by rw [hresults, hex]),
    htable.outstanding.trans (by rw [hout, hex]), htlink, ?_, fun pl' h => ?_, ?_, fun j h => ?_⟩
  · rw [htrecord, hrecord, if_pos rfl, hurecord]
  · rw [htrecord, hrecord, if_neg (Ne.symm hj), hurecord]
  · rw [htentry, hentries, State.entryAt_raiseCount, if_pos htaken.place, htaken.entry]
    rfl
  · rw [htentry, hentries, State.entryAt_raiseCount, htaken.place, if_neg fun hc => h (Option.some.inj hc).symm, htaken.others pl' h]
  · rw [htset, ← htaken.pointers]
    exact hpointers
  · rw [htset, hsets j h, htaken.sets j h]

end

/-- Settles O15: a hit with or without a fresh placement, and a miss. -/
theorem admittedRequestsEnterTheTable : Obligations.AdmittedRequestsEnterTheTable := by
  intro s b rest i free hhead hr hfree hrefusal session target enters
  have hphase : ∀ port : Option PortId, s.admittedPhase port = match port with
      | some _ => .waiting .firstSend
      | none => .held .firstSend (s.timeBase + ms (holdLimit s.config)) := fun port => by cases port <;> rfl
  have hadmitted : ∀ {u : State} {pl : Place} {c : Entry}, s.takeEntry b.session b.target.toNat = some u →
      s.Taken u b.session b.target.toNat pl c → ∃ t, exec .admission s = .next t ∧ enters c.port pl c t := fun {u pl c} htake htaken => by
    obtain ⟨t, hexec, hrecord, hrest⟩ := State.admitted hhead hr hfree hrefusal htake htaken
    rw [hphase] at hrecord
    exact ⟨t, hexec, hrecord, hrest⟩
  refine ⟨fun pl e hpl he => ?_, fun w hnone hw => ?_⟩
  · obtain ⟨u, htake, htaken⟩ := State.taken_hit hpl he
    have hdue := State.freshDue_iff hpl he
    split
    next h =>
      rw [if_pos (hdue.2 h)] at htaken
      exact hadmitted htake htaken
    next h =>
      rw [if_neg fun hc => h (hdue.1 hc)] at htaken
      exact hadmitted htake htaken
  · intro pl port
    obtain ⟨u, htake, htaken⟩ := State.taken_miss hnone hw
    exact hadmitted htake htaken

end Sys2Proof.Machine

namespace Sys2Proof.Machine
open Sys2Proof

/-! ### O19: CONFIGURE -/

section
variable {s t u v : State} {p q : PortId} {y z : Nat}

/-! #### Probes that fall due under a changed interval (R81, R165) -/

/-- The due moment of the probe of a monitored cell has been reached (R81). -/
def State.probeDue (s : State) (y : Nat) (p : PortId) : Bool := s.monitored y p && expired s.timeBase (dueAt s.config (s.cell y p))

theorem State.fallDue_eq (s : State) (y : Nat) (p : PortId) : s.fallDue y p = if s.probeDue y p then s.joinProbe y p else s := rfl

/-- Port p, its cells, the Time Base and the configuration are the same in two states. -/
structure State.SameAt (s t : State) (p : PortId) : Prop where
  port : t.port p = s.port p
  cells : ∀ y, t.cell y p = s.cell y p
  time : t.timeBase = s.timeBase
  config : t.config = s.config

theorem State.SameAt.refl (s : State) (p : PortId) : s.SameAt s p := ⟨rfl, fun _ => rfl, rfl, rfl⟩

theorem State.SameAt.trans (h : s.SameAt t p) (g : t.SameAt u p) : s.SameAt u p :=
  ⟨g.port.trans h.port, fun y => (g.cells y).trans (h.cells y), g.time.trans h.time, g.config.trans h.config⟩

theorem State.SameAt.probeDue (h : s.SameAt t p) (y : Nat) : t.probeDue y p = s.probeDue y p := by
  simp only [State.probeDue, State.monitored, h.port, h.cells, h.time, h.config]

theorem State.port_fallDue_self (s : State) (y : Nat) (p : PortId) :
    (s.fallDue y p).port p = if s.probeDue y p then (s.port p).probing y else s.port p := by
  rw [State.fallDue_eq]
  split
  · exact s.port_joinProbe y p
  · rfl

theorem State.cell_fallDue_self (s : State) (p : PortId) (hy : y ∈ allTargets) (z : Nat) :
    (s.fallDue y p).cell z p = if y = z ∧ s.probeDue y p then { s.cell y p with pending := true } else s.cell z p := by
  rw [State.fallDue_eq]
  split
  next hdue =>
    rw [congrFun (s.cells_joinProbe p hy) z, setCellOf]
    simp [hdue]
  next hdue => simp [hdue]

theorem State.SameAt.fallDue (h : s.SameAt t p) (hy : y ∈ allTargets) : (s.fallDue y p).SameAt (t.fallDue y p) p where
  port := by rw [State.port_fallDue_self, State.port_fallDue_self, h.probeDue, h.port]
  cells z := by rw [State.cell_fallDue_self t p hy, State.cell_fallDue_self s p hy, h.probeDue, h.cells, h.cells]
  time := by simp [h.time]
  config := by simp [h.config]

theorem State.sameAt_fallDue (s : State) (y : Nat) (hq : p ≠ q) : s.SameAt (s.fallDue y q) p where
  port := (s.onPort_fallDue y q).port p hq
  cells z := (s.onPort_fallDue y q).cell p hq z
  time := by simp
  config := by simp

/-- Of one target's turn port p sees its own cell's alone. -/
theorem State.sameAt_turn (s : State) (hy : y ∈ allTargets) (p : PortId) :
    (s.fallDue y p).SameAt (allPorts.foldl (fun v q => v.fallDue y q) s) p := by
  obtain ⟨l, m, hsplit, hl, hm⟩ := allPorts_split p
  have hothers : ∀ (l : List PortId) (u : State), p ∉ l → u.SameAt (l.foldl (fun v q => v.fallDue y q) u) p := fun l u hl =>
    List.foldlRecOn (motive := fun v => u.SameAt v p) l _ (.refl u p) fun v hv q hq =>
      hv.trans (v.sameAt_fallDue y fun h => hl (h ▸ hq))
  rw [hsplit, List.foldl_append, List.foldl_cons]
  exact ((hothers l s hl).fallDue hy).trans (hothers m _ hm)

theorem State.sameAt_fallDueAll (s : State) (p : PortId) : (allTargets.foldl (fun u y => u.fallDue y p) s).SameAt s.fallDueAll p := by
  have hfold : ∀ (l : List Nat), (∀ y ∈ l, y ∈ allTargets) → ∀ u v : State, u.SameAt v p →
      (l.foldl (fun u y => u.fallDue y p) u).SameAt (l.foldl (fun u y => allPorts.foldl (fun v q => v.fallDue y q) u) v) p := fun l => by
    induction l with
    | nil => exact fun _ u v h => h
    | cons y l ih =>
      intro hl u v h
      have hy := hl y List.mem_cons_self
      exact ih (fun z hz => hl z (List.mem_cons_of_mem y hz)) _ _ ((h.fallDue hy).trans (v.sameAt_turn hy p))
  exact hfold allTargets (fun _ => id) s s (.refl s p)

/-- The probes of one port that have fallen due join the pending probes in target order (R81). -/
theorem State.foldl_fallDue (p : PortId) (l : List Nat) (hl : ∀ y ∈ l, y ∈ allTargets) (honce : l.Nodup) (s : State) :
    let t := l.foldl (fun u y => u.fallDue y p) s
    t.port p = { s.port p with
      pendingProbes := (s.port p).pendingProbes ++ l.filter (fun y => s.probeDue y p && !(s.port p).pendingProbes.contains y) } ∧
    ∀ z, t.cell z p = if z ∈ l ∧ s.probeDue z p then { s.cell z p with pending := true } else s.cell z p := by
  induction l generalizing s with
  | nil => exact ⟨by simp, fun z => by simp⟩
  | cons y l ih =>
    obtain ⟨hy, honce⟩ := List.nodup_cons.1 honce
    have hyt := hl y List.mem_cons_self
    have hport : (s.fallDue y p).port p = { s.port p with
        pendingProbes := (s.port p).pendingProbes ++ (if s.probeDue y p && !(s.port p).pendingProbes.contains y then [y] else []) } := by
      rw [State.port_fallDue_self, Port.probing]
      cases s.probeDue y p <;> cases (s.port p).pendingProbes.contains y <;> simp
    have hcell := s.cell_fallDue_self p hyt
    have hother : ∀ z, z ≠ y → (s.fallDue y p).cell z p = s.cell z p := fun z hz => by rw [hcell, if_neg fun h => hz h.1.symm]
    have hdue : ∀ z, z ≠ y → (s.fallDue y p).probeDue z p = s.probeDue z p := fun z hz => by
      simp only [State.probeDue, State.monitored, hother z hz, hport, State.fallDue_frame]
    obtain ⟨hports, hcells⟩ := ih (fun z hz => hl z (List.mem_cons_of_mem y hz)) honce (s.fallDue y p)
    have hne : ∀ z ∈ l, z ≠ y := fun z hz h => hy (h ▸ hz)
    refine ⟨?_, fun z => ?_⟩
    · have hfilter : l.filter (fun z => (s.fallDue y p).probeDue z p && !((s.fallDue y p).port p).pendingProbes.contains z) =
          l.filter (fun z => s.probeDue z p && !(s.port p).pendingProbes.contains z) := List.filter_congr fun z hz => by
        rw [hdue z (hne z hz), hport]
        have hnot : (if s.probeDue y p && !(s.port p).pendingProbes.contains y then [y] else []).contains z = false := by
          split <;> simp [hne z hz]
        dsimp only
        rw [List.contains_append, hnot, Bool.or_false]
      rw [List.foldl_cons, hports, hfilter, hport, List.filter_cons]
      split <;> simp
    · rw [List.foldl_cons, hcells]
      by_cases hz : z = y
      · subst hz
        rw [if_neg fun h => hy h.1, hcell]
        simp
      · rw [hdue z hz, hother z hz]
        simp [hz]

end

end Sys2Proof.Machine

namespace Sys2Proof.Machine
open Sys2Proof

/-! ### O19: the effects of CONFIGURE's items, block by block -/

section
variable {s t : State} {p : PortId} {y sw : Nat} {after : Config.Settings}

theorem itemChanges_iff (before after : Config.Settings) (n : Nat) : itemChanges before after n = true ↔ item before n ≠ item after n :=
  bne_iff_ne

/-- The state with the new set and its limits on the cells, before any probe falls due. -/
def State.underItems (s : State) (after : Config.Settings) : State :=
  ({ s with config := after } : State).mapCells (Cell.underLimits s.config after)

theorem State.cell_underItems (s : State) (after : Config.Settings) (hy : y ∈ allTargets) (p : PortId) :
    (s.underItems after).cell y p = (s.cell y p).underLimits s.config after := by
  have hrange : 1 ≤ y ∧ y ≤ 63 := by
    simpa [allTargets, Nat.lt_succ_iff] using hy
  simp [State.cell, hrange, State.underItems, State.mapCells]

theorem State.probeDue_underItems (s : State) (after : Config.Settings) (hy : y ∈ allTargets) (p : PortId) :
    (s.underItems after).probeDue y p = true ↔ (s.cell y p).state ≠ .absent ∧ (s.port p).state.linked = true ∧
      (s.cell y p).inFlight = none ∧ (s.cell y p).pending = false ∧ ∃ sentAt, (s.cell y p).lastSend = some sentAt ∧
        reached s.timeBase (sentAt + ms (max 1 (baseProbeInterval after /
          2 ^ (if (s.cell y p).state = .lost then 0 else (s.cell y p).step)))) = true := by
  have hdue : ∀ x : Cell, expired s.timeBase (dueAt after x) = true ↔ x.inFlight = none ∧ x.pending = false ∧
      ∃ sentAt, x.lastSend = some sentAt ∧ reached s.timeBase (sentAt + ms (max 1 (baseProbeInterval after /
        2 ^ (if x.state = .lost then 0 else x.step)))) = true := fun x => by
    unfold dueAt
    cases x.inFlight <;> cases x.pending <;> cases x.lastSend <;> simp [expired, probeIntervalUs, ms]
  rw [State.probeDue, Bool.and_eq_true, State.monitored_iff, State.cell_underItems s after hy]
  rw [and_assoc]
  exact and_congr_right' (and_congr_right' (hdue ((s.cell y p).underLimits s.config after)))

/-- The probes that fall due on one port join its pending probes in target order, and their cells are pending (R81). -/
theorem State.fallDueAll_joins (s : State) (p : PortId) :
    (∃ joining, s.fallDueAll.port p = { s.port p with pendingProbes := (s.port p).pendingProbes ++ joining } ∧
      joining.Pairwise (· < ·) ∧ ∀ y, y ∈ joining ↔ y ∈ allTargets ∧ s.probeDue y p = true ∧ y ∉ (s.port p).pendingProbes) ∧
    ∀ y ∈ allTargets, s.fallDueAll.cell y p = { s.cell y p with pending := (s.cell y p).pending || s.probeDue y p } := by
  have hsame := s.sameAt_fallDueAll p
  have hsorted : allTargets.Pairwise (· < ·) := List.pairwise_lt_range'
  obtain ⟨hport, hcell⟩ := State.foldl_fallDue p allTargets (fun _ => id) (hsorted.imp Nat.ne_of_lt) s
  refine ⟨⟨_, hsame.port.trans hport, hsorted.filter _, fun y => ?_⟩, fun y hy => ?_⟩
  · simp [List.mem_filter]
  · rw [hsame.cells, hcell]
    cases s.probeDue y p <;> simp [hy]

/-- The state once the probes that a changed BASE PROBE INTERVAL has made due have joined. -/
def State.probesMoved (s : State) (after : Config.Settings) : State :=
  if itemChanges s.config after 7 then (s.underItems after).fallDueAll else s.underItems after

@[simp] theorem State.probesMoved_frame (s : State) (after : Config.Settings) : (s.probesMoved after).timeBase = s.timeBase ∧
    (s.probesMoved after).station = s.station ∧ (s.probesMoved after).config = after ∧ (s.probesMoved after).cache = s.cache ∧
    (s.probesMoved after).row = s.row ∧ (s.probesMoved after).view = s.view := by
  unfold State.probesMoved State.underItems State.mapCells
  split <;> simp

/-! The later effects of the items, in order: each acts where one of its items changes between the sets c and d. -/

/-- The sightings due move with their items (R165). -/
def State.retimed (c d : Config.Settings) (s : State) : State :=
  if itemChanges c d 16 || itemChanges c d 17 then s.setRow (s.row.retime s.timeBase d) else s

/-- The limits of the peer view table change (R141). -/
def limitsChange (c d : Config.Settings) : Bool := itemChanges c d 16 || itemChanges c d 18 || itemChanges c d 19

/-- The limits of the verdicts change (R146). -/
def verdictsChange (c d : Config.Settings) : Bool := limitsChange c d || itemChanges c d 20 || itemChanges c d 21

/-- Entries past the expiry threshold leave under changed limits. -/
def State.agedOut (c d : Config.Settings) (s : State) : State := if limitsChange c d then s.dropExpired else s

/-- Every verdict is recomputed under changed limits. -/
def State.rejudged (c d : Config.Settings) (s : State) : State := if verdictsChange c d then s.recomputeThose (fun _ => true) else s

/-- A return is due where the freed credits have reached a changed CREDIT BATCH (R153). -/
def State.returnsDue (c d : Config.Settings) (s : State) : State :=
  if itemChanges c d 26 && decide (creditBatch d ≤ s.link.freed) then s.setLink { s.link with returnDue := true } else s

theorem State.applyItems_eq (s : State) (d : Config.Settings) :
    s.applyItems d = ((((s.probesMoved d).retimed s.config d).agedOut s.config d).rejudged s.config d).returnsDue s.config d := rfl

@[simp] theorem State.retimed_frame (c d : Config.Settings) (s : State) : (s.retimed c d).timeBase = s.timeBase ∧
    (s.retimed c d).station = s.station ∧ (s.retimed c d).config = s.config ∧ (s.retimed c d).cache = s.cache ∧
    (s.retimed c d).ports = s.ports ∧ (s.retimed c d).routes = s.routes ∧ (s.retimed c d).view = s.view := by
  unfold State.retimed
  split <;> simp

@[simp] theorem State.agedOut_frame (c d : Config.Settings) (s : State) : (s.agedOut c d).timeBase = s.timeBase ∧
    (s.agedOut c d).station = s.station ∧ (s.agedOut c d).config = s.config ∧ (s.agedOut c d).cache = s.cache ∧
    (s.agedOut c d).ports = s.ports ∧ (s.agedOut c d).routes = s.routes ∧ (s.agedOut c d).row = s.row ∧
    (s.agedOut c d).view.own = s.view.own := by
  unfold State.agedOut State.dropExpired
  split <;> simp

@[simp] theorem State.rejudged_frame (c d : Config.Settings) (s : State) : (s.rejudged c d).ports = s.ports ∧
    (s.rejudged c d).routes = s.routes ∧ (s.rejudged c d).row = s.row ∧ (s.rejudged c d).view.own = s.view.own ∧
    (s.rejudged c d).view.peers = s.view.peers := by
  unfold State.rejudged
  split <;> simp

@[simp] theorem State.returnsDue_frame (c d : Config.Settings) (s : State) : (s.returnsDue c d).cache = s.cache ∧
    (s.returnsDue c d).ports = s.ports ∧ (s.returnsDue c d).routes = s.routes ∧ (s.returnsDue c d).row = s.row ∧
    (s.returnsDue c d).view = s.view := by
  unfold State.returnsDue
  split <;> simp

theorem State.applyItems_fabric (s : State) (d : Config.Settings) :
    (s.applyItems d).ports = (s.probesMoved d).ports ∧ (s.applyItems d).routes = (s.probesMoved d).routes := by
  simp [State.applyItems_eq]

theorem State.applyItems_row (s : State) (d : Config.Settings) :
    (s.applyItems d).row = if itemChanges s.config d 16 || itemChanges s.config d 17 then s.row.retime s.timeBase d else s.row := by
  simp only [State.applyItems_eq, State.returnsDue_frame, State.rejudged_frame, State.agedOut_frame, State.retimed]
  split <;> simp [State.setRow]

theorem State.applyItems_own (s : State) (d : Config.Settings) : (s.applyItems d).view.own = s.view.own := by
  simp [State.applyItems_eq]

theorem State.applyItems_peers (s : State) (d : Config.Settings) (i : StationId) :
    (s.applyItems d).peer i = if limitsChange s.config d then
      (s.peer i).filter (fun e => decide ((elapsed s.timeBase e.time).toNat ≤ expiryLimit d * sightingPeriod d * 1000))
    else s.peer i := by
  have hpeers : (s.applyItems d).view.peers = (((s.probesMoved d).retimed s.config d).agedOut s.config d).view.peers := by
    simp [State.applyItems_eq]
  simp only [State.peer, hpeers, State.agedOut]
  split
  · have hpast : ∀ e, ((s.probesMoved d).retimed s.config d).pastExpiry e =
        !decide ((elapsed s.timeBase e.time).toNat ≤ expiryLimit d * sightingPeriod d * 1000) := fun e => by
      simp only [State.pastExpiry, State.age, expiryUs, State.retimed_frame, State.probesMoved_frame]
      rw [← decide_not]
      exact decide_eq_decide.2 Nat.not_le.symm
    simp only [State.dropExpired, Fin.getElem_fin, Vector.getElem_map, State.retimed_frame, State.probesMoved_frame]
    cases s.view.peers[i.val] with
    | none => rfl
    | some e =>
      rw [Option.any_some, hpast, Option.filter]
      cases decide ((elapsed s.timeBase e.time).toNat ≤ expiryLimit d * sightingPeriod d * 1000) <;> rfl
  · simp

theorem State.applyItems_verdict (s : State) (d : Config.Settings) (hsw : sw ∈ allSwitches) :
    (s.applyItems d).verdict sw = if verdictsChange s.config d then
      (({ s with config := d, view := { s.view with peers := (s.applyItems d).view.peers } } : State).recompute sw).verdict sw
    else s.verdict sw := by
  have haged : (((s.probesMoved d).retimed s.config d).agedOut s.config d).view =
      { s.view with peers := (s.applyItems d).view.peers } := by
    have hpeers : (s.applyItems d).view.peers = (((s.probesMoved d).retimed s.config d).agedOut s.config d).view.peers := by
      simp [State.applyItems_eq]
    rw [hpeers]
    unfold State.agedOut State.dropExpired
    split <;> simp
  have hverdict : (s.applyItems d).verdict sw =
      ((((s.probesMoved d).retimed s.config d).agedOut s.config d).rejudged s.config d).verdict sw := by
    simp only [State.verdict, State.applyItems_eq, State.returnsDue_frame]
  rw [hverdict, State.rejudged]
  split
  · rw [State.verdict_recomputeThose _ _ hsw, if_pos rfl]
    exact congrArg (fun v : RowView => bySwitch v.verdicts VerdictRecord.afterReset sw)
      (State.view_recompute_congr (s := { s with config := d, view := { s.view with peers := (s.applyItems d).view.peers } })
        hsw haged (by simp) (by simp) (by simp))
  · exact (congrArg (fun v : RowView => bySwitch v.verdicts VerdictRecord.afterReset sw) haged).trans rfl

theorem State.samePlacements_rejudged (c d : Config.Settings) (s : State) : s.samePlacements (s.rejudged c d) := by
  unfold State.rejudged
  split
  · exact State.samePlacements_recomputeThose _ _
  · exact .refl _

theorem State.samePlacements_applyItems (s : State) (d : Config.Settings) : s.samePlacements (s.applyItems d) := by
  have hbefore : s.samePlacements (((s.probesMoved d).retimed s.config d).agedOut s.config d) := .of_cache (by simp)
  have hafter := State.samePlacements_rejudged s.config d (((s.probesMoved d).retimed s.config d).agedOut s.config d)
  rw [State.applyItems_eq]
  exact (hbefore.trans hafter).trans (.of_cache (State.returnsDue_frame _ _ _).1)

end
end Sys2Proof.Machine

namespace Sys2Proof.Machine
open Sys2Proof

/-! ### O19: CONFIGURE settled -/

section
variable {s t : State} {p : PortId} {y sw : Nat}

/-- The probe of the cell falls due because BASE PROBE INTERVAL changes (R81, R165). -/
def State.probeMoved (s : State) (d : Config.Settings) (y : Nat) (p : PortId) : Prop :=
  item s.config 7 ≠ item d 7 ∧ (s.cell y p).state ≠ .absent ∧ (s.port p).state.linked = true ∧ (s.cell y p).inFlight = none ∧
    (s.cell y p).pending = false ∧ ∃ sentAt, (s.cell y p).lastSend = some sentAt ∧
      reached s.timeBase (sentAt + ms (max 1 (baseProbeInterval d /
        2 ^ (if (s.cell y p).state = .lost then 0 else (s.cell y p).step)))) = true

theorem State.probeMoved_iff (s : State) (d : Config.Settings) (hy : y ∈ allTargets) (p : PortId) :
    s.probeMoved d y p ↔ itemChanges s.config d 7 = true ∧ (s.underItems d).probeDue y p = true := by
  rw [itemChanges_iff, State.probeDue_underItems s d hy]
  rfl

theorem State.applyItems_port (s : State) (d : Config.Settings) (p : PortId) : ∃ joining,
    (s.applyItems d).port p = { s.port p with pendingProbes := (s.port p).pendingProbes ++ joining } ∧
      joining.Pairwise (· < ·) ∧ ∀ y, y ∈ joining ↔ y ∈ allTargets ∧ s.probeMoved d y p ∧ y ∉ (s.port p).pendingProbes := by
  have hport : (s.applyItems d).port p = (s.probesMoved d).port p := by
    simp only [State.port, (s.applyItems_fabric d).1]
  rw [hport, State.probesMoved]
  split
  next hchanges =>
    obtain ⟨⟨joining, hjoined, hsorted, hmem⟩, -⟩ := (s.underItems d).fallDueAll_joins p
    refine ⟨joining, hjoined, hsorted, fun y => (hmem y).trans (and_congr_right fun hy => ?_)⟩
    rw [s.probeMoved_iff d hy, and_iff_right hchanges]
    rfl
  next hchanges =>
    refine ⟨[], by rw [List.append_nil]; rfl, .nil, fun y => iff_of_false List.not_mem_nil ?_⟩
    rintro ⟨hy, hmoved, -⟩
    exact hchanges ((s.probeMoved_iff d hy p).1 hmoved).1

theorem State.applyItems_cell (s : State) (d : Config.Settings) (hy : y ∈ allTargets) (p : PortId) : ∃ pending,
    (s.applyItems d).cell y p = { (s.cell y p).underLimits s.config d with pending := pending } ∧
      (pending = true ↔ (s.cell y p).pending = true ∨ s.probeMoved d y p) := by
  have hcell : (s.applyItems d).cell y p = (s.probesMoved d).cell y p := by
    simp only [State.cell, (s.applyItems_fabric d).2]
  have hlimits := s.cell_underItems d hy p
  rw [hcell, State.probesMoved, s.probeMoved_iff d hy]
  split
  next hchanges =>
    refine ⟨(s.cell y p).pending || (s.underItems d).probeDue y p, ?_, by simp [hchanges]⟩
    rw [((s.underItems d).fallDueAll_joins p).2 y hy, hlimits]
    rfl
  next hchanges => exact ⟨(s.cell y p).pending, hlimits, by simp [hchanges]⟩

/-- A sighting is pending where a moved moment has been reached and one may be (R135, R165). -/
theorem RowBus.retime_of_sent (now : Time) (d : Config.Settings) (r : RowBus) {sent : Time} (hsent : r.lastSent = some sent) :
    r.retime now d = { r with
      periodicDue := some (sent + ms (sightingPeriod d)), changeEarliest := some (sent + ms (sightingSpacing d))
      pending := if (reached now (sent + ms (sightingPeriod d)) = true ∨
          (r.changeWanted = true ∧ reached now (sent + ms (sightingSpacing d)) = true)) ∧
        r.pending = .none ∧ r.withdrawn = false ∧ r.phase ≠ .silent then .sighting else r.pending } := by
  have hdue : ∀ b : Bool, ∀ P : Prop, [Decidable P] → (b = true ↔ P) → ∀ r' : RowBus,
      (if b = true then r'.pendSighting else r') = { r' with
        pending := if P ∧ r'.pending = .none ∧ r'.withdrawn = false ∧ r'.phase ≠ .silent then .sighting else r'.pending } := by
    intro b P _ hb r'
    have hP : P = (b = true) := propext hb.symm
    subst hP
    cases b
    · simp
    · by_cases hmay : r'.pending = .none ∧ r'.withdrawn = false ∧ r'.phase ≠ .silent <;> simp [RowBus.pendSighting, hmay]
  rw [RowBus.retime, hsent]
  exact hdue _ _ (by simp [expired, RowBus.changeDue]) _

theorem RowBus.retime_of_unsent (now : Time) (d : Config.Settings) (r : RowBus) (hsent : r.lastSent = none) : r.retime now d = r := by
  rw [RowBus.retime, hsent]

theorem State.RequestAtHead.execConfigure_eq {args : List Byte} {rest : List HostFrame} (h : s.RequestAtHead 1 args rest)
    {items : List (Nat × Nat)} (hitems : argsConfigure args = some items) :
    exec .configure s = .next ((ownConfigure items s.popIngress).state.pushReply
      ⟨1, (ownConfigure items s.popIngress).status, (ownConfigure items s.popIngress).body⟩) := by
  have hexec : exec .configure s = execConfigure s := rfl
  rw [hexec, execConfigure, h.controlHead_eq]
  simp only [State.takeControl, hitems]
  exact if_pos rfl

/-- CONFIGURE taken: the items act on the state whose frame has left the ingress queue. -/
theorem State.RequestAtHead.configured {args : List Byte} {rest : List HostFrame} (h : s.RequestAtHead 1 args rest)
    {items : List (Nat × Nat)} (hitems : argsConfigure args = some items) (hlock : s.station.locked = false)
    (hstate : s.station.state = .standby) :
    exec .configure s = .next (((s.popIngress.applyItems (clampAll (givenItems s.config items))).close).pushReply
      ⟨1, .done, .clamped (clampedItems (givenItems s.config items))⟩) := by
  have hown : ownConfigure items s.popIngress = ⟨(s.popIngress.applyItems (clampAll (givenItems s.config items))).close, .done,
      .clamped (clampedItems (givenItems s.config items))⟩ := by
    have hp := State.popIngress_eq h.head
    rw [ownConfigure, hp]
    simp [State.setLink, hlock, hstate]
  rw [h.execConfigure_eq hitems, hown]

/-- The reply and the notices of a CONFIGURE leave what its items have done. -/
theorem State.configured_frame (w : State) (r : Reply) :
    (w.close.pushReply r).config = w.config ∧ (w.close.pushReply r).station = w.station ∧ w.sameTable (w.close.pushReply r) ∧
    (w.close.pushReply r).cache = w.cache ∧ (w.close.pushReply r).failover = w.failover ∧ (w.close.pushReply r).ports = w.ports ∧
    (w.close.pushReply r).routes = w.routes ∧ (w.close.pushReply r).row = w.row ∧ (w.close.pushReply r).view = w.view ∧
    (w.close.pushReply r).link.ingress = w.link.ingress ∧ (w.close.pushReply r).link.replies = w.link.replies ++ [r] ∧
    (w.close.pushReply r).link.freed = w.link.freed ∧ (w.close.pushReply r).link.returnDue = w.link.returnDue := by
  have hclose := w.close_frame
  obtain ⟨more, dropped, hlink⟩ := w.settleReady.flush_link_appends
  have hclosed : w.close.link = { w.link with notices := w.link.notices ++ more, dropped := dropped } := hlink
  have htable := w.sameTable_close
  have hpush : (w.close.pushReply r).link = { w.close.link with replies := w.close.link.replies ++ [r] } := rfl
  rw [hclosed] at hpush
  generalize w.close = u at hclose htable hpush ⊢
  obtain ⟨-, hstation, hconfig, hcache, hports, hroutes, hfailover, hrow, hview, -⟩ := hclose
  exact ⟨hconfig, hstation, htable.trans (.of_ex rfl), hcache, hfailover, hports, hroutes, hrow, hview, by rw [hpush], by rw [hpush], by rw [hpush],
    by rw [hpush]⟩

/-- Settles O19: the items' effects block by block on the state whose frame has left the ingress queue. -/
theorem configureSetsItems : Obligations.ConfigureSetsItems := by
  unfold Obligations.ConfigureSetsItems
  intro s args rest items hhead hitems
  refine ⟨fun hlock => ?_, fun hlock hstate => ?_⟩
  · have hown : ownConfigure items s.popIngress = ⟨s.popIngress, .locked, .clamped []⟩ := if_pos hlock
    rw [hhead.execConfigure_eq hitems, hown, State.popIngress_pushReply_eq hhead.head]
  · intro given
    refine ⟨_, hhead.configured hitems hlock hstate, ?_⟩
    have hlink := s.popIngress.applyItems_link (clampAll given)
    rw [State.popIngress_link hhead.head] at hlink
    have hframe := State.configured_frame (s.popIngress.applyItems (clampAll given)) ⟨1, .done, .clamped (clampedItems given)⟩
    have hrow := s.popIngress.applyItems_row (clampAll given)
    have hitemsFrame := s.popIngress.applyItems_frame (clampAll given)
    have hplaces : s.samePlacements (s.popIngress.applyItems (clampAll given)) :=
      (State.samePlacements.of_cache rfl).trans (s.popIngress.samePlacements_applyItems _)
    have hport := s.popIngress.applyItems_port (clampAll given)
    have hcell := fun y hy => s.popIngress.applyItems_cell (y := y) (clampAll given) hy
    have hpeers := s.popIngress.applyItems_peers (clampAll given)
    have hverdict := fun sw hsw => s.popIngress.applyItems_verdict (sw := sw) (clampAll given) hsw
    have hown := s.popIngress.applyItems_own (clampAll given)
    have hconfig := s.popIngress.applyItems_config (clampAll given)
    generalize s.popIngress.applyItems (clampAll given) = w at *
    generalize w.close.pushReply ⟨1, .done, .clamped (clampedItems given)⟩ = t at *
    obtain ⟨htconfig, htstation, httable, htcache, htfailover, htports, htroutes, htrow, htview, htingress, htreplies, htfreed, htdue⟩ := hframe
    obtain ⟨-, hwstation, hwex, hwfailover, -⟩ := hitemsFrame
    rw [hconfig] at htconfig
    have htable : s.sameTable w := .of_ex hwex
    refine ⟨htconfig, htstation.trans hwstation, by rw [htingress, hlink]; rfl, by rw [htreplies, hlink]; rfl,
      htable.trans httable, hplaces.trans (.of_cache htcache), htfailover.trans hwfailover, ?_⟩
    rw [htconfig]
    intro changed due
    have htport : ∀ p, t.port p = w.port p := fun p => by simp only [State.port, htports]
    have htcell : ∀ y p, t.cell y p = w.cell y p := fun y p => by simp only [State.cell, htroutes]
    have htpeer : ∀ i, t.peer i = w.peer i := fun i => by simp only [State.peer, htview]
    have htverdict : ∀ sw, t.verdict sw = w.verdict sw := fun sw => by simp only [State.verdict, htview]
    refine ⟨fun p => ?_, fun y hy p => ?_, ?_, fun i => ?_, by rw [htview, hown]; rfl, ?_, by rw [htfreed, hlink], ?_⟩
    · rw [htport]
      exact hport p
    · rw [htcell]
      exact hcell y hy p
    · simp only [Bool.or_eq_true, itemChanges_iff] at hrow
      by_cases hchange : changed 16 ∨ changed 17
      · have hretime : t.row = s.row.retime s.timeBase (clampAll given) := htrow.trans (hrow.trans (if_pos hchange))
        rw [if_pos hchange, hretime]
        split
        next hsent => exact RowBus.retime_of_unsent _ _ _ hsent
        next sent hsent => exact RowBus.retime_of_sent _ _ _ hsent
      · rw [if_neg hchange]
        exact htrow.trans (hrow.trans (if_neg hchange))
    · rw [htpeer, hpeers]
      simp only [limitsChange, Bool.or_eq_true, itemChanges_iff, or_assoc]
      rfl
    · intro u sw hsw
      have hsame : (({ s.popIngress with
          config := clampAll given, view := { s.popIngress.view with peers := w.view.peers } } : State).recompute sw).view =
          (u.recompute sw).view := State.view_recompute_congr hsw (by simp only [u, htview] <;> rfl) rfl rfl rfl
      rw [htverdict, hverdict sw hsw]
      simp only [verdictsChange, limitsChange, Bool.or_eq_true, itemChanges_iff, or_assoc]
      exact if_congr Iff.rfl (congrArg (fun v : RowView => bySwitch v.verdicts VerdictRecord.afterReset sw) hsame) rfl
    · rw [htdue, hlink]
      simp only [Bool.or_eq_true, Bool.and_eq_true, itemChanges_iff, decide_eq_true_eq]
      rfl

end
end Sys2Proof.Machine
